-- ==== Sys2Proof/Word.lean ====
section
/-!
DEFINITION. The words the manual counts in: positions, repeat numbers, lane sets, event sets, and the indices of
lanes and slots (00_scope.md, Conventions). Only what the manual treats as bits is a bit vector.
-/

namespace Sys2Proof

/-- A web or belt position: a 32-bit count that wraps (00_scope.md, Positions and distances). -/
abbrev Pos := BitVec 32

/-- One 16-bit word of a frame, or a quantity that fits one (R194). -/
abbrev Word16 := BitVec 16

/-- A repeat number, 0..65,535, wrapping (00_scope.md, Repeat numbers). -/
abbrev RepeatNo := BitVec 16

/-- A stack sequence of one lane, 0..65,535, wrapping (R123). -/
abbrev Seq := BitVec 16

/-- A lane set or lane mask: eight flags, lane 1 in the least significant place (00_scope.md, Indices). -/
abbrev LaneSet := BitVec 8

/-- A set of events, event number n in bit n (R194). -/
abbrev EventSet := BitVec 32

/-- A lane. Lane n of the manual (1..8) is index n − 1. -/
abbrev Lane := Fin 8

/-- A slot of the stack record log, 0..31 (R148). -/
abbrev SlotIndex := Fin 32

/-- The eight lanes, lane 1 first. -/
def allLanes : List Lane := [0, 1, 2, 3, 4, 5, 6, 7]

/-- The 32 slots, slot 0 first. -/
def allSlots : List SlotIndex :=
  [0, 1, 2, 3, 4, 5, 6, 7] ++ [8, 9, 10, 11, 12, 13, 14, 15] ++
  [16, 17, 18, 19, 20, 21, 22, 23] ++ [24, 25, 26, 27, 28, 29, 30, 31]

end Sys2Proof
end

