-- ==== Sys2Proof/Syntax.lean ====
section
/-!
DEFINITION. The commands of the part: one constructor of `Instr` for every row of spec/opcode_table.json, and the
types of their operands.
-/

namespace Sys2Proof

/-- The three station links, in the order of 00_scope.md. -/
inductive StationLink where
  | line
  | inspection
  | delivery
  deriving DecidableEq, Repr

/-- The two encoders: web and belt (R1). -/
inductive Axis where
  | web
  | belt
  deriving DecidableEq, Repr

/-- The sign of a count (R1). -/
inductive Direction where
  | forward
  | reverse
  deriving DecidableEq, Repr

/-- A logic level. Numbered from 0 in the order HIGH, LOW (R194 with the table of R175). -/
inductive Level where
  | high
  | low
  deriving DecidableEq, Repr

/-- The 17 outputs with a sense line: the knife, eight gates, eight pushers (R169). -/
inductive Output where
  | knife
  | gate (l : Lane)
  | pusher (l : Lane)
  deriving DecidableEq, Repr

/-- What was shifted into a link during one frame: how many bits, and the whole words among them, first word first
(R192). -/
structure Frame where
  bits : Nat
  words : List Word16
  deriving DecidableEq, Repr

/-- The requests of the request table (11, Layouts). -/
inductive Request where
  | nop | readStatus | readEvents | ackEvents | setEventMask | readRepeat | readRecord | haltRequest
  | setProfileField | readProfile | commitProfile | cancelCommit | setMode | resetTrack | queueOrder | cancelOrder
  | laneResume | laneClear | lineReject | readCounters | clearCounters | setDiagEnable
  | verdict | fetchNotice
  | fetchRecord | ackRecord | closeNow
  deriving DecidableEq, Repr

/-- The result codes, in the order of their values (11, Layouts). -/
inductive Result where
  | ok | busy | mode | range | geometry | denied | format | full | unknown | late | notReady | noStack | state
  | faultActive | empty
  deriving DecidableEq, Repr

/-- The commands. Every request row carries the link it was taken from. Numbers that a rule tests against a range are
plain numbers, so that a value outside the range can be written and is answered as the rule says. -/
inductive Instr where
  /-- DEVICE_RESET (R190): the RESET pin or power-up. -/
  | deviceReset
  /-- COUNT_ARRIVAL (R1): one signed count of one encoder. -/
  | countArrival (axis : Axis) (dir : Direction)
  /-- SKIPPED_TRANSITION (R2). -/
  | skippedTransition (axis : Axis)
  /-- SPEED_SAMPLE (R7). -/
  | speedSample
  /-- MARK_LEADING_EDGE (R14). -/
  | markLeadingEdge
  /-- MARK_TRAILING_EDGE (R15). -/
  | markTrailingEdge
  /-- QUALIFICATION_POINT (R15). -/
  | qualificationPoint
  /-- WINDOW_OPENING (R16). -/
  | windowOpening
  /-- WINDOW_EXPIRY (R19). -/
  | windowExpiry
  /-- VIRTUAL_MARK_TARGET (R22). -/
  | virtualMarkTarget
  /-- FIRE_POSITION (R59). -/
  | firePosition
  /-- KNIFE_CONFIRM (R63): a rising KCONF edge. -/
  | knifeConfirm
  /-- CONFIRM_WINDOW_EXPIRY (R64). -/
  | confirmWindowExpiry
  /-- KNIFE_PULSE_END (R164). -/
  | knifePulseEnd
  /-- KNIFE_OFF_TIME_END (R164). -/
  | knifeOffTimeEnd
  /-- SPLICE_DETECTION (R56): a rising SPLDET edge. -/
  | spliceDetection
  /-- LAST_STAMP_EXPIRY (R74). -/
  | lastStampExpiry
  /-- CAMERA_POSITION (R81) of the record of one repeat. -/
  | cameraPosition (repeatNo : RepeatNo)
  /-- CAMERA_PULSE_END (R166). -/
  | cameraPulseEnd
  /-- DECISION_POSITION (R84) of the record of one repeat. `lanes` are the lanes whose decisions are taken now, in
  the order in which they are taken; a lane left out decides at a later row (R98, R150; Log 6). -/
  | decisionPosition (repeatNo : RepeatNo) (lanes : List Lane)
  /-- REJECT_END_EXPIRY (R113) of one lane. -/
  | rejectEndExpiry (lane : Lane)
  /-- RECORD_EXIT (R86) of the record of one repeat. -/
  | recordExit (repeatNo : RepeatNo)
  /-- PURGE_END (R79). -/
  | purgeEnd
  /-- EJECT_POSITION (R128) of one lane's eject-list head. -/
  | ejectPosition (lane : Lane)
  /-- PUSHER_PULSE_END (R165). -/
  | pusherPulseEnd (lane : Lane)
  /-- PUSHER_OFF_TIME_END (R165). -/
  | pusherOffTimeEnd (lane : Lane)
  /-- GATE_HOLD_END (R167). -/
  | gateHoldEnd (lane : Lane)
  /-- SENSE_LINE_CHANGE (R170): the sense line of an output now stands at `level`. Low is the fault level. -/
  | senseLineChange (output : Output) (level : Level)
  /-- INACTIVE_TIME_ELAPSED (R170): the output's inactive time reaches 1 ms. -/
  | inactiveTimeElapsed (output : Output)
  /-- OPEN_LOAD_LATCH (R170): the output's open-load time reaches 2 ms. -/
  | openLoadLatch (output : Output)
  /-- STOP_INPUT_ACTIVE (R188). -/
  | stopInputActive
  /-- SELECT_ASSERT (R193). -/
  | selectAssert (link : StationLink)
  /-- BROKEN_FRAME (R192): a frame that fails a check of R192. -/
  | brokenFrame (link : StationLink) (frame : Frame)
  /-- NOP (R193). -/
  | nop (link : StationLink)
  /-- READ_STATUS (R197). -/
  | readStatus (link : StationLink) (page : Nat)
  /-- READ_EVENTS (R196). -/
  | readEvents (link : StationLink)
  /-- ACK_EVENTS (R196). -/
  | ackEvents (link : StationLink) (events : EventSet)
  /-- SET_EVENT_MASK (R196). -/
  | setEventMask (link : StationLink) (events : EventSet)
  /-- READ_REPEAT (R198). -/
  | readRepeat (link : StationLink) (repeatNo : RepeatNo) (part : Nat)
  /-- READ_RECORD (R155). -/
  | readRecord (link : StationLink) (slot : Nat)
  /-- HALT_REQUEST (R187). -/
  | haltRequest (link : StationLink)
  /-- SET_PROFILE_FIELD (R176). -/
  | setProfileField (link : StationLink) (field : Nat) (value : Nat)
  /-- READ_PROFILE (R177): selector 0 ACTIVE, 1 PENDING (R194). -/
  | readProfile (link : StationLink) (selector : Nat) (field : Nat)
  /-- COMMIT_PROFILE (R178): source 0 IMMEDIATE, 1 NEXT_MARK, 2 SPLICE, 3 AT_REPEAT (R194). -/
  | commitProfile (link : StationLink) (source : Nat) (repeatNo : RepeatNo)
  /-- CANCEL_COMMIT (R182). -/
  | cancelCommit (link : StationLink)
  /-- SET_MODE (R185): target 0 RUN, 1 DRY, 2 STOP (R194). -/
  | setMode (link : StationLink) (target : Nat)
  /-- RESET_TRACK (R189). -/
  | resetTrack (link : StationLink)
  /-- QUEUE_ORDER (R121). `lane` is the manual's lane number. -/
  | queueOrder (link : StationLink) (lane : Nat) (tag : BitVec 8) (job : Nat) (target : Nat) (nogap final : Bool)
  /-- CANCEL_ORDER (R132). -/
  | cancelOrder (link : StationLink) (lane : Nat) (tag : BitVec 8)
  /-- LANE_RESUME (R135). -/
  | laneResume (link : StationLink) (lane : Nat)
  /-- LANE_CLEAR (R141). -/
  | laneClear (link : StationLink) (lane : Nat)
  /-- LINE_REJECT (R100). -/
  | lineReject (link : StationLink) (first : RepeatNo) (count : Nat) (mask : LaneSet)
  /-- READ_COUNTERS (R199). -/
  | readCounters (link : StationLink) (group : Nat)
  /-- CLEAR_COUNTERS (R200). -/
  | clearCounters (link : StationLink)
  /-- SET_DIAG_ENABLE (R169). -/
  | setDiagEnable (link : StationLink) (knife : Bool) (gates pushers : LaneSet)
  /-- VERDICT (R94). -/
  | verdict (link : StationLink) (repeatNo : RepeatNo) (mask : LaneSet) (defectClass : BitVec 8)
  /-- FETCH_NOTICE (R83). -/
  | fetchNotice (link : StationLink)
  /-- FETCH_RECORD (R154): selector 0 ANY, otherwise the lane number (R194). -/
  | fetchRecord (link : StationLink) (selector : Nat)
  /-- ACK_RECORD (R156). -/
  | ackRecord (link : StationLink) (slot : Nat) (seq : Seq)
  /-- CLOSE_NOW (R133). -/
  | closeNow (link : StationLink) (lane : Nat)
  /-- STOP_INPUT_INACTIVE (R188). -/
  | stopInputInactive
  deriving DecidableEq, Repr

end Sys2Proof
end

