-- ==== Sys2Proof/Decode.lean ====
section
/-!
DEFINITION. What bits the manual gives the commands: the request codes, payload lengths and rights of the request
table, the checks of a frame (R192), the command that a frame spells and the frame of a request, the result codes (11,
Layouts); and `decodeTableWord`.
-/

namespace Sys2Proof

/-- No row of spec/opcode_table.json gives any bits, so no word spells a command (Log 4). -/
def decodeTableWord (_nbits _w : Nat) : Option Instr := none

/-- The request codes (11, Requests). -/
def Request.code : Request → BitVec 8
  | .nop => 0x00 | .readStatus => 0x01 | .readEvents => 0x02 | .ackEvents => 0x03 | .setEventMask => 0x04
  | .readRepeat => 0x05 | .readRecord => 0x06 | .haltRequest => 0x07
  | .setProfileField => 0x10 | .readProfile => 0x11 | .commitProfile => 0x12 | .cancelCommit => 0x13
  | .setMode => 0x14 | .resetTrack => 0x15 | .queueOrder => 0x16 | .cancelOrder => 0x17 | .laneResume => 0x18
  | .laneClear => 0x19 | .lineReject => 0x1A | .readCounters => 0x1B | .clearCounters => 0x1C
  | .setDiagEnable => 0x1D
  | .verdict => 0x20 | .fetchNotice => 0x21
  | .fetchRecord => 0x30 | .ackRecord => 0x31 | .closeNow => 0x32

/-- The payload length L that each request code requires (11, Requests). -/
def Request.payloadLength : Request → Nat
  | .nop => 0 | .readStatus => 1 | .readEvents => 0 | .ackEvents => 2 | .setEventMask => 2
  | .readRepeat => 2 | .readRecord => 1 | .haltRequest => 0
  | .setProfileField => 3 | .readProfile => 2 | .commitProfile => 2 | .cancelCommit => 0
  | .setMode => 1 | .resetTrack => 0 | .queueOrder => 4 | .cancelOrder => 2 | .laneResume => 1
  | .laneClear => 1 | .lineReject => 3 | .readCounters => 1 | .clearCounters => 0
  | .setDiagEnable => 2
  | .verdict => 2 | .fetchNotice => 0
  | .fetchRecord => 1 | .ackRecord => 2 | .closeNow => 1

/-- Every request, in the order of the codes. -/
def allRequests : List Request :=
  [.nop, .readStatus, .readEvents, .ackEvents, .setEventMask, .readRepeat, .readRecord, .haltRequest,
    .setProfileField, .readProfile, .commitProfile, .cancelCommit, .setMode, .resetTrack, .queueOrder, .cancelOrder,
    .laneResume, .laneClear, .lineReject, .readCounters, .clearCounters, .setDiagEnable,
    .verdict, .fetchNotice, .fetchRecord, .ackRecord, .closeNow]

/-- The request a code names, or none (R192, first check). -/
def requestOfCode (c : BitVec 8) : Option Request := allRequests.find? (fun q => q.code == c)

/-- The set of rights of each link: codes 00h to 07h on every link, 10h to 1Dh on the line link, 20h and 21h on the
inspection link, 30h to 32h on the delivery link (11, Requests). -/
def Request.allowedOn (q : Request) (k : StationLink) : Bool :=
  if q.code.toNat < 0x10 then true
  else if q.code.toNat < 0x20 then k == .line
  else if q.code.toNat < 0x30 then k == .inspection
  else k == .delivery

/-- The checks of R192 in their order. `none`: the frame passes them all and is taken as its request's own row.
Otherwise the code echoed in the response header and the result. -/
def Frame.refusal (k : StationLink) (f : Frame) : Option (BitVec 8 × Result) :=
  if f.bits = 0 ∨ f.bits % 16 ≠ 0 ∨ f.bits > 256 then some (0, .format)
  else match f.words with
    | [] => some (0, .format)
    | header :: payload =>
      let code := header.extractLsb' 8 8
      let len := (header.extractLsb' 0 4).toNat
      match requestOfCode code with
      | none => some (code, .format)
      | some q =>
        if header.extractLsb' 4 4 ≠ 0 then some (code, .format)
        else if payload.length < len ∨ len ≠ q.payloadLength then some (code, .format)
        else if q.allowedOn k then none
        else some (code, .denied)

/-! ## The words of a request (R192, R194)

The operands stand in the order in which the rule of the request lists them. R194 makes a quantity one word and a 32-bit
quantity two, the more significant first, and the payload lengths of the table leave one place for each; where they
leave two narrow operands one word, the first is in bits 7..0, as 11 lays out VERDICT (Log 31). -/

/-- A payload word; a payload that passed the checks has the words its request needs. -/
def payloadWord (ws : List Word16) (i : Nat) : Word16 := ws.getD i 0

/-- Bits 7..0 and bits 15..8 of a word. -/
def lowByte (w : Word16) : BitVec 8 := w.extractLsb' 0 8
def highByte (w : Word16) : BitVec 8 := w.extractLsb' 8 8

/-- The command that a request and its payload words spell. -/
def Request.command (q : Request) (k : StationLink) (ws : List Word16) : Instr :=
  let w := payloadWord ws
  let n (i : Nat) : Nat := (w i).toNat
  match q with
  | .nop => .nop k
  | .readStatus => .readStatus k (n 0)
  | .readEvents => .readEvents k
  | .ackEvents => .ackEvents k (w 0 ++ w 1)
  | .setEventMask => .setEventMask k (w 0 ++ w 1)
  | .readRepeat => .readRepeat k (w 0) (n 1)
  | .readRecord => .readRecord k (n 0)
  | .haltRequest => .haltRequest k
  | .setProfileField => .setProfileField k (n 0) (w 1 ++ w 2).toNat
  | .readProfile => .readProfile k (n 0) (n 1)
  | .commitProfile => .commitProfile k (n 0) (w 1)
  | .cancelCommit => .cancelCommit k
  | .setMode => .setMode k (n 0)
  | .resetTrack => .resetTrack k
  | .queueOrder =>
    .queueOrder k (lowByte (w 0)).toNat (highByte (w 0)) (n 1) (n 2) ((w 3).getLsbD 0) ((w 3).getLsbD 1)
  | .cancelOrder => .cancelOrder k (n 0) (lowByte (w 1))
  | .laneResume => .laneResume k (n 0)
  | .laneClear => .laneClear k (n 0)
  | .lineReject => .lineReject k (w 0) (n 1) (lowByte (w 2))
  | .readCounters => .readCounters k (n 0)
  | .clearCounters => .clearCounters k
  | .setDiagEnable => .setDiagEnable k ((w 0).getLsbD 0) (lowByte (w 1)) (highByte (w 1))
  | .verdict => .verdict k (w 0) (lowByte (w 1)) (highByte (w 1))
  | .fetchNotice => .fetchNotice k
  | .fetchRecord => .fetchRecord k (n 0)
  | .ackRecord => .ackRecord k (n 0) (w 1)
  | .closeNow => .closeNow k (n 0)

/-- The command that a whole frame spells: the code of its header names the request, the L words after the header are
its payload, and the fill words beyond them are ignored (R192). None when the code is no request's. -/
def Frame.command (k : StationLink) (f : Frame) : Option Instr :=
  match f.words with
  | [] => none
  | header :: rest =>
    (requestOfCode (header.extractLsb' 8 8)).map
      (fun q => q.command k (rest.take (header.extractLsb' 0 4).toNat))

/-! ### Requests as words, the other way -/

/-- The request a command brings, and the link it was taken from. -/
def Instr.request : Instr → Option (StationLink × Request)
  | .nop k => some (k, .nop)
  | .readStatus k _ => some (k, .readStatus)
  | .readEvents k => some (k, .readEvents)
  | .ackEvents k _ => some (k, .ackEvents)
  | .setEventMask k _ => some (k, .setEventMask)
  | .readRepeat k _ _ => some (k, .readRepeat)
  | .readRecord k _ => some (k, .readRecord)
  | .haltRequest k => some (k, .haltRequest)
  | .setProfileField k _ _ => some (k, .setProfileField)
  | .readProfile k _ _ => some (k, .readProfile)
  | .commitProfile k _ _ => some (k, .commitProfile)
  | .cancelCommit k => some (k, .cancelCommit)
  | .setMode k _ => some (k, .setMode)
  | .resetTrack k => some (k, .resetTrack)
  | .queueOrder k _ _ _ _ _ _ => some (k, .queueOrder)
  | .cancelOrder k _ _ => some (k, .cancelOrder)
  | .laneResume k _ => some (k, .laneResume)
  | .laneClear k _ => some (k, .laneClear)
  | .lineReject k _ _ _ => some (k, .lineReject)
  | .readCounters k _ => some (k, .readCounters)
  | .clearCounters k => some (k, .clearCounters)
  | .setDiagEnable k _ _ _ => some (k, .setDiagEnable)
  | .verdict k _ _ _ => some (k, .verdict)
  | .fetchNotice k => some (k, .fetchNotice)
  | .fetchRecord k _ => some (k, .fetchRecord)
  | .ackRecord k _ _ => some (k, .ackRecord)
  | .closeNow k _ => some (k, .closeNow)
  | .deviceReset | .countArrival _ _ | .skippedTransition _ | .speedSample | .markLeadingEdge | .markTrailingEdge
  | .qualificationPoint | .windowOpening | .windowExpiry | .virtualMarkTarget | .firePosition | .knifeConfirm
  | .confirmWindowExpiry | .knifePulseEnd | .knifeOffTimeEnd | .spliceDetection | .lastStampExpiry
  | .cameraPosition _ | .cameraPulseEnd | .decisionPosition _ _ | .rejectEndExpiry _ | .recordExit _ | .purgeEnd
  | .ejectPosition _ | .pusherPulseEnd _ | .pusherOffTimeEnd _ | .gateHoldEnd _ | .senseLineChange _ _
  | .inactiveTimeElapsed _ | .openLoadLatch _ | .stopInputActive | .selectAssert _ | .brokenFrame _ _
  | .stopInputInactive => none

/-- A number as a payload word. -/
def numberWord (n : Nat) : Word16 := BitVec.ofNat 16 n

/-- A quantity of 32 bits as payload words, the more significant first (R194). -/
def pairWords (v : BitVec 32) : List Word16 := [v.extractLsb' 16 16, v.extractLsb' 0 16]

/-- Two flags in bits 0 and 1 of a word. -/
def flagWord (a b : Bool) : Word16 := (if a then 1 else 0) ||| (if b then 2 else 0)

/-- The payload words of a request row (R194; Log 31); a row that is no request has none. -/
def Instr.payloadWords : Instr → List Word16
  | .readStatus _ page => [numberWord page]
  | .ackEvents _ m | .setEventMask _ m => pairWords m
  | .readRepeat _ n part => [n, numberWord part]
  | .readRecord _ slot => [numberWord slot]
  | .setProfileField _ field value => numberWord field :: pairWords (BitVec.ofNat 32 value)
  | .readProfile _ selector field => [numberWord selector, numberWord field]
  | .commitProfile _ source n => [numberWord source, n]
  | .setMode _ target => [numberWord target]
  | .queueOrder _ lane tag job target nogap final =>
    [tag ++ BitVec.ofNat 8 lane, numberWord job, numberWord target, flagWord nogap final]
  | .cancelOrder _ lane tag => [numberWord lane, tag.setWidth 16]
  | .laneResume _ lane | .laneClear _ lane | .closeNow _ lane => [numberWord lane]
  | .lineReject _ first count mask => [first, numberWord count, mask.setWidth 16]
  | .readCounters _ group => [numberWord group]
  | .setDiagEnable _ knife gates pushers => [flagWord knife false, pushers ++ gates]
  | .verdict _ n mask defectClass => [n, defectClass ++ mask]
  | .fetchRecord _ selector => [numberWord selector]
  | .ackRecord _ slot seq => [numberWord slot, seq]
  | .nop _ | .readEvents _ | .haltRequest _ | .cancelCommit _ | .resetTrack _ | .clearCounters _ | .fetchNotice _ => []
  | .deviceReset | .countArrival _ _ | .skippedTransition _ | .speedSample | .markLeadingEdge | .markTrailingEdge
  | .qualificationPoint | .windowOpening | .windowExpiry | .virtualMarkTarget | .firePosition | .knifeConfirm
  | .confirmWindowExpiry | .knifePulseEnd | .knifeOffTimeEnd | .spliceDetection | .lastStampExpiry
  | .cameraPosition _ | .cameraPulseEnd | .decisionPosition _ _ | .rejectEndExpiry _ | .recordExit _ | .purgeEnd
  | .ejectPosition _ | .pusherPulseEnd _ | .pusherOffTimeEnd _ | .gateHoldEnd _ | .senseLineChange _ _
  | .inactiveTimeElapsed _ | .openLoadLatch _ | .stopInputActive | .selectAssert _ | .brokenFrame _ _
  | .stopInputInactive => []

/-- The request header (11, Layouts). -/
def Request.header (q : Request) : Word16 := q.code ++ BitVec.ofNat 8 q.payloadLength

/-- The frame that carries a request row, with fill words after its payload; none for a row that is no request. -/
def Instr.frame (c : Instr) (fill : List Word16) : Option Frame :=
  c.request.map (fun x =>
    let words := x.2.header :: (c.payloadWords ++ fill)
    { bits := 16 * words.length, words := words })

/-- The value of a result code in a response header (11, Layouts). -/
def Result.code : Result → BitVec 4
  | .ok => 0 | .busy => 1 | .mode => 2 | .range => 3 | .geometry => 4 | .denied => 5 | .format => 6 | .full => 7
  | .unknown => 8 | .late => 9 | .notReady => 10 | .noStack => 11 | .state => 12 | .faultActive => 13 | .empty => 14

end Sys2Proof
end

