-- ==== Sys2Proof/Config.lean ====
section
/-!
DEFINITION. What the manual fixes once for the part (the depths of its lists) and the free values: the order in which the
part takes lanes or outputs that meet at one event, where no rule fixes it, and the test that comes first where two rules
disagree.
-/

namespace Sys2Proof.Config

/-- At most 16 pending cuts in the schedule and the strike queue together (R50). -/
def maxCuts : Nat := 16

/-- At most four splice zones (R57). -/
def maxZones : Nat := 4

/-- At most 48 repeat records (R71). -/
def maxRecords : Nat := 48

/-- At most 16 inspection notices (R82). -/
def maxNotices : Nat := 16

/-- At most 8 stack orders in a lane's queue (R120). -/
def maxOrders : Nat := 8

/-- At most 4 closed stacks in a lane's eject list (R127). -/
def maxEjects : Nat := 4

/-- The distance after which a last stamp (R74) or a last reject-interval end (R113) becomes absent: 2^30. -/
def forgetSpan : Pos := 1073741824#32

/-- How many position events that are already passed when a mark event arms them are taken within that same step
(R4; Log 15). A validated profile arms at most 13 of them. -/
def passedEventLimit : Nat := 64

/-- FREE VALUE (Log 7). The k-th order in which the part takes several lanes or outputs that meet at one event and
whose order no rule fixes (R150, R183, R171). It has no body: nothing can be proved of it. -/
opaque raceOrder : Nat → List Nat

/-- FREE VALUE (Log 12). Whether SET_PROFILE_FIELD tests for a number beyond the named list of a field before it tests
whether a commit waits (R194), or after (R176): the two rules disagree. It has no body: nothing can be proved of it. -/
opaque namedListTestFirst : Bool

end Sys2Proof.Config
end

