-- ==== Sys2Proof/Machine/State.lean ====
section
/-!
DEFINITION. The state of the part as plain data, block by block (00_scope.md, Block overview), its value right after
device reset, and the reasons a command can stop.
-/

namespace Sys2Proof.Machine

/-! ## Armed events -/

/-- A position event armed on a counter (R4): its target, and whether its counter has reached it, so that the event
is taken and waits for the row of its owner (R5; Log 2). -/
structure PosEvent where
  target : Pos
  reached : Bool
  deriving DecidableEq, Repr

/-! ## Position unit (01) -/

/-- What the position unit keeps for one encoder (R1, R7, R9). -/
structure EncoderState where
  counter : Pos
  highWater : Pos
  base : Pos
  speed : Int
  deriving DecidableEq, Repr

structure PositionUnit where
  web : EncoderState
  belt : EncoderState
  deriving DecidableEq, Repr

/-! ## Registration unit (02) -/

/-- The registration states (R21 to R25). -/
inductive RegState where
  | search | locking | locked | coasting
  deriving DecidableEq, Repr

/-- The kind of a mark event, in the order of its layout (R30). -/
inductive MarkKind where
  | real | virtual | coasted
  deriving DecidableEq, Repr

/-- A leading edge awaiting qualification (R14). -/
structure Candidate where
  position : Pos
  qualification : PosEvent
  deriving DecidableEq, Repr

/-- The status of a window that is not NONE (R16, R19). -/
inductive WindowStatus where
  | armed | opened | held
  deriving DecidableEq, Repr

/-- A mark window: E, and its bounds as armed events: E − H (opening) and E + H (expiry) (R16). -/
structure MarkWindow where
  status : WindowStatus
  expected : Pos
  opening : PosEvent
  expiry : PosEvent
  deriving DecidableEq, Repr

/-- The last mark event (R28, R34). -/
structure LastMark where
  kind : MarkKind
  position : Pos
  repeatNo : RepeatNo
  deriving DecidableEq, Repr

structure Registration where
  state : RegState
  lock : Nat
  miss : Nat
  candidate : Option Candidate
  /-- `none` is window status NONE. -/
  window : Option MarkWindow
  windowCounter : BitVec 32
  lastEvent : Option LastMark
  lastReal : Option Pos
  lastError : Option Int
  /-- In 1/256 web count. -/
  pEff : Nat
  /-- The repeat number counter: the number the next mark event takes (R27). -/
  number : RepeatNo
  newest : Option RepeatNo
  virtualTarget : Option PosEvent
  deriving DecidableEq, Repr

/-! ## Cut scheduler (03, 04) -/

/-- A pending cut (R50). A cut flagged UNCUT_CARRY carries cause UNCUT (R53, R61). -/
structure Cut where
  repeatNo : RepeatNo
  kind : MarkKind
  regError : Option Int
  fire : Pos
  postponed : Bool
  late : Bool
  uncutCarry : Bool
  reg : Bool
  lineLanes : LaneSet
  splice : Bool
  deriving DecidableEq, Repr

/-- A splice zone, both bounds included (R56). -/
structure Zone where
  start : Pos
  stop : Pos
  deriving DecidableEq, Repr

/-- The line-reject range (R54). -/
structure LineRange where
  first : RepeatNo
  remaining : Nat
  mask : LaneSet
  deriving DecidableEq, Repr

/-- The open confirm window (R63). -/
structure ConfirmWindow where
  repeatNo : RepeatNo
  expiry : PosEvent
  deriving DecidableEq, Repr

/-- The values of the latest cut (R49). -/
structure Placement where
  kEff : Nat
  lead : Nat
  fire : Pos
  deriving DecidableEq, Repr

structure CutScheduler where
  /-- Oldest first. -/
  schedule : List Cut
  /-- The model's own: the head's fire position has been reached and waits for FIRE_POSITION (Log 2). -/
  headReached : Bool
  /-- The strike queue, oldest first. -/
  queue : List Cut
  lastFire : Option Pos
  latest : Option Placement
  confirm : Option ConfirmWindow
  overrunCarry : Bool
  strikeCarry : Bool
  splices : List Zone
  range : LineRange
  deriving DecidableEq, Repr

/-! ## Transit map (05) -/

/-- The spacing classes, in the order of their layout (R74). -/
inductive Spacing where
  | normal | near | tight | jammed
  deriving DecidableEq, Repr

/-- The verdict states, in the order of their layout (R71). -/
inductive VerdictState where
  | awaited | received | notRequired
  deriving DecidableEq, Repr

/-- The fifteen reject causes, numbered LANE_OFF as 0 to GATE_MERGE as 14 (R116, R199). -/
inductive Cause where
  | laneOff | laneHeld | noOrder | logFull | ejectBusy
  | changeGap | purge | reg | uncut | splice
  | spacing | line | vision | noVerdict | gateMerge
  deriving DecidableEq, Repr

/-- The disposition of one label (R71, R85). -/
inductive Disposition where
  | undecided
  | stacked (seq : Seq)
  | rejected (cause : Cause)
  | quarantined
  deriving DecidableEq, Repr

/-- A repeat record (R71). The three belt events are the positions, the spec's marks that the camera and the decision
were taken, and the model's marks that a position has been reached and waits for its row (Log 2). -/
structure RepeatRecord where
  repeatNo : RepeatNo
  kind : MarkKind
  regError : Option Int
  fire : Pos
  stamp : Pos
  postponed : Bool
  late : Bool
  uncutCarry : Bool
  confirmed : Bool
  laneSet : LaneSet
  /-- The cause set REG, UNCUT, SPLICE, SPACING. -/
  reg : Bool
  uncut : Bool
  splice : Bool
  spacing : Bool
  lineLanes : LaneSet
  spacingClass : Spacing
  /-- Inspection REQUIRED (true) or NOT_REQUIRED. -/
  inspection : Bool
  verdict : VerdictState
  vision : LaneSet
  defectClass : Option Nat
  /-- Armed only when inspection is REQUIRED (R73). -/
  camera : Option PosEvent
  cameraTaken : Bool
  decision : PosEvent
  /-- The model's own: the purge test of this record has been made (R84; Log 6). -/
  purgeTested : Bool
  decisionTaken : Bool
  exit : PosEvent
  dispositions : Vector Disposition 8
  dry : Bool
  purge : Bool
  deriving DecidableEq, Repr

/-- An inspection notice (R82). -/
structure Notice where
  repeatNo : RepeatNo
  lanes : LaneSet
  deriving DecidableEq, Repr

/-- A position that is forgotten 2^30 belt counts later (R74, R113): the value and its expiry event. -/
structure Fading where
  value : Pos
  expiry : PosEvent
  deriving DecidableEq, Repr

structure TransitMap where
  /-- Oldest first. -/
  records : List RepeatRecord
  lastStamp : Option Fading
  normalRun : BitVec 16
  /-- `none` is INACTIVE; otherwise ACTIVE with its end. -/
  purge : Option PosEvent
  /-- Oldest first. -/
  notices : List Notice
  deriving DecidableEq, Repr

/-! ## Stack record log (08) -/

/-- The states of an occupied slot (R148). -/
inductive StackState where
  | forming | closed | ready
  deriving DecidableEq, Repr

/-- The closing kinds (R149). -/
inductive ClosingKind where
  | target | shortCancel | shortClose | shortLaneRemoved | quarantine | aborted
  deriving DecidableEq, Repr

/-- A stack record (R149). The slot index is its place, the state is the slot's. A quarantine record held in its lane
has the same fields (R137, R138). -/
structure StackRecord where
  lane : Lane
  tag : BitVec 8
  job : BitVec 16
  seq : Seq
  target : Nat
  count : Nat
  first : Option RepeatNo
  last : Option RepeatNo
  rejectsInSpan : BitVec 16
  shouldReject : BitVec 16
  closing : Option ClosingKind
  dry : Bool
  suspect : Bool
  ejectFault : Bool
  notEjected : Bool
  deriving DecidableEq, Repr

/-- A slot of the log: FREE, or occupied in one of three states (R148). -/
inductive Slot where
  | free
  | held (state : StackState) (record : StackRecord)
  deriving DecidableEq, Repr

structure StackLog where
  slots : Vector Slot 32
  /-- The ready list, oldest first (R153). -/
  ready : List SlotIndex
  deriving DecidableEq, Repr

/-! ## Lane sequencers (06, 07) -/

/-- The lane states (R119). -/
inductive LaneState where
  | off | idle | held | blocked | stacking | changing | fault
  deriving DecidableEq, Repr

/-- A stack order (R120). -/
structure Order where
  tag : BitVec 8
  job : BitVec 16
  target : Nat
  nogap : Bool
  final : Bool
  deriving DecidableEq, Repr

/-- The open stack of a lane: the slot of its FORMING record, its order's flags, the stack stamp (R123, R124). -/
structure OpenStack where
  slot : SlotIndex
  nogap : Bool
  final : Bool
  stamp : Option Pos
  deriving DecidableEq, Repr

/-- A closed stack awaiting eject (R127). Only the head's position is armed. -/
structure Eject where
  slot : SlotIndex
  seq : Seq
  position : PosEvent
  due : Bool
  deriving DecidableEq, Repr

structure LaneUnit where
  state : LaneState
  /-- Oldest first. -/
  orders : List Order
  openStack : Option OpenStack
  /-- In close order. -/
  ejects : List Eject
  pulseStack : Option (SlotIndex × Seq)
  gap : Nat
  nextSeq : Seq
  rejectEnd : Option Fading
  quarantine : Option StackRecord
  deriving DecidableEq, Repr

/-! ## Actuator unit (09) -/

/-- The drive states of the knife and of a pusher (R164, R165), each with the length fixed at its start. -/
inductive Drive where
  | free
  | pulse (width : Nat)
  | offTime (length : Nat)
  | latched
  deriving DecidableEq, Repr

/-- What a fault latch shows (R169). -/
inductive Latch where
  | opened | overload
  deriving DecidableEq, Repr

/-- How far the diagnostic filter times of an output have come (R170; Log 19). -/
inductive Filter where
  /-- The inactive time is below 1 ms (or the output is driven active, or its diagnostics do not run). -/
  | settling
  /-- The inactive time is at least 1 ms and the open-load time is 0. -/
  | settled
  /-- The inactive time is at least 1 ms and the open-load time is running. -/
  | measuring
  deriving DecidableEq, Repr

structure Knife where
  drive : Drive
  latch : Option Latch
  filter : Filter
  deriving DecidableEq, Repr

structure Gate where
  /-- The gate hold: the position at which the gate is to close (R167). -/
  hold : Option PosEvent
  latch : Option Latch
  filter : Filter
  deriving DecidableEq, Repr

structure Pusher where
  drive : Drive
  pendingPulse : Bool
  latch : Option Latch
  filter : Filter
  deriving DecidableEq, Repr

/-- The diagnostic enable set (R169). -/
structure DiagEnable where
  knife : Bool
  gates : LaneSet
  pushers : LaneSet
  deriving DecidableEq, Repr

structure Actuators where
  knife : Knife
  gates : Vector Gate 8
  pushers : Vector Pusher 8
  /-- The width of the camera pulse that is running (R166). -/
  camera : Option Nat
  enabled : DiagEnable
  deriving DecidableEq, Repr

/-! ## Profile unit (10) -/

/-- The no-verdict policy (R112). -/
inductive Policy where
  | reject | pass
  deriving DecidableEq, Repr

/-- A profile: the 44 fields of R175 in the order of their identifiers, each with its default. -/
structure Profile where
  pNom : Nat := 25000
  halfWindow : Nat := 500
  mMin : Nat := 8
  markLevel : Level := .high
  tReg : Nat := 150
  filterShift : Nat := 3
  stretchLimit : Nat := 16
  nLock : Nat := 4
  grace : Nat := 1
  cMax : Nat := 6
  sensorToCut : Nat := 60000
  latency : Nat := 0
  qMin : Nat := 1000
  confirmWindow : Nat := 2000
  spliceDistance : Nat := 30000
  splicePre : Nat := 5000
  splicePost : Nat := 25000
  reverseLimit : Nat := 400
  laneMask : LaneSet := 0
  gCam : Nat := 20000
  gGate : Nat := 60000
  gStack : Nat := 90000
  labelLength : Nat := 12000
  gatePre : Nat := 200
  gatePost : Nat := 200
  minClosed : Nat := 500
  settle : Nat := 1000
  sigmaWarn : Nat := 14000
  sigmaTight : Nat := 12000
  sigmaJam : Nat := 8000
  purgeTail : Nat := 2000
  inspectionRequired : Bool := true
  noVerdict : Policy := .reject
  changeGap : Nat := 2
  autoClear : Nat := 0
  knifePulse : Nat := 400
  knifeOff : Nat := 2
  pusherPulse : Nat := 80
  pusherOff : Nat := 40
  cameraPulse : Nat := 100
  knifeLevel : Level := .high
  gateLevel : Level := .high
  pusherLevel : Level := .high
  cameraLevel : Level := .high
  deriving DecidableEq, Repr

/-- The source of a waiting commit (R178). -/
inductive CommitSource where
  | nextMark
  | splice
  | atRepeat (repeatNo : RepeatNo)
  deriving DecidableEq, Repr

/-- A waiting commit: its source and its splice mark (R181). -/
structure CommitRequest where
  source : CommitSource
  spliceMark : Bool
  deriving DecidableEq, Repr

/-- The HALT causes (R187). HALT_REQUEST records its link. -/
inductive HaltCause where
  | reverseWeb | reverseBelt | knifeFault | stopInput
  | haltRequest (link : StationLink)
  deriving DecidableEq, Repr

/-- The operating modes. DRAINING carries whether it is a dry drain (R186), HALT carries its cause (R187), so that
each is present exactly in its mode. -/
inductive Mode where
  | setup
  | run
  | dry
  | draining (isDry : Bool)
  | halt (cause : HaltCause)
  deriving DecidableEq, Repr

structure ProfileUnit where
  active : Profile
  pending : Profile
  commit : Option CommitRequest
  mode : Mode
  deriving DecidableEq, Repr

/-! ## Input pins -/

/-- The input levels that a rule reads (Log 5). -/
structure Pins where
  mark : Level
  /-- The STOP input is active (R188). -/
  stop : Bool
  /-- The sense lines that stand at the fault level (09, Diagnostics). -/
  knifeSense : Bool
  gateSense : LaneSet
  pusherSense : LaneSet
  deriving DecidableEq, Repr

/-! ## Counters (R199) -/

/-- The production counts of one lane; `causes` in the order of the reject causes. -/
structure LaneCounts where
  cut : BitVec 32
  stacked : BitVec 32
  rejected : BitVec 32
  quarantined : BitVec 32
  lost : BitVec 32
  causes : Vector (BitVec 32) 15
  deriving DecidableEq, Repr

structure Counters where
  lanes : Vector LaneCounts 8
  strayMarks : BitVec 16
  shortMarks : BitVec 16
  misses : BitVec 16
  strayConfirms : BitVec 16
  lateVerdicts : BitVec 16
  noticeOverflows : BitVec 16
  webSkips : BitVec 16
  beltSkips : BitVec 16
  deriving DecidableEq, Repr

/-! ## Link units (11) -/

/-- Everything READ_STATUS can report, as it stood at one instant (R197). -/
structure StatusImage where
  pos : PositionUnit
  reg : Registration
  cut : CutScheduler
  map : TransitMap
  lanes : Vector LaneUnit 8
  log : StackLog
  act : Actuators
  prof : ProfileUnit
  pins : Pins
  deriving DecidableEq, Repr

/-- What a repeat copy holds (R198): a record of the map, or a pending cut and whether it waits in the strike queue. -/
inductive RepeatCopy where
  | record (r : RepeatRecord)
  | cut (c : Cut) (queued : Bool)
  deriving DecidableEq, Repr

/-- The diagnostic states (R169). -/
inductive DiagState where
  | overload | opened | disabled | ok
  deriving DecidableEq, Repr

/-- What is reported of one gate (R174). -/
structure GateReport where
  holdEnd : Option Pos
  diag : DiagState
  driven : Bool
  deriving DecidableEq, Repr

/-- What is reported of the knife or of one pusher (R174). -/
structure DriveReport where
  drive : Drive
  pendingPulse : Bool
  diag : DiagState
  driven : Bool
  deriving DecidableEq, Repr

/-- The contents of a status page (R197; the rule of each page is in the page table). -/
inductive StatusPage where
  /-- Page 0 (R191). -/
  | overview (mode : Mode) (stop : Bool) (commit : Option CommitRequest) (pendingDiffers : Bool)
  /-- Page 1 (R13): the encoders with speeds and high-water marks. -/
  | positions (web belt : Pos) (webSpeed beltSpeed : Int) (webHigh beltHigh : Pos)
  /-- Page 2 (R34). -/
  | registration (state : RegState) (lock miss : Nat) (window : Option (WindowStatus × Pos × Pos × Pos))
      (windowCounter : BitVec 32)
  /-- Page 3 (R49). -/
  | arithmetic (pEff bandLow bandHigh : Nat) (kEff lead : Option Nat)
  /-- Page 4 (R70). -/
  | cuts (scheduled queued : Nat) (head : Option (RepeatNo × Pos)) (confirm : Option (RepeatNo × Pos))
      (overrunCarry strikeCarry : Bool) (range : LineRange)
  /-- Page 5 (R70): the number of zones, zones 1 and 2. -/
  | splices (number : Nat) (zones : List Zone)
  /-- Page 6 (R90). -/
  | transit (records : Nat) (oldest newest : Option RepeatNo) (lastStamp purgeEnd : Option Pos)
      (normalRun : BitVec 16) (notices : Nat)
  /-- Page 7 (R161). -/
  | stackLog (free forming closed ready : Nat) (entries : Nat) (oldest : Option (SlotIndex × Lane × Seq))
  /-- Page 8 (R174). -/
  | drives (knife : DriveReport) (pushers : List DriveReport) (cameraRunning : Bool) (enabled : DiagEnable)
  /-- Pages 9 and 10 (R174): four gates. -/
  | gates (reports : List GateReport)
  /-- Pages 11 to 18 (R147): state, gap, order queue, open stack with its count and target, next stack sequence. -/
  | laneWork (state : LaneState) (gap : Nat) (orders : Nat) (oldest : Option (BitVec 8 × BitVec 16 × Nat))
      (openStack : Option (OpenStack × Seq × Nat × Nat)) (nextSeq : Seq)
  /-- Pages 19 to 26 (R147, R118): eject list, quarantine record, last reject-interval end. -/
  | laneEjects (number : Nat) (head : Option (SlotIndex × Seq × Pos × Bool))
      (quarantine : Option (Seq × Nat × BitVec 16 × Option RepeatNo × Option RepeatNo)) (rejectEnd : Option Pos)
  /-- Page 27 (R34). -/
  | lastMark (event : Option LastMark) (error : Option Int) (pEff : Nat) (newest : Option RepeatNo)
      (virtualTarget : Option Pos)
  /-- Page 28 (R49). -/
  | placement (fire lastFire orderingReference : Option Pos)
  /-- Page 29 (R70): zones 3 and 4. -/
  | moreSplices (zones : List Zone)
  deriving DecidableEq, Repr

/-- What the payload of a response carries, as the values the rules name. Their words are in Machine/Responses.lean
(Log 13). -/
inductive Payload where
  /-- No payload. -/
  | none
  /-- READ_EVENTS (R196): flag set, mask, level of ATTN. -/
  | events (flags mask : EventSet) (attn : Bool)
  /-- ACK_EVENTS and SET_EVENT_MASK (R196): the set after the request. -/
  | eventSet (events : EventSet)
  /-- READ_STATUS (R197). -/
  | status (snapshot : Word16) (page : StatusPage)
  /-- READ_REPEAT (R198): a part, from the copy. -/
  | repeatPart (part : Nat) (copy : RepeatCopy)
  /-- READ_RECORD and FETCH_RECORD (R154, R155): slot, its contents, eject position and due mark of a CLOSED record
  read by READ_RECORD, entries on the ready list. -/
  | stackRecord (slot : SlotIndex) (content : Slot) (eject : Option (Pos × Bool)) (entries : Nat)
  /-- A number: entries on the ready list (R154, R156), orders in the queue (R121). -/
  | number (n : Nat)
  /-- SET_PROFILE_FIELD (R176): identifier and value written. -/
  | fieldWritten (field value : Nat)
  /-- READ_PROFILE (R177). -/
  | fieldValue (value : Nat)
  /-- COMMIT_PROFILE (R178): the field of the first failing check. -/
  | fieldNamed (field : Nat)
  /-- COMMIT_PROFILE (R178): applied, or waiting. -/
  | commitAccepted (applied : Bool)
  /-- RESET_TRACK (R189): labels counted lost, slots made READY, whether the knife latch is still set. -/
  | trackReset (lost slots : Nat) (knifeLatched : Bool)
  /-- CANCEL_ORDER (R132) on the open stack: slot, sequence, whether it was CLOSED (true) or made READY. -/
  | stackCancelled (slot : SlotIndex) (seq : Seq) (closed : Bool)
  /-- CANCEL_ORDER (R132): the queued order removed. -/
  | orderCancelled (order : Order)
  /-- CLOSE_NOW and LANE_CLEAR (R133, R141): slot and stack sequence. -/
  | stackNamed (slot : SlotIndex) (seq : Seq)
  /-- LINE_REJECT (R103): applied now, taken into the future range, too late. -/
  | lineRejected (applied future late : Nat)
  /-- READ_COUNTERS group 0 (R199): the eight fault counts. -/
  | faultCounts (counts : List (BitVec 16))
  /-- READ_COUNTERS groups 1 to 32 (R199): five 32-bit counts. -/
  | laneCounts (counts : List (BitVec 32))
  /-- CLEAR_COUNTERS (R200): the labels-cut value set for each lane. -/
  | labelsCut (counts : List Nat)
  /-- VERDICT (R95, R96): applied lanes, decided lanes, verdict state (absent for a GONE repeat). -/
  | verdict (applied decided : LaneSet) (state : Option VerdictState)
  /-- FETCH_NOTICE (R83): the notice and how many remain. -/
  | notice (n : Notice) (remaining : Nat)
  deriving DecidableEq, Repr

/-- A response (R193): echoed code, result, payload. -/
structure Response where
  code : BitVec 8
  result : Result
  payload : Payload
  deriving DecidableEq, Repr

/-- Where a link stands in its frames (R192): no frame is under way; select is asserted and words are shifted in; or a
device reset has discarded the frame that was under way, and none is taken before the next assertion of select. -/
inductive FramePhase where
  | idle | shifting | discarded
  deriving DecidableEq, Repr

/-- A link unit (11). -/
structure LinkUnit where
  phase : FramePhase
  /-- The response slot. -/
  slot : Response
  /-- The output fixed at the last assertion of select (R193). -/
  output : Option Response
  flags : EventSet
  mask : EventSet
  snapshot : Option StatusImage
  snapshotNo : Word16
  copy : Option RepeatCopy
  deriving DecidableEq, Repr

structure Links where
  line : LinkUnit
  inspection : LinkUnit
  delivery : LinkUnit
  deriving DecidableEq, Repr

/-! ## The machine -/

/-- The state of the part. -/
structure State where
  pos : PositionUnit
  reg : Registration
  cut : CutScheduler
  map : TransitMap
  lanes : Vector LaneUnit 8
  log : StackLog
  act : Actuators
  prof : ProfileUnit
  pins : Pins
  cnt : Counters
  links : Links
  /-- The model's own: how many free orders have been drawn (Log 7). -/
  races : Nat
  /-- The commands that wait, first in, first out (Log 1). -/
  pending : List Instr
  deriving DecidableEq, Repr

/-- The reasons the part stops with a fault. There is none: HALT is a mode (R187), a latch is state (R172), and every
refused request is a response (R192). -/
inductive Fault
  deriving DecidableEq, Repr

/-- The reasons a command is refused by the model. -/
inductive Refusal where
  /-- A row of the table without a meaning yet, raised by `exec` alone. Safe: nothing is claimed of it. No row is
  refused. -/
  | notModelled (mnemonic : String)
  deriving DecidableEq, Repr

/-- What a command answers. -/
abbrev Answer := Host.Outcome State Fault Refusal

/-! ## One update per block -/

def State.setPos (s : State) (b : PositionUnit) : State := { s with pos := b }
def State.setReg (s : State) (b : Registration) : State := { s with reg := b }
def State.setCut (s : State) (b : CutScheduler) : State := { s with cut := b }
def State.setMap (s : State) (b : TransitMap) : State := { s with map := b }
def State.setLanes (s : State) (b : Vector LaneUnit 8) : State := { s with lanes := b }
def State.setLog (s : State) (b : StackLog) : State := { s with log := b }
def State.setAct (s : State) (b : Actuators) : State := { s with act := b }
def State.setProf (s : State) (b : ProfileUnit) : State := { s with prof := b }
def State.setPins (s : State) (b : Pins) : State := { s with pins := b }
def State.setCnt (s : State) (b : Counters) : State := { s with cnt := b }
def State.setLinks (s : State) (b : Links) : State := { s with links := b }
def State.setRaces (s : State) (n : Nat) : State := { s with races := n }
def State.setPending (s : State) (q : List Instr) : State := { s with pending := q }

/-! ## After device reset -/

def EncoderState.reset : EncoderState := { counter := 0, highWater := 0, base := 0, speed := 0 }

/-- R33. -/
def Registration.reset : Registration :=
  { state := .search, lock := 0, miss := 0, candidate := none, window := none, windowCounter := 0, lastEvent := none,
    lastReal := none, lastError := none, pEff := 6400000, number := 0, newest := none, virtualTarget := none }

/-- R69, R49, R54. -/
def CutScheduler.reset : CutScheduler :=
  { schedule := [], headReached := false, queue := [], lastFire := none, latest := none, confirm := none,
    overrunCarry := false, strikeCarry := false, splices := [], range := { first := 0, remaining := 0, mask := 0 } }

/-- R89. -/
def TransitMap.reset : TransitMap :=
  { records := [], lastStamp := none, normalRun := 0, purge := none, notices := [] }

/-- R146. -/
def LaneUnit.reset : LaneUnit :=
  { state := .off, orders := [], openStack := none, ejects := [], pulseStack := none, gap := 0, nextSeq := 0,
    rejectEnd := none, quarantine := none }

/-- R160. -/
def StackLog.reset : StackLog := { slots := Vector.replicate 32 .free, ready := [] }

/-- R169, R173. -/
def Actuators.reset : Actuators :=
  { knife := { drive := .free, latch := none, filter := .settling },
    gates := Vector.replicate 8 { hold := none, latch := none, filter := .settling },
    pushers := Vector.replicate 8 { drive := .free, pendingPulse := false, latch := none, filter := .settling },
    camera := none,
    enabled := { knife := true, gates := 0xFF, pushers := 0xFF } }

/-- The defaults of R175. -/
def Profile.default : Profile := {}

/-- R190. -/
def ProfileUnit.reset : ProfileUnit :=
  { active := Profile.default, pending := Profile.default, commit := none, mode := .setup }

/-- The input levels of `State.reset`: DESIGN CHOICE, the manual gives none (Log 5). -/
def Pins.reset : Pins :=
  { mark := .low, stop := false, knifeSense := false, gateSense := 0, pusherSense := 0 }

def LaneCounts.zero : LaneCounts :=
  { cut := 0, stacked := 0, rejected := 0, quarantined := 0, lost := 0, causes := Vector.replicate 15 0 }

/-- R199. -/
def Counters.zero : Counters :=
  { lanes := Vector.replicate 8 LaneCounts.zero, strayMarks := 0, shortMarks := 0, misses := 0, strayConfirms := 0,
    lateVerdicts := 0, noticeOverflows := 0, webSkips := 0, beltSkips := 0 }

/-- R201, R195: every flag clear, every event of the link enabled but NOTICE_READY (event 19). The masks are those of
the event table: events 0 to 18 on the line link; 14, 18 and 20 on the inspection link; 15, 18, 21 and 22 on the
delivery link. -/
def LinkUnit.reset (mask : EventSet) : LinkUnit :=
  { phase := .idle, slot := { code := 0, result := .ok, payload := .none }, output := none, flags := 0, mask := mask,
    snapshot := none, snapshotNo := 0, copy := none }

def Links.reset : Links :=
  { line := LinkUnit.reset 0x0007FFFF, inspection := LinkUnit.reset 0x00144000, delivery := LinkUnit.reset 0x00648000 }

/-- The part right after device reset, with STOP inactive (R190). -/
def State.reset : State :=
  { pos := { web := EncoderState.reset, belt := EncoderState.reset }
    reg := Registration.reset
    cut := CutScheduler.reset
    map := TransitMap.reset
    lanes := Vector.replicate 8 LaneUnit.reset
    log := StackLog.reset
    act := Actuators.reset
    prof := ProfileUnit.reset
    pins := Pins.reset
    cnt := Counters.zero
    links := Links.reset
    races := 0
    pending := [] }

end Sys2Proof.Machine
end

