-- ==== Sys2Proof/Machine/Ops.lean ====
section
/-!
DEFINITION. The operations every block shares: the comparison of positions (R3), armed events (R4, R5), saturating
counts, reading and writing one lane, slot, gate, pusher, link or count, the predicates of the operating mode, and
the free order of R150 and R183.
-/

namespace Sys2Proof.Machine

/-! ## Positions and counts -/

/-- Position a is at or beyond position b (R3). -/
def atOrBeyond (a b : Pos) : Bool := decide ((a - b).toNat < 2147483648)

/-- Position a is short of position b (R3). -/
def shortOf (a b : Pos) : Bool := !atOrBeyond a b

/-- A programmed distance as a count to add to a position (R3: formed modulo 2^32). -/
def dist (n : Nat) : Pos := BitVec.ofNat 32 n

/-- (a − b) mod 2^32 read as a signed number (R7, R20, R74). -/
def signedDiff (a b : Pos) : Int := (a - b).toInt

/-- One more, saturating at 65,535 (R2, R35, R66, R96, R82, R139). -/
def satInc (n : BitVec 16) : BitVec 16 := if n = 65535#16 then n else n + 1

/-- Arm a position event (R4): it is taken at once when the counter is already at or beyond the target. -/
def PosEvent.arm (now target : Pos) : PosEvent := { target := target, reached := atOrBeyond now target }

/-- The count that brings the counter to `now` takes an event armed there (R5). -/
def PosEvent.count (now : Pos) (e : PosEvent) : PosEvent := { e with reached := e.reached || e.target == now }

/-- A value that is forgotten 2^30 counts beyond itself (R74, R113). -/
def Fading.start (now value : Pos) : Fading :=
  { value := value, expiry := PosEvent.arm now (value + Config.forgetSpan) }

/-! ## Lane sets -/

/-- The lane is in the set. -/
def LaneSet.has (m : LaneSet) (l : Lane) : Bool := m.getLsbD l.val

/-- The set of the lanes that satisfy a test. -/
def LaneSet.ofTest (p : Lane → Bool) : LaneSet :=
  allLanes.foldl (fun m l => if p l then m ||| (1#8 <<< l.val) else m) 0

/-- The eight entries, each changed by its lane's function. -/
def perLane {α : Type} (f : Lane → α → α) (v : Vector α 8) : Vector α 8 :=
  #v[f 0 v[0], f 1 v[1], f 2 v[2], f 3 v[3], f 4 v[4], f 5 v[5], f 6 v[6], f 7 v[7]]

/-! ## Lists -/

/-- Change the first element that satisfies a test. -/
def updateFirst {α : Type} (p : α → Bool) (f : α → α) : List α → List α
  | [] => []
  | x :: xs => if p x then f x :: xs else x :: updateFirst p f xs

/-- Remove the first element that satisfies a test. -/
def removeFirst {α : Type} (p : α → Bool) : List α → List α
  | [] => []
  | x :: xs => if p x then xs else x :: removeFirst p xs

/-- The elements in the order their keys stand in `order`; those it does not name follow in their own order. It is a
rearrangement of the list whatever `order` is. -/
def arrange {α : Type} (key : α → Nat) : List Nat → List α → List α
  | [], xs => xs
  | k :: ks, xs => xs.filter (fun x => key x == k) ++ arrange key ks (xs.filter (fun x => key x != k))

/-- The order in which the part takes things that meet at one event where no rule fixes it: a free order, drawn only
when there are two or more (Log 7). -/
def drawOrder {α : Type} (key : α → Nat) (xs : List α) (s : State) : List α × State :=
  match xs with
  | [] => ([], s)
  | [x] => ([x], s)
  | x :: y :: rest => (arrange key (Config.raceOrder s.races) (x :: y :: rest), s.setRaces (s.races + 1))

/-! ## Modes -/

/-- HALT. -/
def Mode.isHalt : Mode → Bool
  | .halt _ => true
  | .setup | .run | .dry | .draining _ => false

/-- RUN, DRY and DRAINING. -/
def Mode.tracks : Mode → Bool
  | .run | .dry | .draining _ => true
  | .setup | .halt _ => false

/-- RUN and DRY, in which the registration unit takes marks (R14, R32). -/
def Mode.takesMarks : Mode → Bool
  | .run | .dry => true
  | .setup | .draining _ | .halt _ => false

/-- DRY, or a dry drain (R186). -/
def Mode.isDryKind : Mode → Bool
  | .dry => true
  | .draining isDry => isDry
  | .setup | .run | .halt _ => false

/-- RUN, or DRAINING other than a dry drain: the gates are driven (R163, R167). -/
def Mode.drivesGates : Mode → Bool
  | .run => true
  | .draining isDry => !isDry
  | .setup | .dry | .halt _ => false

/-- SETUP and HALT, in which the high-water marks follow their counters (R9) and no cut is pending (R68). -/
def Mode.idle : Mode → Bool
  | .setup | .halt _ => true
  | .run | .dry | .draining _ => false

/-! ## Parts of the state -/

/-- The web position. -/
def State.web (s : State) : Pos := s.pos.web.counter

/-- The belt position. -/
def State.belt (s : State) : Pos := s.pos.belt.counter

/-- The active profile. -/
def State.profile (s : State) : Profile := s.prof.active

def State.mode (s : State) : Mode := s.prof.mode

def State.setMode (s : State) (m : Mode) : State := s.setProf { s.prof with mode := m }

def State.lane (s : State) (l : Lane) : LaneUnit := s.lanes[l]

def State.setLane (s : State) (l : Lane) (u : LaneUnit) : State := s.setLanes (s.lanes.set l.val u l.isLt)

def State.slot (s : State) (i : SlotIndex) : Slot := s.log.slots[i]

def State.setSlot (s : State) (i : SlotIndex) (x : Slot) : State :=
  s.setLog { s.log with slots := s.log.slots.set i.val x i.isLt }

def State.gate (s : State) (l : Lane) : Gate := s.act.gates[l]

def State.setGate (s : State) (l : Lane) (g : Gate) : State :=
  s.setAct { s.act with gates := s.act.gates.set l.val g l.isLt }

def State.pusher (s : State) (l : Lane) : Pusher := s.act.pushers[l]

def State.setPusher (s : State) (l : Lane) (p : Pusher) : State :=
  s.setAct { s.act with pushers := s.act.pushers.set l.val p l.isLt }

def State.setKnife (s : State) (k : Knife) : State := s.setAct { s.act with knife := k }

def State.counts (s : State) (l : Lane) : LaneCounts := s.cnt.lanes[l]

/-- Change the production counts of every lane, each by its own function. -/
def State.countLanes (s : State) (f : Lane → LaneCounts → LaneCounts) : State :=
  s.setCnt { s.cnt with lanes := perLane f s.cnt.lanes }

def State.link (s : State) : StationLink → LinkUnit
  | .line => s.links.line
  | .inspection => s.links.inspection
  | .delivery => s.links.delivery

def State.setLink (s : State) (k : StationLink) (u : LinkUnit) : State :=
  match k with
  | .line => s.setLinks { s.links with line := u }
  | .inspection => s.setLinks { s.links with inspection := u }
  | .delivery => s.setLinks { s.links with delivery := u }

/-- The repeat record of a repeat number, if the transit map holds it. -/
def State.record (s : State) (n : RepeatNo) : Option RepeatRecord := s.map.records.find? (fun r => r.repeatNo == n)

/-- Write the record of a repeat number. -/
def State.updateRecord (s : State) (n : RepeatNo) (f : RepeatRecord → RepeatRecord) : State :=
  s.setMap { s.map with records := updateFirst (fun r => r.repeatNo == n) f s.map.records }

/-- The pending cuts: the schedule and the strike queue together (R50). -/
def State.pendingCuts (s : State) : Nat := s.cut.schedule.length + s.cut.queue.length

/-- A label counted once as cut and once as lost, in each lane of a set (R52, R77). -/
def State.countUntracked (s : State) (m : LaneSet) : State :=
  s.countLanes (fun l c => if LaneSet.has m l then { c with cut := c.cut + 1, lost := c.lost + 1 } else c)

/-- The number of a reject cause (R199). -/
def Cause.index : Cause → Fin 15
  | .laneOff => 0 | .laneHeld => 1 | .noOrder => 2 | .logFull => 3 | .ejectBusy => 4
  | .changeGap => 5 | .purge => 6 | .reg => 7 | .uncut => 8 | .splice => 9
  | .spacing => 10 | .line => 11 | .vision => 12 | .noVerdict => 13 | .gateMerge => 14

/-- The lane's label of a record is still UNDECIDED. -/
def RepeatRecord.undecided (r : RepeatRecord) (l : Lane) : Bool :=
  LaneSet.has r.laneSet l && r.dispositions[l] == .undecided

/-- The number of records of a list in which a lane's label is UNDECIDED (R200). -/
def undecidedIn (rs : List RepeatRecord) (l : Lane) : Nat := (rs.filter (fun r => r.undecided l)).length

end Sys2Proof.Machine
end

