-- ==== Sys2Proof/Machine/Flags.lean ====
section
/-!
DEFINITION. Events, event flags, masks and ATTN (R195, R196, and the event table of the station links chapter).
-/

namespace Sys2Proof.Machine

/-- The events, in the order of their numbers 0 to 22 (11, Events). -/
inductive Event where
  | speedClamp | regLocked | markLost | regWarn | stretchLimit | leadLimit | cutOverrun | spliceSeen | spliceMerged
  | spacingWarn | jam | mapFull | purgeOn | purgeOff | lateVerdict | laneFault | commitApplied | drained | haltEntered
  | noticeReady | noticeOverflow | recordReady | logFull
  deriving DecidableEq, Repr

def Event.number : Event → Nat
  | .speedClamp => 0 | .regLocked => 1 | .markLost => 2 | .regWarn => 3 | .stretchLimit => 4 | .leadLimit => 5
  | .cutOverrun => 6 | .spliceSeen => 7 | .spliceMerged => 8 | .spacingWarn => 9 | .jam => 10 | .mapFull => 11
  | .purgeOn => 12 | .purgeOff => 13 | .lateVerdict => 14 | .laneFault => 15 | .commitApplied => 16 | .drained => 17
  | .haltEntered => 18 | .noticeReady => 19 | .noticeOverflow => 20 | .recordReady => 21 | .logFull => 22

/-- The event's place in an event set (R194). -/
def Event.bit (e : Event) : EventSet := 1#32 <<< e.number

/-- The link carries the event (11, Events). -/
def Event.carriedBy (e : Event) : StationLink → Bool
  | .line => match e with
    | .noticeReady | .noticeOverflow | .recordReady | .logFull => false
    | _ => true
  | .inspection => match e with
    | .lateVerdict | .haltEntered | .noticeReady | .noticeOverflow => true
    | _ => false
  | .delivery => match e with
    | .laneFault | .haltEntered | .recordReady | .logFull => true
    | _ => false

/-- The set of all events a link carries. -/
def carriedEvents : StationLink → EventSet
  | .line => 0x0007FFFF
  | .inspection => 0x001C4000
  | .delivery => 0x00648000

/-- Set an event's flag in a link's flag set. -/
def LinkUnit.withFlag (u : LinkUnit) (e : Event) : LinkUnit := { u with flags := u.flags ||| e.bit }

/-- Clear the flags named in a set (R196). -/
def LinkUnit.withoutFlags (u : LinkUnit) (m : EventSet) : LinkUnit := { u with flags := u.flags &&& ~~~m }

/-- A block raises an event on the links that carry it (R195). -/
def raiseEvent (e : Event) (s : State) : State :=
  s.setLinks
    { line := if e.carriedBy .line then s.links.line.withFlag e else s.links.line
      inspection := if e.carriedBy .inspection then s.links.inspection.withFlag e else s.links.inspection
      delivery := if e.carriedBy .delivery then s.links.delivery.withFlag e else s.links.delivery }

/-- Raise each event of a list. -/
def raiseEvents (es : List Event) (s : State) : State := es.foldl (fun s e => raiseEvent e s) s

/-- Raise an event when a condition holds. -/
def raiseIf (b : Bool) (e : Event) (s : State) : State := if b then raiseEvent e s else s

/-- The flag of an event is set on a link. -/
def State.flag (s : State) (k : StationLink) (e : Event) : Bool := (s.link k).flags.getLsbD e.number

/-- The link's ATTN output (R195). -/
def LinkUnit.attn (u : LinkUnit) : Bool := (u.flags &&& u.mask) != 0

/-- ACK_EVENTS on a link, also made by the warning auto-clear (R76, R196). -/
def acknowledge (k : StationLink) (m : EventSet) (s : State) : State :=
  s.setLink k ((s.link k).withoutFlags m)

end Sys2Proof.Machine
end

