-- ==== Sys2Proof/Machine/DriveOps.lean ====
section
/-!
DEFINITION. What the actuator unit does with the requests of the other blocks (R162 to R169): which output is driven
active, pulses and off times, gate holds, diagnostic states and filter times.
-/

namespace Sys2Proof.Machine

/-- The 17 outputs with a sense line, the knife first. -/
def allOutputs : List Output := .knife :: (allLanes.map .gate ++ allLanes.map .pusher)

/-- The number by which a free order names an output (Log 7). -/
def outputKey : Output → Nat
  | .knife => 0
  | .gate l => 1 + l.val
  | .pusher l => 9 + l.val

/-- A pulse is running. -/
def Drive.isPulse : Drive → Bool
  | .pulse _ => true
  | .free | .offTime _ | .latched => false

/-- Busy: in PULSE or OFF_TIME (R164). -/
def Drive.isBusy : Drive → Bool
  | .pulse _ | .offTime _ => true
  | .free | .latched => false

/-- An output is driven active (R162, R163, R167). -/
def Actuators.driven (a : Actuators) (m : Mode) : Output → Bool
  | .knife => a.knife.drive.isPulse
  | .gate l => a.gates[l].hold.isSome && a.gates[l].latch.isNone && m.drivesGates
  | .pusher l => a.pushers[l].drive.isPulse

def State.driven (s : State) (o : Output) : Bool := s.act.driven s.mode o

/-- The output is in the diagnostic enable set (R169). -/
def DiagEnable.has (d : DiagEnable) : Output → Bool
  | .knife => d.knife
  | .gate l => LaneSet.has d.gates l
  | .pusher l => LaneSet.has d.pushers l

def State.enabled (s : State) (o : Output) : Bool := s.act.enabled.has o

/-- The sense line of the output stands at the fault level (09, Diagnostics). -/
def Pins.atFault (p : Pins) : Output → Bool
  | .knife => p.knifeSense
  | .gate l => LaneSet.has p.gateSense l
  | .pusher l => LaneSet.has p.pusherSense l

def State.atFault (s : State) (o : Output) : Bool := s.pins.atFault o

/-- The fault latch of an output. -/
def Actuators.latchOf (a : Actuators) : Output → Option Latch
  | .knife => a.knife.latch
  | .gate l => a.gates[l].latch
  | .pusher l => a.pushers[l].latch

def State.latchOf (s : State) (o : Output) : Option Latch := s.act.latchOf o

/-- The diagnostic state of an output (R169). -/
def Actuators.diagState (a : Actuators) (o : Output) : DiagState :=
  match a.latchOf o with
  | some .overload => .overload
  | some .opened => .opened
  | none => if a.enabled.has o then .ok else .disabled

/-- The fault condition of an output is present (R173). -/
def State.faultPresent (s : State) (o : Output) : Bool := s.enabled o && s.atFault o

def State.filterOf (s : State) : Output → Filter
  | .knife => s.act.knife.filter
  | .gate l => (s.gate l).filter
  | .pusher l => (s.pusher l).filter

def State.setFilter (s : State) (o : Output) (f : Filter) : State :=
  match o with
  | .knife => s.setKnife { s.act.knife with filter := f }
  | .gate l => s.setGate l { s.gate l with filter := f }
  | .pusher l => s.setPusher l { s.pusher l with filter := f }

/-- The level of an output pin: the active level of its group while driven active, the other level otherwise
(R162). -/
def pinLevel (active : Level) (driven : Bool) : Level :=
  if driven then active else match active with
    | .high => .low
    | .low => .high

/-- The active level of an output's group (R162). -/
def Profile.activeLevel (p : Profile) : Output → Level
  | .knife => p.knifeLevel
  | .gate _ => p.gateLevel
  | .pusher _ => p.pusherLevel

/-- The level at the pin of an output. -/
def State.outputPin (s : State) (o : Output) : Level := pinLevel (s.profile.activeLevel o) (s.driven o)

/-- The level at the camera trigger pin (R162, R166). -/
def State.cameraPin (s : State) : Level := pinLevel s.profile.cameraLevel s.act.camera.isSome

/-! ## Knife (R164) -/

/-- A strike requested of the knife: a free knife starts its pulse; a LATCHED one outputs nothing. -/
def requestKnifePulse (s : State) : State :=
  match s.act.knife.drive with
  | .free => s.setKnife { s.act.knife with drive := .pulse s.profile.knifePulse }
  | .pulse _ | .offTime _ | .latched => s

/-- The end of a pulse whose off time is `off`: OFF_TIME, or FREE at once when it is 0. -/
def afterPulse (off : Nat) : Drive := if off = 0 then .free else .offTime off

/-- A running knife pulse ends; the off time follows. -/
def endKnifePulse (s : State) : State :=
  if s.act.knife.drive.isPulse then s.setKnife { s.act.knife with drive := afterPulse s.profile.knifeOff } else s

/-! ## Pushers (R165) -/

/-- A pulse starts on a pusher. -/
def startPusherPulse (l : Lane) (s : State) : State :=
  s.setPusher l { s.pusher l with drive := .pulse s.profile.pusherPulse }

/-- A pulse requested of a pusher by LANE_CLEAR: at once when FREE, marked pending when busy, none when LATCHED. -/
def requestPusherPulse (l : Lane) (s : State) : State :=
  match (s.pusher l).drive with
  | .free => startPusherPulse l s
  | .pulse _ | .offTime _ => s.setPusher l { s.pusher l with pendingPulse := true }
  | .latched => s

/-- A running pusher pulse ends: OFF_TIME follows, and the lane's pulse stack is cleared (R140, R165). -/
def endPusherPulse (l : Lane) (s : State) : State :=
  if (s.pusher l).drive.isPulse then
    (s.setPusher l { s.pusher l with drive := .offTime s.profile.pusherOff }).setLane l
      { s.lane l with pulseStack := none }
  else s

/-! ## Camera trigger (R166) -/

/-- A camera trigger request: absorbed by a pulse that is running. -/
def requestCameraPulse (s : State) : State :=
  match s.act.camera with
  | some _ => s
  | none => s.setAct { s.act with camera := some s.profile.cameraPulse }

/-! ## Gate holds (R167) -/

/-- The gate hold after a reject interval from a to b. -/
def joinHold (now a b : Pos) : Option PosEvent → PosEvent
  | none => PosEvent.arm now b
  | some hold =>
    if atOrBeyond hold.target a then
      if atOrBeyond b hold.target ∧ b ≠ hold.target then PosEvent.arm now b else hold
    else PosEvent.arm now b

/-- A reject interval handed to a lane's gate: discarded by a latched gate. -/
def takeInterval (l : Lane) (a b : Pos) (s : State) : State :=
  match (s.gate l).latch with
  | some _ => s
  | none => s.setGate l { s.gate l with hold := some (joinHold s.belt a b (s.gate l).hold) }

/-- Every gate hold is removed (R168). -/
def removeHolds (s : State) : State :=
  s.setAct { s.act with gates := perLane (fun _ g => { g with hold := none }) s.act.gates }

/-! ## Filter times (R170) -/

/-- Both filter times of every output that was or is driven active restart from 0 (R170). -/
def refreshFilters (before after : State) : State :=
  allOutputs.foldl (fun s o => if before.driven o || after.driven o then s.setFilter o .settling else s) after

/-- The filter phase of an output whose inactive time has reached 1 ms, by its sense line (R170). -/
def sampledFilter (atFault : Bool) : Filter := if atFault then .measuring else .settled

end Sys2Proof.Machine
end

