-- ==== Sys2Proof/Machine/LogOps.lean ====
section
/-!
DEFINITION. What the stack record log does to a slot: each move of the table of R148, from exactly the states the
table gives, and the ready list (R153).
-/

namespace Sys2Proof.Machine

/-- The lowest-numbered FREE slot (R150). -/
def State.freeSlot (s : State) : Option SlotIndex := allSlots.find? (fun i => s.slot i == .free)

/-- A slot that has become READY joins the ready list and raises RECORD_READY (R153). -/
def joinReadyList (i : SlotIndex) (s : State) : State :=
  raiseEvent .recordReady (s.setLog { s.log with ready := s.log.ready ++ [i] })

/-- FREE to FORMING, with the record of the opening (R123, R150). -/
def openSlot (i : SlotIndex) (r : StackRecord) (s : State) : State :=
  match s.slot i with
  | .free => s.setSlot i (.held .forming r)
  | .held _ _ => s

/-- FREE to READY, for the quarantine record of LANE_CLEAR (R141, R150). -/
def fillReadySlot (i : SlotIndex) (r : StackRecord) (s : State) : State :=
  match s.slot i with
  | .free => joinReadyList i (s.setSlot i (.held .ready r))
  | .held _ _ => s

/-- A change to a FORMING record (R124, R116). -/
def updateForming (i : SlotIndex) (f : StackRecord → StackRecord) (s : State) : State :=
  match s.slot i with
  | .held .forming r => s.setSlot i (.held .forming (f r))
  | .held .closed _ | .held .ready _ | .free => s

/-- FORMING to CLOSED with a closing kind (R125, R131). -/
def closeSlot (i : SlotIndex) (kind : ClosingKind) (s : State) : State :=
  match s.slot i with
  | .held .forming r => s.setSlot i (.held .closed { r with closing := some kind })
  | .held .closed _ | .held .ready _ | .free => s

/-- FORMING or CLOSED to READY, its record changed in the same event (R128, R131, R137, R145, R153). -/
def makeReady (i : SlotIndex) (f : StackRecord → StackRecord) (s : State) : State :=
  match s.slot i with
  | .held .forming r => joinReadyList i (s.setSlot i (.held .ready (f r)))
  | .held .closed r => joinReadyList i (s.setSlot i (.held .ready (f r)))
  | .held .ready _ | .free => s

/-- FORMING to FREE, when the lane enters FAULT (R137, R158). -/
def releaseSlot (i : SlotIndex) (s : State) : State :=
  match s.slot i with
  | .held .forming _ => s.setSlot i .free
  | .held .closed _ | .held .ready _ | .free => s

/-- READY to FREE, leaving the ready list (R153, R156). -/
def freeReadySlot (i : SlotIndex) (s : State) : State :=
  match s.slot i with
  | .held .ready _ =>
    (s.setSlot i .free).setLog { (s.setSlot i .free).log with ready := s.log.ready.filter (fun j => j != i) }
  | .held .forming _ | .held .closed _ | .free => s

/-- The flag EJECT_FAULT written into the READY record of a lane and a sequence, in its place (R140, R153). A slot that
holds another record by now, of another lane or another sequence, takes no flag (R157). -/
def flagReadyEjectFault (i : SlotIndex) (l : Lane) (seq : Seq) (s : State) : State :=
  match s.slot i with
  | .held .ready r => if r.lane = l ∧ r.seq = seq then s.setSlot i (.held .ready { r with ejectFault := true }) else s
  | .held .forming _ | .held .closed _ | .free => s

/-- The record of an occupied slot. -/
def Slot.record? : Slot → Option StackRecord
  | .free => none
  | .held _ r => some r

/-- Whether a slot is in a state. -/
def Slot.isIn (st : StackState) : Slot → Bool
  | .free => false
  | .held st' _ => st' == st

end Sys2Proof.Machine
end

