-- ==== Sys2Proof/Machine/LaneOps.lean ====
section
/-!
DEFINITION. What a lane sequencer does with its stacks outside the gate decision (07): the eject list and its ejects,
closing, the entry to FAULT, leaving and joining the active lane mask.
-/

namespace Sys2Proof.Machine

/-- IDLE, or BLOCKED when orders are queued (R119). -/
def LaneUnit.idleState (u : LaneUnit) : LaneState := if u.orders.isEmpty then .idle else .blocked

def State.setLaneState (s : State) (l : Lane) (st : LaneState) : State := s.setLane l { s.lane l with state := st }

/-! ## The eject list (R127 to R130) -/

/-- The eject position of a stack whose last label has a stamp (R125, R131). -/
def ejectPosition (p : Profile) (stamp : Pos) : Pos := stamp + dist (p.gStack + p.labelLength + p.settle)

/-- The head's eject position is armed; in HALT no position event is taken (R4, R6, R127). -/
def armEjectHead (l : Lane) (s : State) : State :=
  match (s.lane l).ejects with
  | [] => s
  | e :: rest =>
    s.setLane l
      { s.lane l with
        ejects := { e with position := { e.position with
          reached := !s.mode.isHalt && atOrBeyond s.belt e.position.target } } :: rest }

/-- The head leaves the eject list, and its slot becomes READY. -/
def releaseHead (l : Lane) (f : StackRecord → StackRecord) (s : State) : State :=
  match (s.lane l).ejects with
  | [] => s
  | e :: rest => armEjectHead l (makeReady e.slot f (s.setLane l { s.lane l with ejects := rest }))

/-- The flag EJECT_FAULT on a record that becomes READY (R137, R143, R165). -/
def StackRecord.withEjectFault (r : StackRecord) : StackRecord := { r with ejectFault := true }

/-- The head, whose position has been taken, is ejected: without a pulse in DRY or a dry drain (R130), with one when
the pusher is FREE (R128), without one when it is LATCHED (R165); when the pusher is busy the head is marked due and waits
(R129). With a LATCHED pusher the record is flagged EJECT_FAULT, in DRY and a dry drain too, as the table of R148 says
(Log 30). -/
def ejectHead (l : Lane) (s : State) : State :=
  match (s.lane l).ejects with
  | [] => s
  | e :: rest =>
    if s.mode.isDryKind then
      releaseHead l (fun r => if (s.pusher l).drive = .latched then r.withEjectFault else r) s
    else match (s.pusher l).drive with
      | .free =>
        releaseHead l id
          ((startPusherPulse l s).setLane l { s.lane l with pulseStack := some (e.slot, e.seq) })
      | .latched => releaseHead l StackRecord.withEjectFault s
      | .pulse _ | .offTime _ =>
        s.setLane l { s.lane l with
          ejects := { e with due := true, position := { e.position with reached := false } } :: rest }

/-- The head's eject position has been reached and waits to be taken. -/
def LaneUnit.headReached (u : LaneUnit) : Bool :=
  match u.ejects with
  | [] => false
  | e :: _ => e.position.reached

/-- The head is due. -/
def LaneUnit.headDue (u : LaneUnit) : Bool :=
  match u.ejects with
  | [] => false
  | e :: _ => e.due

/-- Eject heads as long as the head's position has been reached; an entry that becomes head with its position already
passed is taken immediately (R4, R127). -/
def ejectReached (l : Lane) : Nat → State → State
  | 0, s => s
  | n + 1, s => if (s.lane l).headReached then ejectReached l n (ejectHead l s) else s

/-- Everything the eject list does once its head's position has been taken. -/
def runEjects (l : Lane) (s : State) : State := ejectReached l (s.lane l).ejects.length s

/-- A closed stack joins the eject list as its newest entry; in an empty list its position is armed at once, and
taken at once if the belt has passed it (R4, R125, R127). -/
def joinEjects (l : Lane) (i : SlotIndex) (seq : Seq) (target : Pos) (s : State) : State :=
  let entry : Eject := { slot := i, seq := seq, position := { target := target, reached := false }, due := false }
  match (s.lane l).ejects with
  | [] => runEjects l (armEjectHead l (s.setLane l { s.lane l with ejects := [entry] }))
  | e :: rest => s.setLane l { s.lane l with ejects := (e :: rest) ++ [entry] }

/-- Every stack of the eject list becomes READY, in close order, and leaves the list (R137, R143, R145). -/
def releaseEjects (l : Lane) (f : StackRecord → StackRecord) (s : State) : State :=
  (s.lane l).ejects.foldl (fun s e => makeReady e.slot f s) (s.setLane l { s.lane l with ejects := [] })

/-! ## Closing (R125, R126, R131) -/

/-- The FORMING record of a lane's open stack. -/
def State.formingRecord (s : State) (o : OpenStack) : Option StackRecord :=
  match s.slot o.slot with
  | .held .forming r => some r
  | .held .closed _ | .held .ready _ | .free => none

/-- The FORMING slot becomes CLOSED, and the stack joins the eject list (R125, R131). -/
def closeIntoEjects (l : Lane) (o : OpenStack) (seq : Seq) (kind : ClosingKind) (s : State) : State :=
  joinEjects l o.slot seq (ejectPosition s.profile (o.stamp.getD 0))
    (closeSlot o.slot kind (s.setLane l { s.lane l with openStack := none }))

/-- The short close (R131): a stack with labels becomes CLOSED with the closing kind; an empty one becomes READY with
closing kind ABORTED. -/
def shortClose (l : Lane) (kind : ClosingKind) (s : State) : State :=
  match (s.lane l).openStack with
  | none => s
  | some o =>
    match s.formingRecord o with
    | none => s.setLane l { s.lane l with openStack := none }
    | some r =>
      if r.count = 0 then
        makeReady o.slot (fun r => { r with closing := some .aborted })
          (s.setLane l { s.lane l with openStack := none })
      else closeIntoEjects l o r.seq kind s

/-- The lane state and the change gap after a close, by the flags of the order (R126, R133). -/
def afterClose (l : Lane) (nogap final : Bool) (s : State) : State :=
  if final then s.setLane l { s.lane l with state := .held, gap := 0 }
  else s.setLane l { s.lane l with state := .changing, gap := if nogap then 0 else s.profile.changeGap }

/-! ## Fault and quarantine (R136 to R138) -/

/-- The quarantine record that a FORMING stack becomes (R137). -/
def StackRecord.quarantined (r : StackRecord) : StackRecord :=
  { r with target := 0, suspect := true, shouldReject := 0 }

/-- An empty quarantine record (R138). -/
def emptyQuarantine (l : Lane) (seq : Seq) (dry : Bool) : StackRecord :=
  { lane := l, tag := 0, job := 0, seq := seq, target := 0, count := 0, first := none, last := none,
    rejectsInSpan := 0, shouldReject := 0, closing := none, dry := dry, suspect := true, ejectFault := false,
    notEjected := false }

/-- Start an empty quarantine record; it takes a stack sequence (R138). -/
def startEmptyQuarantine (l : Lane) (s : State) : State :=
  s.setLane l { s.lane l with
    quarantine := some (emptyQuarantine l (s.lane l).nextSeq s.mode.isDryKind)
    nextSeq := (s.lane l).nextSeq + 1 }

/-- Step 1 of R137: the open stack becomes the quarantine record and its slot FREE, or an empty one is started. -/
def openStackToQuarantine (l : Lane) (s : State) : State :=
  match (s.lane l).openStack with
  | none => startEmptyQuarantine l s
  | some o =>
    match s.formingRecord o with
    | none => startEmptyQuarantine l (s.setLane l { s.lane l with openStack := none })
    | some r =>
      releaseSlot o.slot (s.setLane l { s.lane l with openStack := none, quarantine := some r.quarantined })

/-- Entry to FAULT (R137). -/
def enterFault (l : Lane) (s : State) : State :=
  (releaseEjects l StackRecord.withEjectFault (openStackToQuarantine l s)).setLaneState l .fault

/-- What a lane does when a fault is latched on its gate or pusher (R136). -/
def faultLane (l : Lane) (s : State) : State :=
  match (raiseEvent .laneFault s).lane l |>.state with
  | .off | .fault => raiseEvent .laneFault s
  | .idle | .held | .blocked | .stacking | .changing =>
    let s := raiseEvent .laneFault s
    enterFault l (s.setLane l { s.lane l with gap := 0 })

/-! ## The active lane mask (R142, R143) -/

/-- A lane leaves the active lane mask (R142). -/
def leaveMask (l : Lane) (s : State) : State :=
  match (s.lane l).state with
  | .stacking => (shortClose l .shortLaneRemoved s).setLaneState l .off
  | .off | .idle | .held | .blocked | .changing | .fault =>
    s.setLane l { s.lane l with state := .off, gap := 0 }

/-- A fault is latched on the lane's gate or pusher. -/
def State.laneLatched (s : State) (l : Lane) : Bool := (s.gate l).latch.isSome || (s.pusher l).latch.isSome

/-- A lane joins the active lane mask (R143). -/
def joinMask (l : Lane) (s : State) : State :=
  if s.laneLatched l then
    let s := if (s.lane l).quarantine.isSome then s else startEmptyQuarantine l s
    (releaseEjects l StackRecord.withEjectFault s).setLaneState l .fault
  else s.setLaneState l (s.lane l).idleState

/-- What a lane does when the mask changes from `old` to `new`. -/
def changeMask (old new : LaneSet) (l : Lane) (s : State) : State :=
  match LaneSet.has old l, LaneSet.has new l with
  | true, false => leaveMask l s
  | false, true => joinMask l s
  | true, true | false, false => s

/-- The lane, changed by the mask, may make a record READY, so that its order among the other lanes shows on the
ready list. -/
def State.contends (s : State) (old new : LaneSet) (l : Lane) : Bool :=
  match LaneSet.has old l, LaneSet.has new l with
  | true, false => (s.lane l).openStack.isSome
  | false, true => s.laneLatched l && !(s.lane l).ejects.isEmpty
  | true, true | false, false => false

/-- Every lane acts on a change of the active lane mask. Lanes that can reach the log are taken in an order no rule
fixes (R183; Log 7); the others touch only their own state. -/
def changeMasks (old new : LaneSet) (s : State) : State :=
  let quiet := allLanes.filter (fun l => !s.contends old new l)
  let loud := allLanes.filter (fun l => s.contends old new l)
  let s := quiet.foldl (fun s l => changeMask old new l s) s
  let drawn := drawOrder (fun l : Lane => l.val) loud s
  drawn.1.foldl (fun s l => changeMask old new l s) drawn.2

end Sys2Proof.Machine
end

