-- ==== Sys2Proof/Machine/ModeOps.lean ====
section
/-!
DEFINITION. What every block does at an entry to HALT, SETUP or DRAINING (R9, R32, R68, R164, R165, R168, R186, R187),
the setting of fault latches (R171, R172), and the end of draining.
-/

namespace Sys2Proof.Machine

/-! ## Blocks at an entry to SETUP or HALT -/

/-- The high-water marks become equal to their counters (R9). -/
def PositionUnit.level (p : PositionUnit) : PositionUnit :=
  { web := { p.web with highWater := p.web.counter }, belt := { p.belt with highWater := p.belt.counter } }

/-- The registration unit at an entry to SETUP or HALT (R32, R17). -/
def Registration.idled (r : Registration) : Registration :=
  { r with
    state := .search, lock := 0, miss := 0, candidate := none, window := none, virtualTarget := none,
    windowCounter := 0, lastReal := none }

/-- The registration unit at the entry to DRAINING (R32). -/
def Registration.drained (r : Registration) : Registration :=
  { r with window := none, virtualTarget := none, candidate := none, lastReal := none }

/-- The cut scheduler at an entry to HALT or SETUP (R68). -/
def CutScheduler.cleared (c : CutScheduler) : CutScheduler :=
  { c with
    schedule := [], headReached := false, queue := [], confirm := none, splices := [], overrunCarry := false,
    strikeCarry := false, lastFire := none }

/-- What R9, R32, R68 and R164 do alike at an entry to SETUP and to HALT: `m` is the mode entered. The filter times of
every output driven up to the entry restart, so that those of a pulse that starts and ends within one command do too
(R170). -/
def enterIdle (m : Mode) (s : State) : State :=
  endKnifePulse
    (((((refreshFilters s s).setMode m).setPos s.pos.level).setReg s.reg.idled).setCut s.cut.cleared)

/-- Entry to SETUP (R9, R32, R68, R164, R168: gate holds are kept). -/
def enterSetup (s : State) : State := enterIdle .setup s

/-- A running pulse of each pusher ends and its pending pulse mark is cleared, at an entry to HALT (R165). -/
def haltPushers (s : State) : State :=
  allLanes.foldl
    (fun s l => (endPusherPulse l s).setPusher l { (endPusherPulse l s).pusher l with pendingPulse := false }) s

/-- A waiting commit is withdrawn (R182). -/
def withdrawCommit (s : State) : State := s.setProf { s.prof with commit := none }

/-- A HALT cause reaches the profile unit (R187): in HALT nothing changes. -/
def enterHalt (cause : HaltCause) (s : State) : State :=
  if s.mode.isHalt then s
  else raiseEvent .haltEntered (removeHolds (haltPushers (enterIdle (.halt cause) (withdrawCommit s))))

/-! ## Fault latches (R170 to R172) -/

/-- A fault latched on the knife (R171, R172). -/
def latchKnife (kind : Latch) (s : State) : State :=
  enterHalt .knifeFault (s.setKnife { s.act.knife with drive := .latched, latch := some kind })

/-- A fault latched on a gate: its hold is removed, its lane is told (R171, R172). -/
def latchGate (l : Lane) (kind : Latch) (s : State) : State :=
  faultLane l (s.setGate l { s.gate l with latch := some kind, hold := none })

/-- The pulse stack of a lane is flagged EJECT_FAULT and cleared, when a pusher fault ends its pulse (R140). -/
def spoilPulseStack (l : Lane) (s : State) : State :=
  match (s.lane l).pulseStack with
  | none => s
  | some (i, seq) => (flagReadyEjectFault i l seq s).setLane l { s.lane l with pulseStack := none }

/-- A fault latched on a pusher (R140, R171, R172). An OVERLOAD clears the pending pulse mark; an OPEN leaves it
(Log 9). The due head of an OFF lane, for which no off time will now end, stays due (Log 29). -/
def latchPusher (l : Lane) (kind : Latch) (s : State) : State :=
  let spoiled := if (s.pusher l).drive.isPulse then spoilPulseStack l s else s
  faultLane l (spoiled.setPusher l
    { spoiled.pusher l with
      drive := .latched
      latch := some kind
      pendingPulse := match kind with
        | .overload => false
        | .opened => (spoiled.pusher l).pendingPulse })

/-- A fault latch is set on an output. -/
def latchOutput (o : Output) (kind : Latch) (s : State) : State :=
  match o with
  | .knife => latchKnife kind s
  | .gate l => latchGate l kind s
  | .pusher l => latchPusher l kind s

/-- The output is enabled, not latched, driven active, and its sense line stands at the fault level (R171). -/
def State.overloaded (s : State) (o : Output) : Bool :=
  s.enabled o && (s.latchOf o).isNone && s.driven o && s.atFault o

/-- OVERLOAD latched on an output that is still overloaded. -/
def latchIfOverloaded (o : Output) (s : State) : State := if s.overloaded o then latchOutput o .overload s else s

/-- The end of a step that may change what is driven: filter times restart where an output was or is driven active
(R170), and every overloaded output latches OVERLOAD at the same event (R171; Log 8), two or more of them in an order
no rule fixes (Log 7). -/
def finishDrive (before after : State) : State :=
  let s := refreshFilters before after
  let drawn := drawOrder outputKey (allOutputs.filter (fun o => s.overloaded o)) s
  drawn.1.foldl (fun s o => latchIfOverloaded o s) drawn.2

/-- A HALT cause that is the whole of its step: HALT is entered and the outputs stop, or nothing changes (R187). -/
def haltFor (cause : HaltCause) (s : State) : State :=
  if s.mode.isHalt then s else finishDrive s (enterHalt cause s)

/-! ## The end of draining (R186) -/

/-- The cut scheduler is drained (R67). -/
def CutScheduler.isDrained (c : CutScheduler) : Bool := c.schedule.isEmpty && c.queue.isEmpty && c.confirm.isNone

/-- DRAINING. -/
def Mode.isDraining : Mode → Bool
  | .draining _ => true
  | .setup | .run | .dry | .halt _ => false

/-- DRAINING has nothing left to do: the scheduler is drained and the map is empty (R186). -/
def State.drainEnds (s : State) : Bool := s.mode.isDraining && s.cut.isDrained && s.map.records.isEmpty

/-- The test of R186: DRAINING ends in SETUP when the scheduler is drained and the map is empty. -/
def endDraining (s : State) : State := if s.drainEnds then raiseEvent .drained (enterSetup s) else s

/-- A report of the scheduler or the map to the profile unit, with the end of draining and the outputs that it stops
(R186). -/
def reportDrained (s : State) : State := if s.drainEnds then finishDrive s (endDraining s) else s

end Sys2Proof.Machine
end

