-- ==== Sys2Proof/Machine/Actuator.lean ====
section
/-!
DEFINITION. Commands of the actuator unit and of the STOP input (09, R188): CAMERA_PULSE_END, PUSHER_PULSE_END,
PUSHER_OFF_TIME_END, GATE_HOLD_END, SENSE_LINE_CHANGE, INACTIVE_TIME_ELAPSED, OPEN_LOAD_LATCH, STOP_INPUT_ACTIVE,
STOP_INPUT_INACTIVE. A row of a timed interval is the moment at which it has elapsed (Log 3).
-/

namespace Sys2Proof.Machine

/-- CAMERA_PULSE_END (R166). -/
def execCameraPulseEnd (s : State) : Answer := .next (s.setAct { s.act with camera := none })

/-- PUSHER_PULSE_END (R165). -/
def execPusherPulseEnd (l : Lane) (s : State) : Answer :=
  .next (match (s.pusher l).drive with
    | .pulse _ => finishDrive s (endPusherPulse l s)
    | .free | .offTime _ | .latched => s)

/-- The pusher becomes FREE, and its lane ejects a due head; in HALT it does not (R129, R130, R165). -/
def freePusher (l : Lane) (s : State) : State :=
  let t := s.setPusher l { s.pusher l with drive := .free }
  if !s.mode.isHalt && (t.lane l).headDue then runEjects l (ejectHead l t) else t

/-- The end of a pusher's off time: a pending pulse starts, otherwise the pusher is FREE (R165). -/
def endPusherOffTime (l : Lane) (s : State) : State :=
  if (s.pusher l).pendingPulse && !s.mode.isHalt then
    startPusherPulse l (s.setPusher l { s.pusher l with pendingPulse := false })
  else freePusher l s

/-- PUSHER_OFF_TIME_END (R165). -/
def execPusherOffTimeEnd (l : Lane) (s : State) : Answer :=
  .next (match (s.pusher l).drive with
    | .offTime _ => finishDrive s (endPusherOffTime l s)
    | .free | .pulse _ | .latched => s)

/-- GATE_HOLD_END (R167). -/
def execGateHoldEnd (l : Lane) (s : State) : Answer :=
  .next (match (s.gate l).hold with
    | none => s
    | some e =>
      if !s.mode.isHalt && e.reached then finishDrive s (s.setGate l { s.gate l with hold := none }) else s)

/-- A set of lanes with one lane put in or taken out. -/
def LaneSet.put (m : LaneSet) (l : Lane) (b : Bool) : LaneSet :=
  if b then m ||| (1#8 <<< l.val) else m &&& ~~~(1#8 <<< l.val)

/-- The sense line of an output set to the fault level or not. -/
def Pins.setSense (p : Pins) (o : Output) (b : Bool) : Pins :=
  match o with
  | .knife => { p with knifeSense := b }
  | .gate l => { p with gateSense := LaneSet.put p.gateSense l b }
  | .pusher l => { p with pusherSense := LaneSet.put p.pusherSense l b }

/-- Open-load times are kept: the output is enabled, not latched, and driven inactive (R170). -/
def State.sampled (s : State) (o : Output) : Bool := s.enabled o && (s.latchOf o).isNone && !s.driven o

/-- The filter phase after the sense line changes: the open-load time runs from the fault level, and restarts when the
line leaves it (R170). -/
def filterAfterSense (f : Filter) (atFault : Bool) : Filter :=
  match f with
  | .settling => .settling
  | .settled => sampledFilter atFault
  | .measuring => sampledFilter atFault

/-- The sense line of an output takes a level (R170). -/
def senseChange (o : Output) (atFault : Bool) (s : State) : State :=
  let t := s.setPins (s.pins.setSense o atFault)
  if s.sampled o then t.setFilter o (filterAfterSense (s.filterOf o) atFault) else t

/-- SENSE_LINE_CHANGE (R170, R171). -/
def execSenseLineChange (o : Output) (v : Level) (s : State) : Answer :=
  .next (finishDrive s (senseChange o (v == .low) s))

/-- INACTIVE_TIME_ELAPSED (R170). -/
def execInactiveTimeElapsed (o : Output) (s : State) : Answer :=
  .next (if s.sampled o && s.filterOf o == .settling then s.setFilter o (sampledFilter (s.atFault o)) else s)

/-- OPEN_LOAD_LATCH (R170, R172). -/
def execOpenLoadLatch (o : Output) (s : State) : Answer :=
  .next (if s.sampled o && s.filterOf o == .measuring then finishDrive s (latchOutput o .opened s) else s)

/-- STOP_INPUT_ACTIVE (R188). -/
def execStopInputActive (s : State) : Answer :=
  .next (haltFor .stopInput (s.setPins { s.pins with stop := true }))

/-- STOP_INPUT_INACTIVE (R188). -/
def execStopInputInactive (s : State) : Answer := .next (s.setPins { s.pins with stop := false })

end Sys2Proof.Machine
end

