-- ==== Sys2Proof/Machine/MapOps.lean ====
section
/-!
DEFINITION. The transit map (05): the entry of a repeat at its strike, spacing, purge, the camera notice queue.
-/

namespace Sys2Proof.Machine

/-! ## Purge (R78, R79) -/

/-- The candidate end of a purge from stamp t (R78). -/
def purgeCandidate (p : Profile) (t : Pos) : Pos := t + dist (p.gGate + p.labelLength + p.purgeTail)

/-- Purge is started or its end moved out, never brought back (R78). -/
def extendPurge (t : Pos) (s : State) : State :=
  let e := purgeCandidate s.profile t
  match s.map.purge with
  | none => raiseEvent .purgeOn (s.setMap { s.map with purge := some (PosEvent.arm s.belt e) })
  | some p =>
    if atOrBeyond e p.target then s.setMap { s.map with purge := some (PosEvent.arm s.belt e) } else s

/-- Purge is in force for a decision (R79): ACTIVE, and the belt short of the purge end. -/
def State.purgeInForce (s : State) : Bool :=
  match s.map.purge with
  | none => false
  | some p => shortOf s.belt p.target

/-! ## Spacing (R74 to R76) -/

/-- The spacing class of an entry with stamp t (R74). With σ_j = 0 a spacing of 0 is TIGHT (Log 27). -/
def spacingClass (p : Profile) (last : Option Fading) (t : Pos) : Spacing :=
  match last with
  | none => .normal
  | some f =>
    let d := signedDiff t f.value
    if d < p.sigmaJam then .jammed
    else if d < p.sigmaTight then .tight
    else if d < p.sigmaWarn then .near
    else .normal

/-- The events SPACING_WARN and REG_WARN, which the warning auto-clear clears (R76). -/
def warnings : EventSet := Event.spacingWarn.bit ||| Event.regWarn.bit

/-- A NORMAL entry: the NORMAL run, and the warning auto-clear (R75, R76). -/
def normalEntry (s : State) : State :=
  let run := satInc s.map.normalRun
  if s.profile.autoClear ≠ 0 ∧ s.profile.autoClear ≤ run.toNat then
    acknowledge .line warnings (s.setMap { s.map with normalRun := 0 })
  else s.setMap { s.map with normalRun := run }

/-- The NORMAL run becomes 0. -/
def breakRun (s : State) : State := s.setMap { s.map with normalRun := 0 }

/-- The effects of a spacing class outside the new record (R75). -/
def applySpacing (c : Spacing) (t : Pos) (s : State) : State :=
  match c with
  | .normal => normalEntry s
  | .near => raiseEvent .spacingWarn (breakRun s)
  | .tight => raiseEvent .spacingWarn (breakRun s)
  | .jammed => extendPurge t (raiseEvent .jam (breakRun s))

/-- The class puts SPACING into the record's cause set (R75). -/
def Spacing.givesCause : Spacing → Bool
  | .tight | .jammed => true
  | .normal | .near => false

/-! ## Entry at the strike (R72, R73, R77) -/

/-- The repeat record of a cut struck at belt stamp t (R72, R73). -/
def makeRecord (p : Profile) (belt : Pos) (dry : Bool) (c : Spacing) (cut : Cut) (t : Pos) : RepeatRecord :=
  let inspected := p.inspectionRequired && p.laneMask != 0
  { repeatNo := cut.repeatNo, kind := cut.kind, regError := cut.regError, fire := cut.fire, stamp := t,
    postponed := cut.postponed, late := cut.late, uncutCarry := cut.uncutCarry, confirmed := false,
    laneSet := p.laneMask, reg := cut.reg, uncut := cut.uncutCarry, splice := cut.splice, spacing := c.givesCause,
    lineLanes := cut.lineLanes, spacingClass := c, inspection := inspected,
    verdict := if inspected then .awaited else .notRequired,
    vision := 0, defectClass := none,
    camera := if inspected then some (PosEvent.arm belt (t + dist p.gCam)) else none,
    cameraTaken := false,
    decision := PosEvent.arm belt (t + dist p.gGate - dist p.gatePre),
    purgeTested := false, decisionTaken := false,
    exit := PosEvent.arm belt (t + dist (p.gStack + p.labelLength)),
    dispositions := Vector.replicate 8 .undecided, dry := dry, purge := false }

/-- The last stamp is set, and its expiry armed (R74). -/
def setLastStamp (t : Pos) (s : State) : State :=
  s.setMap { s.map with lastStamp := some (Fading.start s.belt t) }

/-- A repeat enters the map (R72). -/
def enterRecord (cut : Cut) (t : Pos) (s : State) : State :=
  let c := spacingClass s.profile s.map.lastStamp t
  let r := makeRecord s.profile s.belt s.mode.isDryKind c cut t
  let s := setLastStamp t (applySpacing c t s)
  let s := s.setMap { s.map with records := s.map.records ++ [r] }
  s.countLanes (fun l n => if LaneSet.has r.laneSet l then { n with cut := n.cut + 1 } else n)

/-- A strike that finds the map full: the repeat is untracked (R77). -/
def untrackedRepeat (t : Pos) (s : State) : State :=
  setLastStamp t (breakRun (extendPurge t (raiseEvent .mapFull (s.countUntracked s.profile.laneMask))))

/-- A strike hands the map one cut and a belt stamp (R72, R77). -/
def enterMap (cut : Cut) (t : Pos) (s : State) : State :=
  if s.map.records.length < Config.maxRecords then enterRecord cut t s else untrackedRepeat t s

/-! ## The inspection notice queue (R82) -/

/-- A notice joins the queue, the oldest being dropped from a full one (R82). -/
def pushNotice (n : Notice) (s : State) : State :=
  if s.map.notices.length < Config.maxNotices then
    raiseEvent .noticeReady (s.setMap { s.map with notices := s.map.notices ++ [n] })
  else
    raiseEvent .noticeReady (raiseEvent .noticeOverflow
      ((s.setMap { s.map with notices := s.map.notices.drop 1 ++ [n] }).setCnt
        { s.cnt with noticeOverflows := satInc s.cnt.noticeOverflows }))

end Sys2Proof.Machine
end

