-- ==== Sys2Proof/Machine/DecisionOps.lean ====
section
/-!
DEFINITION. The gate decision of one label (R104 to R116) and what it does to the lane: opening (R122, R123),
counting and closing (R124 to R126), quarantine (R106, R139), reject intervals (R113) and counts (R116).
-/

namespace Sys2Proof.Machine

/-! ## Opening a stack (R122, R123) -/

/-- The stack record of an opening (R123, step 1). -/
def openingRecord (l : Lane) (o : Order) (seq : Seq) (dry : Bool) : StackRecord :=
  { lane := l, tag := o.tag, job := o.job, seq := seq, target := o.target, count := 0, first := none, last := none,
    rejectsInSpan := 0, shouldReject := 0, closing := none, dry := dry, suspect := false, ejectFault := false,
    notEjected := false }

/-- The opening of the oldest order's stack in a granted slot (R123). -/
def openStack (l : Lane) (i : SlotIndex) (o : Order) (rest : List Order) (s : State) : State :=
  let u := s.lane l
  (openSlot i (openingRecord l o u.nextSeq s.mode.isDryKind) s).setLane l
    { u with
      state := .stacking, orders := rest, gap := 0, nextSeq := u.nextSeq + 1,
      openStack := some ⟨i, o.nogap, o.final, none⟩ }

/-- Check 5 (R107, R122): the state after the attempt, and the cause if the label is rejected by it. -/
def tryOpen (l : Lane) (s : State) : State × Option Cause :=
  match (s.lane l).orders with
  | [] => (s.setLaneState l .idle, some .noOrder)
  | o :: rest =>
    match s.freeSlot with
    | none => ((raiseEvent .logFull s).setLaneState l .blocked, some .logFull)
    | some i =>
      if (s.lane l).ejects.length < Config.maxEjects then (openStack l i o rest s, none)
      else (s.setLaneState l .blocked, some .ejectBusy)

/-! ## The checks that read the record (R109 to R114) -/

/-- The first cause of the lane's cause set, in the order REG, UNCUT, SPLICE, SPACING, LINE (R110). -/
def RepeatRecord.firstCause (r : RepeatRecord) (l : Lane) : Option Cause :=
  if r.reg then some .reg
  else if r.uncut then some .uncut
  else if r.splice then some .splice
  else if r.spacing then some .spacing
  else if LaneSet.has r.lineLanes l then some .line
  else none

/-- Check 10 applies (R112). -/
def noVerdictRejects (p : Profile) (r : RepeatRecord) : Bool :=
  r.inspection && r.verdict == .awaited && p.noVerdict == .reject

/-- Checks 7 to 10 (R109 to R112): the cause of the first that applies. -/
def recordCause (p : Profile) (r : RepeatRecord) (l : Lane) : Option Cause :=
  if r.purge then some .purge
  else match r.firstCause l with
    | some c => some c
    | none =>
      if LaneSet.has r.vision l then some .vision
      else if noVerdictRejects p r then some .noVerdict
      else none

/-- Check 11 applies (R114). -/
def gateMerges (p : Profile) (r : RepeatRecord) (rejectEnd : Option Fading) : Bool :=
  match rejectEnd with
  | none => false
  | some e => shortOf (r.stamp + dist p.gGate) (e.value + dist p.minClosed)

/-- Checks 7 to 11: the cause of the first that applies. -/
def labelCause (p : Profile) (r : RepeatRecord) (l : Lane) (rejectEnd : Option Fading) : Option Cause :=
  match recordCause p r l with
  | some c => some c
  | none => if gateMerges p r rejectEnd then some .gateMerge else none

/-! ## Counting (R116, R124 to R126, R139) -/

/-- A reject in the span of the FORMING stack (R116). -/
def rejectInSpan (l : Lane) (s : State) : State :=
  match (s.lane l).openStack with
  | none => s
  | some o => updateForming o.slot (fun r => { r with rejectsInSpan := satInc r.rejectsInSpan }) s

/-- A label counted into a stack record (R124). -/
def StackRecord.countLabel (q : StackRecord) (r : RepeatRecord) : StackRecord :=
  { q with
    count := q.count + 1, first := some (q.first.getD r.repeatNo), last := some r.repeatNo, dry := q.dry || r.dry }

/-- Check 12 (R115, R124 to R126): the label is counted into the FORMING stack, which closes at its target. The
disposition carries the stack sequence. -/
def stackLabel (r : RepeatRecord) (l : Lane) (s : State) : State × Disposition :=
  match (s.lane l).openStack with
  | none => (s, .rejected .noOrder)
  | some o =>
    match s.formingRecord o with
    | none => (s, .rejected .noOrder)
    | some q =>
      let o' := { o with stamp := some r.stamp }
      let s := updateForming o.slot (fun q => q.countLabel r) (s.setLane l { s.lane l with openStack := some o' })
      if q.target ≤ q.count + 1 then
        (closeIntoEjects l o' q.seq .target (afterClose l o.nogap o.final s), .stacked q.seq)
      else (s, .stacked q.seq)

/-- The label should have been rejected (R106). -/
def shouldHaveBeenRejected (p : Profile) (r : RepeatRecord) (l : Lane) : Bool := (recordCause p r l).isSome

/-- A label counted into a quarantine record (R139). -/
def StackRecord.countQuarantined (q : StackRecord) (r : RepeatRecord) (bad : Bool) : StackRecord :=
  { q with
    count := min (q.count + 1) 65535, first := some (q.first.getD r.repeatNo), last := some r.repeatNo,
    shouldReject := if bad then satInc q.shouldReject else q.shouldReject, dry := q.dry || r.dry }

/-- Check 2 (R106, R139). -/
def quarantineLabel (r : RepeatRecord) (l : Lane) (s : State) : State :=
  s.setLane l { s.lane l with
    quarantine := (s.lane l).quarantine.map
      (fun q => q.countQuarantined r (shouldHaveBeenRejected s.profile r l)) }

/-! ## The decision (R104) -/

/-- Checks 7 to 12, for a lane that is STACKING. -/
def judge (r : RepeatRecord) (l : Lane) (s : State) : State × Disposition :=
  match labelCause s.profile r l (s.lane l).rejectEnd with
  | some c => (rejectInSpan l s, .rejected c)
  | none => stackLabel r l s

/-- Check 5 and, when it opens a stack, the checks after it (R107). -/
def openAndJudge (r : RepeatRecord) (l : Lane) (s : State) : State × Disposition :=
  match tryOpen l s with
  | (s', some c) => (s', .rejected c)
  | (s', none) => judge r l s'

/-- The twelve checks of the gate decision, in order (R104 to R115). -/
def gateChecks (r : RepeatRecord) (l : Lane) (s : State) : State × Disposition :=
  match (s.lane l).state with
  | .off => (s, .rejected .laneOff)
  | .fault => (quarantineLabel r l s, .quarantined)
  | .held => (s, .rejected .laneHeld)
  | .idle => (s, .rejected .noOrder)
  | .blocked => openAndJudge r l s
  | .changing =>
    if (s.lane l).gap = 0 then openAndJudge r l s
    else (s.setLane l { s.lane l with gap := (s.lane l).gap - 1 }, .rejected .changeGap)
  | .stacking => judge r l s

/-- The last reject-interval end after an interval that ends at b (R113). -/
def nextRejectEnd (now b : Pos) : Option Fading → Fading
  | none => Fading.start now b
  | some e => if atOrBeyond b e.value ∧ b ≠ e.value then Fading.start now b else e

/-- The reject interval of a label: handed to the gate, and the last reject-interval end (R113). -/
def rejectInterval (r : RepeatRecord) (l : Lane) (s : State) : State :=
  let p := s.profile
  let a := r.stamp + dist p.gGate - dist p.gatePre
  let b := r.stamp + dist (p.gGate + p.labelLength + p.gatePost)
  let s := takeInterval l a b s
  s.setLane l { s.lane l with rejectEnd := some (nextRejectEnd s.belt b (s.lane l).rejectEnd) }

/-- The production counts of one disposition (R116). -/
def LaneCounts.decided (c : LaneCounts) : Disposition → LaneCounts
  | .undecided => c
  | .stacked _ => { c with stacked := c.stacked + 1 }
  | .rejected cause =>
    { c with rejected := c.rejected + 1, causes := c.causes.set cause.index.val (c.causes[cause.index] + 1) }
  | .quarantined => { c with quarantined := c.quarantined + 1 }

/-- A disposition made: written into the record (R85), its interval (R113), its counts (R116). -/
def dispose (r : RepeatRecord) (l : Lane) (d : Disposition) (s : State) : State :=
  let s := match d with
    | .rejected _ => rejectInterval r l s
    | .undecided | .stacked _ | .quarantined => s
  (s.updateRecord r.repeatNo (fun r => { r with dispositions := r.dispositions.set l.val d })).countLanes
    (fun m c => if m = l then c.decided d else c)

/-- The gate decision of one lane on the record of a repeat (R104): made once, from UNDECIDED. -/
def decideLane (n : RepeatNo) (l : Lane) (s : State) : State :=
  match s.record n with
  | none => s
  | some r =>
    if r.undecided l then
      let made := gateChecks r l s
      dispose r l made.2 made.1
    else s

end Sys2Proof.Machine
end

