-- ==== Sys2Proof/Machine/Arithmetic.lean ====
section
/-!
DEFINITION. The arithmetic of 03: the repeat length filter and its clamp band, the expected mark position, the scaled
cut distance, the latency lead and the fire position; and the cross-checks' floor of R179.
-/

namespace Sys2Proof.Machine

/-- The filter step: d divided by 2^g, rounded to the nearest integer, halves away from zero (R36, R37). -/
def filterStep (d : Int) (g : Nat) : Int :=
  if g = 0 then d
  else if 0 ≤ d then (d + 2 ^ (g - 1)) / 2 ^ g
  else -((-d + 2 ^ (g - 1)) / 2 ^ g)

/-- The measured repeat (m_k − m_{k−1}) mod 2^32 (R36). -/
def measuredRepeat (mark last : Pos) : Nat := (mark - last).toNat

/-- P_eff after the filter step of R36, before the clamp. -/
def filtered (pEff : Nat) (mark last : Pos) (g : Nat) : Int :=
  pEff + filterStep ((measuredRepeat mark last : Int) * 256 - pEff) g

/-- The lower bound of the clamp band (R38). -/
def bandLow (p : Profile) : Nat := p.pNom * 256 * (1024 - p.stretchLimit) / 1024

/-- The upper bound of the clamp band (R38). -/
def bandHigh (p : Profile) : Nat := p.pNom * 256 * (1024 + p.stretchLimit) / 1024

/-- A value lies outside the clamp band, so that STRETCH_LIMIT is raised (R38). -/
def outsideBand (p : Profile) (x : Int) : Bool := decide (x < bandLow p ∨ bandHigh p < x)

/-- A value held within the clamp band (R38). -/
def clampToBand (p : Profile) (x : Int) : Nat :=
  if x < bandLow p then bandLow p else if bandHigh p < x then bandHigh p else x.toNat

/-- P_eff in web counts, a half rounded up (R40). -/
def roundedRepeat (pEff : Nat) : Nat := (pEff + 128) / 256

/-- The expected position of the next mark (R40). -/
def expectedMark (mark : Pos) (pEff : Nat) : Pos := mark + dist (roundedRepeat pEff)

/-- The scaled cut distance K_eff (R41). -/
def scaledCutDistance (k pEff pNom : Nat) : Nat := (k * pEff + 128 * pNom) / (256 * pNom)

/-- The latency lead before its clamp (R42). -/
def unclampedLead (speed : Int) (latency : Nat) : Nat :=
  if speed ≤ 0 ∨ latency = 0 then 0 else (speed.toNat * latency + 500) / 1000

/-- The latency lead L, at most 8,191 (R42). -/
def latencyLead (speed : Int) (latency : Nat) : Nat := min (unclampedLead speed latency) 8191

/-- The lead is clamped, so that LEAD_LIMIT is raised (R42). -/
def leadClamped (speed : Int) (latency : Nat) : Bool := decide (8191 < unclampedLead speed latency)

/-- The fire position before ordering, F = m + K_eff − L (R43). -/
def firePosition (mark : Pos) (kEff lead : Nat) : Pos := mark + dist kEff - dist lead

/-- The ordering reference F_last (R45): the newest entry of the schedule, otherwise the last fire position. -/
def CutScheduler.orderingReference (c : CutScheduler) : Option Pos :=
  match c.schedule.getLast? with
  | some newest => some newest.fire
  | none => c.lastFire

/-- The cut must be postponed (R46). -/
def mustPostpone (reference : Option Pos) (fire : Pos) (qMin : Nat) : Bool :=
  match reference with
  | none => false
  | some last => shortOf fire (last + dist qMin)

/-- The fire position after ordering (R46). -/
def orderedFire (reference : Option Pos) (fire : Pos) (qMin : Nat) : Pos :=
  match reference with
  | none => fire
  | some last => if shortOf fire (last + dist qMin) then last + dist qMin else fire

end Sys2Proof.Machine
end

