-- ==== Sys2Proof/Machine/CutOps.lean ====
section
/-!
DEFINITION. The cut scheduler (04): the line-reject range, placement of a cut, splices, firing, the strike and the
knife confirm.
-/

namespace Sys2Proof.Machine

/-- What a mark event hands the cut scheduler (R30). -/
structure MarkRecord where
  repeatNo : RepeatNo
  kind : MarkKind
  position : Pos
  error : Option Int
  reg : Bool
  deriving DecidableEq, Repr

/-! ## The line-reject range (R54) -/

/-- The repeat number is inside the range (R54). -/
def LineRange.contains (r : LineRange) (n : RepeatNo) : Bool := r.remaining != 0 && r.first == n

/-- The line lanes a repeat takes from the range (R54). -/
def LineRange.lanesFor (r : LineRange) (n : RepeatNo) : LaneSet := if r.contains n then r.mask else 0

/-- The range after a repeat number has been tested against it (R54). -/
def LineRange.consume (r : LineRange) (n : RepeatNo) : LineRange :=
  if r.contains n then { r with first := r.first + 1, remaining := r.remaining - 1 } else r

/-! ## Splices (R56 to R58) -/

/-- The zone formed by a splice detection at web position s (R56). -/
def spliceZone (p : Profile) (s : Pos) : Zone :=
  { start := s + dist p.spliceDistance - dist p.splicePre, stop := s + dist p.spliceDistance + dist p.splicePost }

/-- A zone inserted at its place by start, after zones of equal start (R57). -/
def insertZone (z : Zone) : List Zone → List Zone
  | [] => [z]
  | y :: ys => if shortOf z.start y.start then z :: y :: ys else y :: insertZone z ys

/-- Two zones merged: the earlier start, the later end (R57). -/
def mergeZones (a b : Zone) : Zone :=
  { start := if shortOf b.start a.start then b.start else a.start,
    stop := if atOrBeyond b.stop a.stop then b.stop else a.stop }

/-- The splice list is full. -/
def splicesFull (zs : List Zone) : Bool := decide (Config.maxZones ≤ zs.length)

/-- The splice list after a new zone (R57): into a full list it is merged with the last zone. -/
def addZone (z : Zone) (zs : List Zone) : List Zone :=
  if splicesFull zs then match zs.getLast? with
    | some last => insertZone (mergeZones last z) zs.dropLast
    | none => [z]
  else insertZone z zs

/-- A zone overlaps the knife span from p, exclusive, to F, inclusive (R58). -/
def Zone.overlaps (z : Zone) (p fire : Pos) : Bool := atOrBeyond fire z.start && atOrBeyond z.stop (p + 1)

/-- The previous last fire position of a cut's knife span (R58). -/
def State.spanStart (s : State) (fire : Pos) : Pos := s.cut.lastFire.getD (fire - dist s.profile.pNom)

/-! ## The strike (R61 to R65) -/

/-- The open confirm window ends as a miss (R64). -/
def missStrike (w : ConfirmWindow) (s : State) : State :=
  (s.updateRecord w.repeatNo (fun r => { r with uncut := true })).setCut
    { s.cut with confirm := none, strikeCarry := true }

/-- Step 1 of R61: an open confirm window is closed as a miss (R65). -/
def closeConfirm (s : State) : State :=
  match s.cut.confirm with
  | none => s
  | some w => missStrike w s

/-- Step 2 of R61: the strike carry marks the cut. -/
def Cut.withCarry (c : Cut) (carry : Bool) : Cut := { c with uncutCarry := c.uncutCarry || carry }

/-- Step 5 of R61: a confirm window opens when the field is above 0 (R63). -/
def openConfirm (n : RepeatNo) (s : State) : State :=
  if s.profile.confirmWindow = 0 then s
  else s.setCut { s.cut with
    confirm := some ⟨n, PosEvent.arm s.web (s.web + dist s.profile.confirmWindow)⟩ }

/-- The hand-off of a cut that is being struck, with the strike carry applied (R61, steps 2 and 4; R62). -/
def handOver (c : Cut) (s : State) : State :=
  enterMap (c.withCarry s.cut.strikeCarry) s.belt (s.setCut { s.cut with strikeCarry := false })

/-- The strike of a cut: with a pulse and a confirm window (R61), or without in DRY and a dry drain (R62). -/
def strike (c : Cut) (s : State) : State :=
  if s.mode.isDryKind then handOver c s
  else openConfirm c.repeatNo (handOver c (requestKnifePulse (closeConfirm s)))

/-- The knife has become free: the oldest cut of the strike queue is struck (R60, R164). -/
def strikeOldest (s : State) : State :=
  match s.cut.queue with
  | [] => s
  | c :: rest => strike c (s.setCut { s.cut with queue := rest })

/-! ## Firing (R58 to R60) -/

/-- The splice test of a fired cut, the removal of passed zones, and the last fire position (R58). -/
def spliceTest (c : Cut) (s : State) : Cut × State :=
  ({ c with splice := c.splice || s.cut.splices.any (fun z => z.overlaps (s.spanStart c.fire) c.fire) },
   s.setCut { s.cut with
     splices := s.cut.splices.filter (fun z => !atOrBeyond c.fire z.stop), lastFire := some c.fire })

/-- A fired cut must wait in the strike queue (R59, R60). In DRY and a dry drain the knife is never busy. -/
def State.mustQueue (s : State) : Bool :=
  !s.mode.isDryKind && (s.act.knife.drive.isBusy || !s.cut.queue.isEmpty)

/-- A cut is fired (R59): the splice test, then struck at once or queued, flagged LATE with cause REG (R60). -/
def fireCut (c : Cut) (s : State) : State :=
  let tested := spliceTest c s
  if tested.2.mustQueue then
    tested.2.setCut { tested.2.cut with
      queue := tested.2.cut.queue ++ [{ tested.1 with late := true, reg := true }] }
  else strike tested.1 tested.2

/-- The head's fire position has been passed, when the head is the first of a schedule (R4, R50). -/
def headPassed (web : Pos) : List Cut → Bool
  | [] => false
  | c :: _ => atOrBeyond web c.fire

/-- The head leaves the schedule, the next entry is armed, and the head is fired (R50, R59). -/
def fireHead (s : State) : State :=
  match s.cut.schedule with
  | [] => s
  | c :: rest => fireCut c (s.setCut { s.cut with schedule := rest, headReached := headPassed s.web rest })

/-- Fire heads as long as the head's fire position has been reached; an entry that becomes head with its position
already passed is fired immediately (R4, R50). -/
def fireReached : Nat → State → State
  | 0, s => s
  | n + 1, s => if s.cut.headReached then fireReached n (fireHead s) else s

/-! ## Placement (R51 to R53) -/

/-- The overrun of a mark event record (R52). -/
def overrun (s : State) : State :=
  raiseEvent .cutOverrun
    ((s.countUntracked s.profile.laneMask).setCut { s.cut with overrunCarry := true })

/-- Stages 4 to 7 for a mark event record (R41 to R47): the values of the latest cut. -/
def placement (s : State) (mark : Pos) : Placement :=
  let p := s.profile
  let kEff := scaledCutDistance p.sensorToCut s.reg.pEff p.pNom
  let lead := latencyLead s.pos.web.speed p.latency
  { kEff := kEff, lead := lead,
    fire := orderedFire s.cut.orderingReference (firePosition mark kEff lead) p.qMin }

/-- The cut of a mark event record, with its flags and causes (R46 to R48, R53, R54). -/
def placedCut (s : State) (m : MarkRecord) (lanes : LaneSet) : Cut :=
  let at_ := placement s m.position
  let postponed := mustPostpone s.cut.orderingReference (firePosition m.position at_.kEff at_.lead) s.profile.qMin
  let late := atOrBeyond s.web at_.fire
  { repeatNo := m.repeatNo, kind := m.kind, regError := m.error, fire := at_.fire, postponed := postponed,
    late := late, uncutCarry := s.cut.overrunCarry, reg := m.reg || postponed || late, lineLanes := lanes,
    splice := false }

/-- The cut joins the schedule as its newest entry; into an empty schedule it is armed as head (R50). -/
def joinSchedule (c : Cut) (s : State) : State :=
  if s.cut.schedule.isEmpty then
    s.setCut { s.cut with schedule := [c], headReached := atOrBeyond s.web c.fire }
  else s.setCut { s.cut with schedule := s.cut.schedule ++ [c] }

/-- Steps 3 to 5 of R51. -/
def placeCut (m : MarkRecord) (lanes : LaneSet) (s : State) : State :=
  let c := placedCut s m lanes
  let s' := raiseIf (leadClamped s.pos.web.speed s.profile.latency) .leadLimit
    (s.setCut { s.cut with latest := some (placement s m.position), overrunCarry := false })
  if c.late then fireCut c s' else joinSchedule c s'

/-- The cut scheduler receives a mark event record (R51). -/
def receiveMark (m : MarkRecord) (s : State) : State :=
  let lanes := s.cut.range.lanesFor m.repeatNo
  let s := s.setCut { s.cut with range := s.cut.range.consume m.repeatNo }
  if Config.maxCuts ≤ s.pendingCuts then overrun s else placeCut m lanes s

end Sys2Proof.Machine
end

