-- ==== Sys2Proof/Machine/Operands.lean ====
section
/-!
DEFINITION. How the operands of requests name things: lane numbers, slot indices, selectors and named lists (R194),
and the classes of a repeat number (R93).
-/

namespace Sys2Proof.Machine

/-- The lane of a lane number 1..8 (R194). -/
def laneOf (n : Nat) : Option Lane := if h : 1 ≤ n ∧ n ≤ 8 then some ⟨n - 1, by omega⟩ else none

/-- The slot of a slot index 0..31 (R155). -/
def slotOf (n : Nat) : Option SlotIndex := if h : n < 32 then some ⟨n, h⟩ else none

/-- The lane selector of FETCH_RECORD: ANY, or a lane (R154, R194). -/
inductive LaneSelector where
  | any
  | one (l : Lane)
  deriving DecidableEq, Repr

def laneSelectorOf (n : Nat) : Option LaneSelector :=
  if n = 0 then some .any else (laneOf n).map .one

/-- A level from its number in the list HIGH, LOW (R175, R194). -/
def levelOf (n : Nat) : Level := if n = 0 then .high else .low

def levelNumber : Level → Nat
  | .high => 0
  | .low => 1

/-- The classes of a repeat number (R93). -/
inductive RepeatClass where
  | inMap | pending | gone | notYet | far
  deriving DecidableEq, Repr

/-- Repeat n is behind repeat m (00_scope.md, Repeat numbers). -/
def behind (n m : RepeatNo) : Bool := decide (1 ≤ (m - n).toNat ∧ (m - n).toNat ≤ 32767)

/-- A cut with the repeat number is in the schedule or the strike queue. -/
def State.cutPending (s : State) (n : RepeatNo) : Bool :=
  s.cut.schedule.any (fun c => c.repeatNo == n) || s.cut.queue.any (fun c => c.repeatNo == n)

/-- Where a repeat number stands, tested in the order of R93. -/
def State.classOf (s : State) (n : RepeatNo) : RepeatClass :=
  if (s.record n).isSome then .inMap
  else if s.cutPending n then .pending
  else match s.reg.newest with
    | none => .notYet
    | some newest =>
      if n = newest ∨ behind n newest then .gone
      else if behind newest n then .notYet
      else .far

end Sys2Proof.Machine
end

