-- ==== Sys2Proof/Machine/ProfileOps.lean ====
section
/-!
DEFINITION. The profile unit (10): the fields by identifier, their fixed ranges, validation, and the application of a
commit to every block.
-/

namespace Sys2Proof.Machine

/-! ## Fields (R175) -/

/-- YES, NO and REJECT, PASS, numbered from 0 (R175, R194). -/
def boolNumber (b : Bool) : Nat := if b then 0 else 1

def policyNumber : Policy → Nat
  | .reject => 0
  | .pass => 1

/-- The value of the field with an identifier; an identifier outside 1..44 names none. -/
def Profile.get (p : Profile) : Nat → Option Nat
  | 1 => some p.pNom | 2 => some p.halfWindow | 3 => some p.mMin | 4 => some (levelNumber p.markLevel)
  | 5 => some p.tReg | 6 => some p.filterShift | 7 => some p.stretchLimit | 8 => some p.nLock
  | 9 => some p.grace | 10 => some p.cMax | 11 => some p.sensorToCut | 12 => some p.latency
  | 13 => some p.qMin | 14 => some p.confirmWindow | 15 => some p.spliceDistance | 16 => some p.splicePre
  | 17 => some p.splicePost | 18 => some p.reverseLimit | 19 => some p.laneMask.toNat | 20 => some p.gCam
  | 21 => some p.gGate | 22 => some p.gStack | 23 => some p.labelLength | 24 => some p.gatePre
  | 25 => some p.gatePost | 26 => some p.minClosed | 27 => some p.settle | 28 => some p.sigmaWarn
  | 29 => some p.sigmaTight | 30 => some p.sigmaJam | 31 => some p.purgeTail
  | 32 => some (boolNumber p.inspectionRequired) | 33 => some (policyNumber p.noVerdict)
  | 34 => some p.changeGap | 35 => some p.autoClear | 36 => some p.knifePulse | 37 => some p.knifeOff
  | 38 => some p.pusherPulse | 39 => some p.pusherOff | 40 => some p.cameraPulse
  | 41 => some (levelNumber p.knifeLevel) | 42 => some (levelNumber p.gateLevel)
  | 43 => some (levelNumber p.pusherLevel) | 44 => some (levelNumber p.cameraLevel)
  | _ => none

/-- The profile with a value written into the field with an identifier. -/
def Profile.put (p : Profile) (v : Nat) : Nat → Profile
  | 1 => { p with pNom := v } | 2 => { p with halfWindow := v } | 3 => { p with mMin := v }
  | 4 => { p with markLevel := levelOf v } | 5 => { p with tReg := v } | 6 => { p with filterShift := v }
  | 7 => { p with stretchLimit := v } | 8 => { p with nLock := v } | 9 => { p with grace := v }
  | 10 => { p with cMax := v } | 11 => { p with sensorToCut := v } | 12 => { p with latency := v }
  | 13 => { p with qMin := v } | 14 => { p with confirmWindow := v } | 15 => { p with spliceDistance := v }
  | 16 => { p with splicePre := v } | 17 => { p with splicePost := v } | 18 => { p with reverseLimit := v }
  | 19 => { p with laneMask := BitVec.ofNat 8 v } | 20 => { p with gCam := v } | 21 => { p with gGate := v }
  | 22 => { p with gStack := v } | 23 => { p with labelLength := v } | 24 => { p with gatePre := v }
  | 25 => { p with gatePost := v } | 26 => { p with minClosed := v } | 27 => { p with settle := v }
  | 28 => { p with sigmaWarn := v } | 29 => { p with sigmaTight := v } | 30 => { p with sigmaJam := v }
  | 31 => { p with purgeTail := v } | 32 => { p with inspectionRequired := v == 0 }
  | 33 => { p with noVerdict := if v = 0 then .reject else .pass } | 34 => { p with changeGap := v }
  | 35 => { p with autoClear := v } | 36 => { p with knifePulse := v } | 37 => { p with knifeOff := v }
  | 38 => { p with pusherPulse := v } | 39 => { p with pusherOff := v } | 40 => { p with cameraPulse := v }
  | 41 => { p with knifeLevel := levelOf v } | 42 => { p with gateLevel := levelOf v }
  | 43 => { p with pusherLevel := levelOf v } | 44 => { p with cameraLevel := levelOf v }
  | _ => p

/-- The fixed range of the field with an identifier (R175). -/
def fixedRange : Nat → Option (Nat × Nat)
  | 1 => some (2000, 100000) | 2 => some (1, 25000) | 3 => some (1, 255) | 4 => some (0, 1)
  | 5 => some (0, 25000) | 6 => some (0, 7) | 7 => some (1, 64) | 8 => some (1, 15)
  | 9 => some (0, 3) | 10 => some (1, 15) | 11 => some (0, 2000000) | 12 => some (0, 5000)
  | 13 => some (500, 99999) | 14 => some (0, 8191) | 15 => some (0, 2000000) | 16 => some (0, 65535)
  | 17 => some (0, 65535) | 18 => some (0, 4095) | 19 => some (0, 255) | 20 => some (1, 1000000)
  | 21 => some (1, 1000000) | 22 => some (1, 1000000) | 23 => some (100, 100000) | 24 => some (0, 4095)
  | 25 => some (0, 4095) | 26 => some (0, 8191) | 27 => some (0, 65535) | 28 => some (0, 1000000)
  | 29 => some (0, 1000000) | 30 => some (0, 1000000) | 31 => some (0, 65535) | 32 => some (0, 1)
  | 33 => some (0, 1) | 34 => some (0, 15) | 35 => some (0, 255) | 36 => some (50, 5000)
  | 37 => some (0, 20) | 38 => some (1, 500) | 39 => some (1, 255) | 40 => some (10, 1000)
  | 41 => some (0, 1) | 42 => some (0, 1) | 43 => some (0, 1) | 44 => some (0, 1)
  | _ => none

/-- The identifier is 1..44 and the value lies in the field's fixed range (R176). -/
def inFixedRange (field value : Nat) : Bool :=
  match fixedRange field with
  | none => false
  | some (low, high) => decide (low ≤ value ∧ value ≤ high)

/-- The fields whose values are a named list of two: levels, YES and NO, REJECT and PASS (R175). -/
def namedListFields : List Nat := [4, 32, 33, 41, 42, 43, 44]

/-- The value is a number beyond the named list of the field (R194). -/
def beyondNamedList (field value : Nat) : Bool := namedListFields.contains field && decide (1 < value)

/-- The field identifiers, in order. -/
def fieldIdentifiers : List Nat := (List.range 44).map (· + 1)

/-! ## Validation (R179) -/

/-- The first field outside its fixed range (R179, check 1). -/
def firstOutOfRange (p : Profile) : Option Nat :=
  fieldIdentifiers.find? (fun i => match p.get i with
    | some v => !inFixedRange i v
    | none => true)

/-- Checks 2 to 12 of R179, each with the field it names. -/
def crossChecks (p : Profile) : List (Bool × Nat) :=
  [ (decide (p.qMin + 1 ≤ p.pNom), 13),
    (decide (p.halfWindow ≤ p.pNom / 4), 2),
    (decide (p.tReg ≤ p.halfWindow), 5),
    (decide (p.grace < p.cMax), 10),
    (decide (p.sensorToCut ≤ 15 * p.pNom), 11),
    (decide (p.qMin + 2 * p.halfWindow ≤ p.pNom * (1024 - p.stretchLimit) / 1024), 13) ] ++
  [ (decide (p.confirmWindow < p.qMin), 14),
    (decide (p.gCam + p.gatePre < p.gGate), 20),
    (decide (p.gGate + p.labelLength + p.gatePost < p.gStack), 22),
    (decide (p.sigmaJam < p.sigmaTight ∧ p.sigmaTight ≤ p.sigmaWarn), 29),
    (decide (p.gStack + p.labelLength ≤ 47 * p.sigmaTight), 22) ]

/-- The field named by the first failing check of R179, or none when the profile passes. -/
def firstFailure (p : Profile) : Option Nat :=
  match firstOutOfRange p with
  | some i => some i
  | none => ((crossChecks p).find? (fun c => !c.1)).map (·.2)

/-- The belt geometry of two profiles is the same: fields 20 to 25 (R175). -/
def sameGeometry (a b : Profile) : Bool :=
  a.gCam == b.gCam && a.gGate == b.gGate && a.gStack == b.gStack && a.labelLength == b.labelLength &&
  a.gatePre == b.gatePre && a.gatePost == b.gatePost

/-! ## Application (R183) -/

/-- P_eff at an application: reset by a change of P_nom (R31, R184), otherwise clamped to the new band (R39). -/
def applyToRepeatLength (old : Profile) (s : State) : State :=
  if s.profile.pNom ≠ old.pNom then s.setReg { s.reg with pEff := s.profile.pNom * 256, lastReal := none }
  else
    raiseIf (outsideBand s.profile s.reg.pEff) .stretchLimit
      (s.setReg { s.reg with pEff := clampToBand s.profile s.reg.pEff })

/-- A change of the mark active level discards a pending candidate uncounted (R14). -/
def applyToCandidate (old : Profile) (s : State) : State :=
  if s.profile.markLevel ≠ old.markLevel then s.setReg { s.reg with candidate := none } else s

/-- The pending profile becomes active, the commit request is removed, COMMIT_APPLIED is raised, and P_eff, the mark
candidate and the lanes act on it (R183). The test of R12 follows separately. -/
def applyCommit (s : State) : State :=
  let old := s.profile
  let s := raiseEvent .commitApplied (s.setProf { s.prof with active := s.prof.pending, commit := none })
  let s := applyToCandidate old (applyToRepeatLength old s)
  changeMasks old.laneMask s.profile.laneMask s

/-- The reverse deficit of a counter (R9). -/
def EncoderState.deficit (e : EncoderState) : Nat := (e.highWater - e.counter).toNat

/-- The reverse deficits are tested against R_rev of the active profile, the web first (R12). -/
def testDeficits (s : State) : State :=
  if s.mode.tracks then
    if s.profile.reverseLimit < s.pos.web.deficit then enterHalt .reverseWeb s
    else if s.profile.reverseLimit < s.pos.belt.deficit then enterHalt .reverseBelt s
    else s
  else s

/-- The commit that waits comes to its point with the mark event that takes repeat number n (R28, step 3). -/
def CommitRequest.dueAt (c : CommitRequest) (n : RepeatNo) : Bool :=
  match c.source with
  | .nextMark => true
  | .splice => c.spliceMark
  | .atRepeat m => m == n

def State.commitDue (s : State) (n : RepeatNo) : Bool :=
  match s.prof.commit with
  | none => false
  | some c => c.dueAt n

end Sys2Proof.Machine
end

