-- ==== Sys2Proof/Machine/MarkOps.lean ====
section
/-!
DEFINITION. The registration unit (02): the classification of a mark event by its state (R20 to R26), the six steps of
a mark event (R28), and the events that are already passed when a mark event arms them (R4).
-/

namespace Sys2Proof.Machine

/-- What step 1 of R28 fixes. -/
structure MarkEvent where
  kind : MarkKind
  position : Pos
  /-- Present only for a real mark accepted in a window (R20). -/
  error : Option Int
  next : RegState
  lock : Nat
  miss : Nat
  reg : Bool
  raised : List Event
  /-- A coasted event counts a miss (R35). -/
  missed : Bool
  deriving DecidableEq, Repr

/-! ## Classification (R20 to R26) -/

/-- The mark input is active (R14). -/
def State.markActive (s : State) : Bool := s.pins.mark == s.profile.markLevel

/-- A real mark accepted in SEARCH (R21). -/
def markInSearch (s : State) (m : Pos) : MarkEvent :=
  { kind := .real, position := m, error := none, next := .locking, lock := s.profile.nLock, miss := s.reg.miss,
    reg := true, raised := [], missed := false }

/-- The registration error lies beyond T_reg (R20). -/
def beyondTolerance (p : Profile) (e : Int) : Bool := decide ((p.tReg : Int) < |e|)

/-- A real mark accepted in the window, with error e (R23, R24, R26). In SEARCH there is no window. -/
def markInWindow (s : State) (m : Pos) (e : Int) : MarkEvent :=
  let bad := beyondTolerance s.profile e
  match s.reg.state with
  | .locking =>
    let locked := s.reg.lock - 1 == 0
    { kind := .real, position := m, error := some e, next := if locked then .locked else .locking,
      lock := s.reg.lock - 1, miss := s.reg.miss, reg := true, raised := if locked then [.regLocked] else [],
      missed := false }
  | .locked =>
    { kind := .real, position := m, error := some e, next := .locked, lock := s.reg.lock, miss := s.reg.miss,
      reg := bad, raised := if bad then [.regWarn] else [], missed := false }
  | .coasting =>
    { kind := .real, position := m, error := some e, next := .locked, lock := s.reg.lock, miss := 0,
      reg := bad, raised := if bad then [.regWarn] else [], missed := false }
  | .search => markInSearch s m

/-- A coasted event of LOCKED or COASTING at which the miss count becomes `miss` (R23 to R26). -/
def coast (s : State) (e : Pos) (miss : Nat) : MarkEvent :=
  if s.profile.cMax ≤ miss then
    { kind := .coasted, position := e, error := none, next := .search, lock := 0, miss := 0, reg := true,
      raised := [.markLost, .regWarn], missed := true }
  else
    let bad := decide (s.profile.grace < miss)
    { kind := .coasted, position := e, error := none, next := .coasting, lock := s.reg.lock, miss := miss,
      reg := bad, raised := if bad then [.regWarn] else [], missed := true }

/-- A window expiry that takes effect (R23, R24, R25). In SEARCH there is no window. -/
def expiryEvent (s : State) (e : Pos) : MarkEvent :=
  match s.reg.state with
  | .locked => coast s e 1
  | .coasting => coast s e (s.reg.miss + 1)
  | .locking | .search =>
    { kind := .coasted, position := e, error := none, next := .search, lock := 0, miss := 0, reg := true,
      raised := [], missed := true }

/-- A virtual mark event (R22). -/
def virtualEvent (s : State) (target : Pos) : MarkEvent :=
  { kind := .virtual, position := target, error := none, next := .search, lock := s.reg.lock, miss := s.reg.miss,
    reg := true, raised := [], missed := false }

/-! ## The six steps (R28) -/

/-- Steps 1 and 2: the state the classification gives, the repeat number taken; window and virtual target are
withdrawn until step 5. The events of step 1 are raised here, before the record of step 6 reaches the cut scheduler
(Log 33). The window counter keeps the value it has when the mark is accepted (R17; Log 26). -/
def classifyAndNumber (m : MarkEvent) (s : State) : State :=
  let s := raiseEvents m.raised s
  let s := if m.missed then s.setCnt { s.cnt with misses := satInc s.cnt.misses } else s
  s.setReg { s.reg with
    state := m.next, lock := m.lock, miss := m.miss, lastError := m.error, window := none, virtualTarget := none,
    number := s.reg.number + 1, newest := some s.reg.number }

/-- Step 3: a commit that changes P_nom sends the unit to SEARCH (R31). -/
def commitAtMark (s : State) : State :=
  let old := s.profile
  let s := applyCommit s
  if s.profile.pNom ≠ old.pNom then s.setReg { s.reg with state := .search, lock := 0, miss := 0 } else s

/-- Step 4: P_eff is filtered and clamped, for a real mark accepted in a window after a real mark (R29, R36, R38). -/
def filterStage (m : MarkEvent) (s : State) : State :=
  match m.error, s.reg.lastReal with
  | some _, some last =>
    let x := filtered s.reg.pEff m.position last s.profile.filterShift
    raiseIf (outsideBand s.profile x) .stretchLimit (s.setReg { s.reg with pEff := clampToBand s.profile x })
  | _, _ => s

/-- The window armed about an expected position (R16). -/
def windowAbout (web : Pos) (expected : Pos) (h : Nat) : MarkWindow :=
  { status := .armed, expected := expected, opening := PosEvent.arm web (expected - dist h),
    expiry := PosEvent.arm web (expected + dist h) }

/-- Step 5: the next window, or in SEARCH the virtual target (R16, R22, R25, R40). -/
def armNext (m : Pos) (s : State) : State :=
  match s.reg.state with
  | .search =>
    s.setReg { s.reg with window := none, virtualTarget := some (PosEvent.arm s.web (m + dist s.profile.pNom)) }
  | .locking | .locked | .coasting =>
    s.setReg { s.reg with
      virtualTarget := none, window := some (windowAbout s.web (expectedMark m s.reg.pEff) s.profile.halfWindow) }

/-- The unit's own part of step 6: last mark event and last real mark (R28, R29). -/
def recordMark (m : MarkEvent) (n : RepeatNo) (s : State) : State :=
  s.setReg { s.reg with
    lastEvent := some ⟨m.kind, m.position, n⟩,
    lastReal := match m.kind with
      | .real => some m.position
      | .virtual | .coasted => none }

/-- A mark event, in its six steps (R28). A HALT that a commit's R_rev asks for is entered after them (R12; Log 10). -/
def takeMark (m : MarkEvent) (s : State) : State :=
  let n := s.reg.number
  let due := s.commitDue n
  let pNom := s.profile.pNom
  let s := classifyAndNumber m s
  let s := if due then commitAtMark s else s
  let reg := m.reg || s.profile.pNom != pNom
  let s := recordMark m n (armNext m.position (filterStage m s))
  let s := receiveMark ⟨n, m.kind, m.position, m.error, reg⟩ s
  if due then testDeficits s else s

/-! ## Window events -/

/-- The window opens, its counter loaded with 2H (R16, R17). -/
def openWindow (w : MarkWindow) (s : State) : State :=
  s.setReg { s.reg with
    window := some { w with status := .opened }, windowCounter := w.expiry.target - w.opening.target }

/-- A position lies within the bounds of a window (R18). -/
def MarkWindow.within (w : MarkWindow) (p : Pos) : Bool :=
  atOrBeyond p w.opening.target && atOrBeyond w.expiry.target p

/-- The candidate, if any, lies within the bounds (R19). -/
def MarkWindow.holdsFor (w : MarkWindow) : Option Candidate → Bool
  | none => false
  | some c => w.within c.position

/-- A window expiry takes effect: a coasted mark event at E (R19). -/
def expireNow (w : MarkWindow) (s : State) : State :=
  takeMark (expiryEvent s w.expected) (s.setReg { s.reg with windowCounter := 0 })

/-- The window is HELD, its expiry deferred (R19, R17). -/
def holdWindow (w : MarkWindow) (s : State) : State :=
  s.setReg { s.reg with
    window := some { w with status := .held, expiry := { w.expiry with reached := false } }, windowCounter := 0 }

/-- The expiry position of an OPEN window is taken: the window is HELD for a candidate within its bounds, or the
expiry takes effect (R19, R17). -/
def takeExpiry (w : MarkWindow) (s : State) : State :=
  if w.holdsFor s.reg.candidate then holdWindow w s else expireNow w s

/-- The virtual mark target is taken (R22). -/
def takeVirtual (e : PosEvent) (s : State) : State := takeMark (virtualEvent s e.target) s

/-- The next event of the registration unit that has been reached: virtual target, window opening, window expiry. -/
def nextReached (s : State) : Option (State → State) :=
  match s.reg.virtualTarget, s.reg.window with
  | some e, _ => if e.reached then some (takeVirtual e) else none
  | none, some w =>
    match w.status with
    | .armed => if w.opening.reached then some (openWindow w) else none
    | .opened => if w.expiry.reached then some (takeExpiry w) else none
    | .held => none
  | none, none => none

/-- Events that a mark event armed with their positions already passed are taken within the same step (R4; Log 15). -/
def takePassed : Nat → State → State
  | 0, s => s
  | k + 1, s =>
    if s.mode.takesMarks then match nextReached s with
      | some take => takePassed k (take s)
      | none => s
    else s

/-- What a row that can make a mark event does after it. -/
def afterMark (s : State) : State := takePassed Config.passedEventLimit s

end Sys2Proof.Machine
end

