-- ==== Sys2Proof/Machine/Responses.lean ====
section
/-!
DEFINITION. What the link units answer: the response slot (R193), the status pages (R197), the counter groups (R199),
and the words of a response (R193, R194, R197; 11, Layouts).
-/

namespace Sys2Proof.Machine

/-! ## The response slot (R193) -/

/-- A frame is taken or answered: its response takes the place of the contents of the link's response slot, and no
frame is under way (R192, R193). -/
def State.answer (s : State) (k : StationLink) (r : Response) : State :=
  s.setLink k { s.link k with phase := .idle, slot := r }

/-- The response of a request (R193). -/
def State.reply (s : State) (k : StationLink) (q : Request) (res : Result) (p : Payload) : State :=
  s.answer k ⟨q.code, res, p⟩

/-- A refusal, without payload (Log 13). -/
def State.refuse (s : State) (k : StationLink) (q : Request) (res : Result) : State := s.reply k q res .none

/-- A device reset has discarded the link's frame, and select has not been asserted since: no frame is taken (R192). -/
def State.discards (s : State) (k : StationLink) : Bool := (s.link k).phase == .discarded

/-- A request is taken by its owning block when it is in the link's set of rights, and answered DENIED otherwise
(R192, R194). A discarded frame is not taken (R192). -/
def taken (k : StationLink) (q : Request) (s : State) (body : State) : Answer :=
  .next (if s.discards k then s else if q.allowedOn k then body else s.refuse k q .denied)

/-! ## Status (R197) -/

/-- The whole device status at one instant. -/
def State.statusImage (s : State) : StatusImage :=
  { pos := s.pos, reg := s.reg, cut := s.cut, map := s.map, lanes := s.lanes, log := s.log, act := s.act,
    prof := s.prof, pins := s.pins }

def StatusImage.overview (i : StatusImage) : StatusPage :=
  .overview i.prof.mode i.pins.stop i.prof.commit (i.prof.pending != i.prof.active)

def StatusImage.positions (i : StatusImage) : StatusPage :=
  .positions i.pos.web.counter i.pos.belt.counter i.pos.web.speed i.pos.belt.speed i.pos.web.highWater
    i.pos.belt.highWater

def StatusImage.registration (i : StatusImage) : StatusPage :=
  .registration i.reg.state i.reg.lock i.reg.miss
    (i.reg.window.map (fun w => (w.status, w.expected, w.opening.target, w.expiry.target))) i.reg.windowCounter

def StatusImage.arithmetic (i : StatusImage) : StatusPage :=
  .arithmetic i.reg.pEff (bandLow i.prof.active) (bandHigh i.prof.active) (i.cut.latest.map (·.kEff))
    (i.cut.latest.map (·.lead))

def StatusImage.cuts (i : StatusImage) : StatusPage :=
  .cuts i.cut.schedule.length i.cut.queue.length (i.cut.schedule.head?.map (fun c => (c.repeatNo, c.fire)))
    (i.cut.confirm.map (fun w => (w.repeatNo, w.expiry.target))) i.cut.overrunCarry i.cut.strikeCarry i.cut.range

def StatusImage.splices (i : StatusImage) : StatusPage := .splices i.cut.splices.length (i.cut.splices.take 2)

def StatusImage.transit (i : StatusImage) : StatusPage :=
  .transit i.map.records.length (i.map.records.head?.map (·.repeatNo)) (i.map.records.getLast?.map (·.repeatNo))
    (i.map.lastStamp.map (·.value)) (i.map.purge.map (·.target)) i.map.normalRun i.map.notices.length

/-- The number of slots in a state (R161). -/
def StatusImage.slotsIn (i : StatusImage) (st : StackState) : Nat := (i.log.slots.toList.filter (Slot.isIn st)).length

def StatusImage.stackLog (i : StatusImage) : StatusPage :=
  .stackLog (i.log.slots.toList.filter (· == Slot.free)).length (i.slotsIn .forming) (i.slotsIn .closed)
    (i.slotsIn .ready) i.log.ready.length
    (match i.log.ready with
      | [] => none
      | j :: _ => (i.log.slots[j].record?).map (fun r => (j, r.lane, r.seq)))

def StatusImage.knife (i : StatusImage) : DriveReport :=
  { drive := i.act.knife.drive, pendingPulse := false, diag := i.act.diagState .knife,
    driven := i.act.driven i.prof.mode .knife }

def StatusImage.pusher (i : StatusImage) (l : Lane) : DriveReport :=
  { drive := i.act.pushers[l].drive, pendingPulse := i.act.pushers[l].pendingPulse,
    diag := i.act.diagState (.pusher l), driven := i.act.driven i.prof.mode (.pusher l) }

def StatusImage.gate (i : StatusImage) (l : Lane) : GateReport :=
  { holdEnd := i.act.gates[l].hold.map (·.target), diag := i.act.diagState (.gate l),
    driven := i.act.driven i.prof.mode (.gate l) }

def StatusImage.drives (i : StatusImage) : StatusPage :=
  .drives i.knife (allLanes.map i.pusher) i.act.camera.isSome i.act.enabled

/-- The open stack of a lane while its slot is FORMING: sequence, count and target (R147). -/
def StatusImage.openStack (i : StatusImage) (u : LaneUnit) : Option (OpenStack × Seq × Nat × Nat) :=
  match u.openStack with
  | none => none
  | some o => match i.log.slots[o.slot] with
    | .held .forming r => some (o, r.seq, r.count, r.target)
    | .held .closed _ | .held .ready _ | .free => none

/-- Pages 11 to 18 (R147). The open stack is reported with its stack stamp, which R147 does not list (Log 28). -/
def StatusImage.laneWork (i : StatusImage) (l : Lane) : StatusPage :=
  .laneWork i.lanes[l].state i.lanes[l].gap i.lanes[l].orders.length
    (i.lanes[l].orders.head?.map (fun o => (o.tag, o.job, o.target))) (i.openStack i.lanes[l]) i.lanes[l].nextSeq

def StatusImage.laneEjects (i : StatusImage) (l : Lane) : StatusPage :=
  .laneEjects i.lanes[l].ejects.length
    (i.lanes[l].ejects.head?.map (fun e => (e.slot, e.seq, e.position.target, e.due)))
    (i.lanes[l].quarantine.map (fun q => (q.seq, q.count, q.shouldReject, q.first, q.last)))
    (i.lanes[l].rejectEnd.map (·.value))

def StatusImage.lastMark (i : StatusImage) : StatusPage :=
  .lastMark i.reg.lastEvent i.reg.lastError i.reg.pEff i.reg.newest (i.reg.virtualTarget.map (·.target))

def StatusImage.placement (i : StatusImage) : StatusPage :=
  .placement (i.cut.latest.map (·.fire)) i.cut.lastFire i.cut.orderingReference

def StatusImage.moreSplices (i : StatusImage) : StatusPage := .moreSplices ((i.cut.splices.drop 2).take 2)

/-- The pages of the page table (R197); none above 29. -/
def statusPage (i : StatusImage) (n : Nat) : Option StatusPage :=
  if n = 0 then some i.overview
  else if n = 1 then some i.positions
  else if n = 2 then some i.registration
  else if n = 3 then some i.arithmetic
  else if n = 4 then some i.cuts
  else if n = 5 then some i.splices
  else if n = 6 then some i.transit
  else if n = 7 then some i.stackLog
  else if n = 8 then some i.drives
  else if n = 9 then some (.gates ([0, 1, 2, 3].map i.gate))
  else if n = 10 then some (.gates ([4, 5, 6, 7].map i.gate))
  else if n ≤ 18 then (laneOf (n - 10)).map i.laneWork
  else if n ≤ 26 then (laneOf (n - 18)).map i.laneEjects
  else if n = 27 then some i.lastMark
  else if n = 28 then some i.placement
  else if n = 29 then some i.moreSplices
  else none

/-! ## Counter groups (R199) -/

/-- The eight fault counts, in the order of the table of R199. -/
def Counters.faults (c : Counters) : List (BitVec 16) :=
  [c.strayMarks, c.shortMarks, c.misses, c.strayConfirms] ++
  [c.lateVerdicts, c.noticeOverflows, c.webSkips, c.beltSkips]

/-- Labels cut, stacked, rejected, quarantined, lost. -/
def LaneCounts.production (c : LaneCounts) : List (BitVec 32) :=
  [c.cut, c.stacked, c.rejected, c.quarantined, c.lost]

/-- Five of the fifteen causes, from the cause with number `from_`. -/
def LaneCounts.fiveCauses (c : LaneCounts) (from_ : Nat) : List (BitVec 32) := (c.causes.toList.drop from_).take 5

/-- The contents of a counter group, none above 32 (R199). -/
def Counters.group (c : Counters) (n : Nat) : Option Payload :=
  if n = 0 then some (.faultCounts c.faults)
  else if n ≤ 8 then (laneOf n).map (fun l => .laneCounts c.lanes[l].production)
  else if n ≤ 16 then (laneOf (n - 8)).map (fun l => .laneCounts (c.lanes[l].fiveCauses 0))
  else if n ≤ 24 then (laneOf (n - 16)).map (fun l => .laneCounts (c.lanes[l].fiveCauses 5))
  else if n ≤ 32 then (laneOf (n - 24)).map (fun l => .laneCounts (c.lanes[l].fiveCauses 10))
  else none

/-! ## Words (R194 and the layouts of 11) -/

def high (v : BitVec 32) : Word16 := v.extractLsb' 16 16
def low (v : BitVec 32) : Word16 := v.extractLsb' 0 16

/-- A 32-bit quantity, the more significant word first (R194). -/
def words32 (v : BitVec 32) : List Word16 := [high v, low v]

def bit (b : Bool) : Nat := if b then 1 else 0

def word (n : Nat) : Word16 := BitVec.ofNat 16 n

def stackStateNumber : StackState → Nat
  | .forming => 1
  | .closed => 2
  | .ready => 3

def closingNumber : Option ClosingKind → Nat
  | none => 0
  | some .target => 1
  | some .shortCancel => 2
  | some .shortClose => 3
  | some .shortLaneRemoved => 4
  | some .quarantine => 5
  | some .aborted => 6

/-- The thirteen words of a stack record (11, Layouts). -/
def stackRecordWords (i : SlotIndex) (x : Slot) (eject : Option (Pos × Bool)) (entries : Nat) : List Word16 :=
  match x with
  | .free => word i.val :: (List.replicate 11 0 ++ [word entries])
  | .held st r =>
    let due := match eject with
      | some (_, d) => d
      | none => false
    let place := match eject with
      | some (p, _) => p
      | none => 0
    [ word (i.val + 32 * stackStateNumber st + 128 * (r.lane.val + 1) + 2048 * closingNumber r.closing
        + 16384 * bit r.first.isSome + 32768 * bit due),
      word (r.tag.toNat + 256 * bit r.dry + 512 * bit r.suspect + 1024 * bit r.ejectFault + 2048 * bit r.notEjected),
      r.job, r.seq, word r.target, word r.count ] ++
    [ r.first.getD 0, r.last.getD 0, r.rejectsInSpan, r.shouldReject, high place, low place, word entries ]

def kindNumber : MarkKind → Nat
  | .real => 0
  | .virtual => 1
  | .coasted => 2

def spacingNumber : Spacing → Nat
  | .normal => 0
  | .near => 1
  | .tight => 2
  | .jammed => 3

def verdictNumber : VerdictState → Nat
  | .awaited => 0
  | .received => 1
  | .notRequired => 2

/-- A registration error in one word; 8000h when absent. -/
def errorWord : Option Int → Word16
  | none => 0x8000
  | some e => BitVec.ofInt 16 e

/-- Part 0 of a record in the map (11, Layouts). -/
def RepeatRecord.identityWords (r : RepeatRecord) : List Word16 :=
  [ r.repeatNo,
    word (4 * kindNumber r.kind + 16 * bit r.postponed + 32 * bit r.late + 64 * bit r.uncutCarry
      + 128 * bit r.confirmed + 256 * bit r.dry + 512 * bit r.purge + 1024 * bit r.cameraTaken
      + 2048 * bit r.decisionTaken + 4096 * spacingNumber r.spacingClass),
    errorWord r.regError ] ++ words32 r.fire ++ words32 r.stamp ++
  [ word (r.laneSet.toNat + 256 * r.lineLanes.toNat),
    word (bit r.reg + 2 * bit r.uncut + 4 * bit r.splice + 8 * bit r.spacing + 16 * bit (r.lineLanes != 0)
      + 32 * bit r.inspection + 64 * verdictNumber r.verdict + 256 * r.defectClass.getD 0
      + 4096 * bit r.defectClass.isSome),
    word r.vision.toNat ]

/-- Part 0 of a pending cut. The fields that a cut does not have read as 0 (Log 13). -/
def Cut.identityWords (c : Cut) (queued : Bool) : List Word16 :=
  [ c.repeatNo,
    word ((if queued then 2 else 1) + 4 * kindNumber c.kind + 16 * bit c.postponed + 32 * bit c.late
      + 64 * bit c.uncutCarry),
    errorWord c.regError ] ++ words32 c.fire ++ words32 0 ++
  [ word (256 * c.lineLanes.toNat),
    word (bit c.reg + 2 * bit c.uncutCarry + 4 * bit c.splice + 16 * bit (c.lineLanes != 0)),
    0 ]

/-- Part 1: camera position, 0 when not armed; decision position; exit position. A camera position whose event has been
taken is still reported: 0 is for a record that R73 never armed one for (Log 32). -/
def RepeatRecord.positionWords (r : RepeatRecord) : List Word16 :=
  words32 (match r.camera with
    | some e => e.target
    | none => 0) ++ words32 r.decision.target ++ words32 r.exit.target

/-- The two words of one lane of parts 2 and 3. -/
def RepeatRecord.laneWords (r : RepeatRecord) (l : Lane) : List Word16 :=
  if LaneSet.has r.laneSet l then match r.dispositions[l] with
    | .undecided => [word 8192, 0]
    | .stacked seq => [word (16384 + 8192), seq]
    | .rejected c => [word (32768 + 8192 + c.index.val), 0]
    | .quarantined => [word (49152 + 8192), 0]
  else [0, 0]

/-- The words of a part of a repeat copy. -/
def RepeatCopy.words (c : RepeatCopy) (part : Nat) : List Word16 :=
  match c with
  | .cut c queued => if part = 0 then c.identityWords queued else []
  | .record r =>
    if part = 0 then r.identityWords
    else if part = 1 then r.positionWords
    else if part = 2 then ([0, 1, 2, 3] : List Lane).flatMap r.laneWords
    else ([4, 5, 6, 7] : List Lane).flatMap r.laneWords

/-! ## Words of the payloads whose layout the manual does not give

The values in the order in which the rule of each lists them, by R194; marks of one bit together in one word at the end
of a page, the first of them in bit 0; an absent value 0 with its mark clear (Log 13). -/

/-- Marks of one bit, the first in bit 0. -/
def markWord : List Bool → Nat
  | [] => 0
  | b :: bs => bit b + 2 * markWord bs

/-- A position that may be absent. -/
def posWords (p : Option Pos) : List Word16 := words32 (p.getD 0)

def intWord (i : Int) : Word16 := BitVec.ofInt 16 i

def linkNumber : StationLink → Nat
  | .line => 0
  | .inspection => 1
  | .delivery => 2

/-- The mode (10, Operating modes): its number, whether a DRAINING is a dry drain, the number of its halt cause. R191 gives
no numbers: the causes of R187 in their order, and a HALT_REQUEST by its link, 4 line, 5 inspection, 6 delivery (Log 13). -/
def modeNumbers : Mode → Nat × Bool × Option Nat
  | .setup => (0, false, none)
  | .run => (1, false, none)
  | .dry => (2, false, none)
  | .draining isDry => (3, isDry, none)
  | .halt .reverseWeb => (4, false, some 0)
  | .halt .reverseBelt => (4, false, some 1)
  | .halt .knifeFault => (4, false, some 2)
  | .halt .stopInput => (4, false, some 3)
  | .halt (.haltRequest k) => (4, false, some (4 + linkNumber k))

/-- The number of a waiting commit's source (R194), and the n of AT_REPEAT. -/
def commitWords : Option CommitRequest → List Word16
  | none => [0, 0]
  | some ⟨.nextMark, _⟩ => [1, 0]
  | some ⟨.splice, _⟩ => [2, 0]
  | some ⟨.atRepeat n, _⟩ => [3, n]

def regStateNumber : RegState → Nat
  | .search => 0
  | .locking => 1
  | .locked => 2
  | .coasting => 3

def windowNumber : WindowStatus → Nat
  | .armed => 1
  | .opened => 2
  | .held => 3

/-- Window status (0 is NONE), E, opening and expiry. -/
def windowWords : Option (WindowStatus × Pos × Pos × Pos) → List Word16
  | none => 0 :: (words32 0 ++ words32 0 ++ words32 0)
  | some (st, e, o, x) => word (windowNumber st) :: (words32 e ++ words32 o ++ words32 x)

/-- A repeat number and a position. -/
def placeWords (x : Option (RepeatNo × Pos)) : List Word16 :=
  (x.map (·.1)).getD 0 :: posWords (x.map (·.2))

/-- Start and end of a zone, 0 where the list has none. -/
def zoneWords (z : Option Zone) : List Word16 := posWords (z.map (·.start)) ++ posWords (z.map (·.stop))

def driveNumber : Drive → Nat
  | .free => 0
  | .pulse _ => 1
  | .offTime _ => 2
  | .latched => 3

/-- In the order of the table of R169. -/
def diagNumber : DiagState → Nat
  | .overload => 0
  | .opened => 1
  | .disabled => 2
  | .ok => 3

/-- Drive state in bits 1..0, pending pulse mark in bit 2, diagnostic state in bits 4..3, driven active in bit 5. -/
def DriveReport.word (r : DriveReport) : Word16 :=
  Machine.word (driveNumber r.drive + 4 * bit r.pendingPulse + 8 * diagNumber r.diag + 32 * bit r.driven)

/-- Hold end; then diagnostic state in bits 1..0, driven active in bit 2, hold present in bit 3. -/
def GateReport.words (r : GateReport) : List Word16 :=
  posWords r.holdEnd ++ [word (diagNumber r.diag + 4 * bit r.driven + 8 * bit r.holdEnd.isSome)]

/-- In the order of the table of R119. -/
def laneStateNumber : LaneState → Nat
  | .off => 0
  | .idle => 1
  | .held => 2
  | .blocked => 3
  | .stacking => 4
  | .changing => 5
  | .fault => 6

/-- Tag, job id, target. -/
def orderWords (o : Option (BitVec 8 × BitVec 16 × Nat)) : List Word16 :=
  match o with
  | none => [0, 0, 0]
  | some (tag, job, target) => [word tag.toNat, job, word target]

/-- Slot, stack sequence, count, target. -/
def openStackWords (o : Option (OpenStack × Seq × Nat × Nat)) : List Word16 :=
  match o with
  | none => [0, 0, 0, 0]
  | some (x, seq, count, target) => [word x.slot.val, seq, word count, word target]

/-- Slot, stack sequence, eject position. -/
def ejectWords (e : Option (SlotIndex × Seq × Pos × Bool)) : List Word16 :=
  match e with
  | none => [0, 0, 0, 0]
  | some (i, seq, p, _) => [word i.val, seq] ++ words32 p

/-- Stack sequence, count, should-reject count, first and last repeat. -/
def quarantineWords (q : Option (Seq × Nat × BitVec 16 × Option RepeatNo × Option RepeatNo)) : List Word16 :=
  match q with
  | none => [0, 0, 0, 0, 0]
  | some (seq, count, should, first, last) => [seq, word count, should, first.getD 0, last.getD 0]

/-- Kind, position and repeat number of the last mark event. -/
def lastMarkWords (e : Option LastMark) : List Word16 :=
  match e with
  | none => [0, 0, 0, 0]
  | some m => word (kindNumber m.kind) :: words32 m.position ++ [m.repeatNo]

/-- The payload words of a page after the snapshot number (R197; Log 13). The mark of the STOP input on page 0 is 1 when STOP
is active, its pin low; an absent last registration error on page 27 is 8000h, as in READ_REPEAT, and has no mark. -/
def StatusPage.words : StatusPage → List Word16
  | .overview mode stop commit differs =>
    let m := modeNumbers mode
    [word m.1, word (m.2.2.getD 0)] ++ commitWords commit ++
    [word (markWord [m.2.1, m.2.2.isSome, stop, commit.isSome, commit.any (·.spliceMark), differs])]
  | .positions web belt webSpeed beltSpeed webHigh beltHigh =>
    words32 web ++ words32 belt ++ [intWord webSpeed, intWord beltSpeed] ++ words32 webHigh ++ words32 beltHigh
  | .registration state lock miss window windowCounter =>
    [word (regStateNumber state), word lock, word miss] ++ windowWords window ++ words32 windowCounter
  | .arithmetic pEff low high kEff lead =>
    words32 (.ofNat 32 pEff) ++ words32 (.ofNat 32 low) ++ words32 (.ofNat 32 high) ++
    words32 (.ofNat 32 (kEff.getD 0)) ++ [word (lead.getD 0), word (markWord [kEff.isSome, lead.isSome])]
  | .cuts scheduled queued head confirm overrunCarry strikeCarry range =>
    [word scheduled, word queued] ++ placeWords head ++ placeWords confirm ++
    [range.first, word range.remaining, word range.mask.toNat,
      word (markWord [head.isSome, confirm.isSome, overrunCarry, strikeCarry])]
  | .splices number zones => word number :: (zoneWords zones[0]? ++ zoneWords zones[1]?)
  | .transit records oldest newest lastStamp purgeEnd normalRun notices =>
    [word records, oldest.getD 0, newest.getD 0] ++ posWords lastStamp ++ posWords purgeEnd ++
    [normalRun, word notices, word (markWord [oldest.isSome, newest.isSome, lastStamp.isSome, purgeEnd.isSome])]
  | .stackLog free forming closed ready entries oldest =>
    [word free, word forming, word closed, word ready, word entries] ++
    (match oldest with
      | none => [0, 0, 0, 0]
      | some (i, l, seq) => [word i.val, word (l.val + 1), seq, 1])
  | .drives knife pushers cameraRunning enabled =>
    knife.word :: pushers.map DriveReport.word ++
    [word (bit cameraRunning), word (bit enabled.knife), word enabled.gates.toNat, word enabled.pushers.toNat]
  | .gates reports => reports.flatMap GateReport.words
  | .laneWork state gap orders oldest openStack nextSeq =>
    [word (laneStateNumber state), word gap, word orders] ++ orderWords oldest ++ openStackWords openStack ++
    nextSeq :: posWords (openStack.bind (fun o => o.1.stamp)) ++
    [word (markWord [oldest.isSome, openStack.isSome, openStack.any (·.1.nogap), openStack.any (·.1.final),
      openStack.any (·.1.stamp.isSome)])]
  | .laneEjects number head quarantine rejectEnd =>
    word number :: ejectWords head ++ quarantineWords quarantine ++ posWords rejectEnd ++
    [word (markWord [head.isSome, head.any (·.2.2.2), quarantine.isSome,
      quarantine.any (·.2.2.2.1.isSome), rejectEnd.isSome])]
  | .lastMark event error pEff newest virtualTarget =>
    lastMarkWords event ++ [errorWord error] ++ words32 (.ofNat 32 pEff) ++ newest.getD 0 :: posWords virtualTarget ++
    [word (markWord [event.isSome, newest.isSome, virtualTarget.isSome])]
  | .placement fire lastFire orderingReference =>
    posWords fire ++ posWords lastFire ++ posWords orderingReference ++
    [word (markWord [fire.isSome, lastFire.isSome, orderingReference.isSome])]
  | .moreSplices zones => zoneWords zones[0]? ++ zoneWords zones[1]?

/-- The words of a payload: the layouts of 11 where they give them, and otherwise the values in the order of the rule,
by R194 (Log 13). A status page begins with its snapshot number (R197). The level of ATTN is one word, 1 for high; a
notice is its repeat number, its lane set and the number that remain; a yes-or-no answer is 1 or 0. -/
def Payload.words : Payload → List Word16
  | .none => []
  | .events flags mask attn => words32 flags ++ words32 mask ++ [word (bit attn)]
  | .eventSet m => words32 m
  | .status snapshot page => snapshot :: page.words
  | .repeatPart part copy => copy.words part
  | .stackRecord i x eject entries => stackRecordWords i x eject entries
  | .number n => [word n]
  | .fieldWritten field value => word field :: words32 (.ofNat 32 value)
  | .fieldValue value => words32 (.ofNat 32 value)
  | .fieldNamed n => [word n]
  | .commitAccepted applied => [word (bit applied)]
  | .trackReset lost slots knifeLatched => [word lost, word slots, word (bit knifeLatched)]
  | .stackCancelled slot seq closed => [word slot.val, seq, word (bit closed)]
  | .orderCancelled o => orderWords (some (o.tag, o.job, o.target)) ++ [word (markWord [o.nogap, o.final])]
  | .stackNamed slot seq => [word slot.val, seq]
  | .lineRejected a f l => [word a, word f, word l]
  | .faultCounts cs => cs
  | .laneCounts cs => cs.flatMap words32
  | .labelsCut cs => cs.map word
  | .verdict applied decided state =>
    [word (applied.toNat + 256 * decided.toNat), word ((state.map verdictNumber).getD 0)]
  | .notice n remaining => [n.repeatNo, word n.lanes.toNat, word remaining]

/-- The response header (11, Layouts). -/
def responseHeader (code : BitVec 8) (res : Result) (len : Nat) : Word16 :=
  code ++ (res.code ++ BitVec.ofNat 4 len)

/-- The words of a response: its header and its payload (R193). -/
def Response.words (r : Response) : List Word16 :=
  responseHeader r.code r.result r.payload.words.length :: r.payload.words

/-- The words shifted out in a frame that clocks n words: those of the output, then 0000h (R193). Before the first
assertion of select no output is fixed (Log 14). -/
def LinkUnit.shiftedOut (u : LinkUnit) (n : Nat) : Option (List Word16) :=
  u.output.map (fun r => (r.words ++ List.replicate n 0).take n)

end Sys2Proof.Machine
end

