-- ==== Sys2Proof/Machine/Common.lean ====
section
/-!
DEFINITION. The assertion of select and the requests that every link may send (11): SELECT_ASSERT, NOP, READ_STATUS,
READ_EVENTS, ACK_EVENTS, SET_EVENT_MASK, READ_REPEAT, READ_RECORD, HALT_REQUEST.
-/

namespace Sys2Proof.Machine

/-- SELECT_ASSERT (R193): a frame begins, and the contents of the slot are fixed as its output. -/
def execSelectAssert (k : StationLink) (s : State) : Answer :=
  .next (s.setLink k { s.link k with phase := .shifting, output := some (s.link k).slot })

/-- NOP (R193). -/
def execNop (k : StationLink) (s : State) : Answer := taken k .nop s (s.reply k .nop .ok .none)

/-! ## READ_STATUS (R197) -/

/-- A new snapshot on a link (R197, page 0). -/
def takeSnapshot (k : StationLink) (s : State) : State :=
  s.setLink k { s.link k with snapshot := some s.statusImage, snapshotNo := (s.link k).snapshotNo + 1 }

/-- A page of the snapshot a link holds, in a response. -/
def pageReply (k : StationLink) (page : Nat) (s : State) : State :=
  match (s.link k).snapshot with
  | none => s.refuse k .readStatus .state
  | some image =>
    match statusPage image page with
    | none => s.refuse k .readStatus .range
    | some p => s.reply k .readStatus .ok (.status (s.link k).snapshotNo p)

/-- The request READ_STATUS (R197). -/
def readStatus (k : StationLink) (page : Nat) (s : State) : State :=
  if 29 < page then s.refuse k .readStatus .range
  else if page = 0 then pageReply k 0 (takeSnapshot k s)
  else pageReply k page s

/-- READ_STATUS (R197). -/
def execReadStatus (k : StationLink) (page : Nat) (s : State) : Answer := taken k .readStatus s (readStatus k page s)

/-! ## Events (R196) -/

/-- READ_EVENTS (R196). -/
def execReadEvents (k : StationLink) (s : State) : Answer :=
  taken k .readEvents s
    (s.reply k .readEvents .ok (.events (s.link k).flags (s.link k).mask (s.link k).attn))

/-- ACK_EVENTS (R196). -/
def execAckEvents (k : StationLink) (m : EventSet) (s : State) : Answer :=
  let t := acknowledge k m s
  taken k .ackEvents s (t.reply k .ackEvents .ok (.eventSet (t.link k).flags))

/-- The mask of a link (R196). -/
def setMask (k : StationLink) (m : EventSet) (s : State) : State :=
  s.setLink k { s.link k with mask := m &&& carriedEvents k }

/-- SET_EVENT_MASK (R196). -/
def execSetEventMask (k : StationLink) (m : EventSet) (s : State) : Answer :=
  let t := setMask k m s
  taken k .setEventMask s (t.reply k .setEventMask .ok (.eventSet (t.link k).mask))

/-! ## READ_REPEAT (R198) -/

/-- The copy of a repeat number, by its holder (R198, part 0). -/
def State.copyOf (s : State) (n : RepeatNo) : Option RepeatCopy :=
  match s.record n with
  | some r => some (.record r)
  | none =>
    match s.cut.schedule.find? (fun c => c.repeatNo == n) with
    | some c => some (.cut c false)
    | none => (s.cut.queue.find? (fun c => c.repeatNo == n)).map (fun c => .cut c true)

def State.setCopy (s : State) (k : StationLink) (c : Option RepeatCopy) : State :=
  s.setLink k { s.link k with copy := c }

/-- Part 0: the link makes its copy (R198). -/
def readIdentity (k : StationLink) (n : RepeatNo) (s : State) : State :=
  match s.copyOf n with
  | none => (s.setCopy k none).refuse k .readRepeat .unknown
  | some c => (s.setCopy k (some c)).reply k .readRepeat .ok (.repeatPart 0 c)

/-- The repeat number of a copy. -/
def RepeatCopy.number : RepeatCopy → RepeatNo
  | .record r => r.repeatNo
  | .cut c _ => c.repeatNo

/-- Parts 1 to 3, from the copy held (R198). -/
def readPart (k : StationLink) (n : RepeatNo) (part : Nat) (s : State) : State :=
  match (s.link k).copy with
  | none => s.refuse k .readRepeat .state
  | some c =>
    if c.number = n then match c with
      | .record _ => s.reply k .readRepeat .ok (.repeatPart part c)
      | .cut _ _ => s.refuse k .readRepeat .empty
    else s.refuse k .readRepeat .state

/-- The request READ_REPEAT (R198, R91). -/
def readRepeat (k : StationLink) (n : RepeatNo) (part : Nat) (s : State) : State :=
  if 3 < part then s.refuse k .readRepeat .range
  else if part = 0 then readIdentity k n s
  else readPart k n part s

/-- READ_REPEAT (R198). -/
def execReadRepeat (k : StationLink) (n : RepeatNo) (part : Nat) (s : State) : Answer :=
  taken k .readRepeat s (readRepeat k n part s)

/-! ## READ_RECORD (R155) -/

/-- The eject position and due mark that a lane holds for a slot (R155). -/
def LaneUnit.ejectOf (u : LaneUnit) (i : SlotIndex) : Option (Pos × Bool) :=
  (u.ejects.find? (fun e => e.slot == i)).map (fun e => (e.position.target, e.due))

/-- The eject position and due mark of a CLOSED slot; none for any other. -/
def State.ejectOfSlot (s : State) (i : SlotIndex) : Option (Pos × Bool) :=
  match s.slot i with
  | .held .closed r => (s.lane r.lane).ejectOf i
  | .held .forming _ | .held .ready _ | .free => none

/-- READ_RECORD (R155). -/
def execReadRecord (k : StationLink) (slot : Nat) (s : State) : Answer :=
  taken k .readRecord s (match slotOf slot with
    | none => s.refuse k .readRecord .range
    | some i => s.reply k .readRecord .ok (.stackRecord i (s.slot i) (s.ejectOfSlot i) s.log.ready.length))

/-! ## HALT_REQUEST (R187) -/

/-- HALT_REQUEST (R187, R201). -/
def execHaltRequest (k : StationLink) (s : State) : Answer :=
  taken k .haltRequest s
    ((haltFor (.haltRequest k) s).reply k .haltRequest .ok .none)

end Sys2Proof.Machine
end

