-- ==== Sys2Proof/Machine/Delivery.lean ====
section
/-!
DEFINITION. Requests of the delivery link (07, 08): FETCH_RECORD, ACK_RECORD, CLOSE_NOW.
-/

namespace Sys2Proof.Machine

/-! ## FETCH_RECORD (R154) -/

/-- A READY slot belongs to the lanes of a selector (R154). -/
def Slot.selectedBy (sel : LaneSelector) (x : Slot) : Bool :=
  match sel, x with
  | .any, _ => true
  | .one l, .held _ r => r.lane == l
  | .one _, .free => false

/-- The oldest entry of the ready list that a selector takes (R154). -/
def State.oldestReady (s : State) (sel : LaneSelector) : Option SlotIndex :=
  s.log.ready.find? (fun i => (s.slot i).selectedBy sel)

/-- FETCH_RECORD (R154). -/
def execFetchRecord (k : StationLink) (selector : Nat) (s : State) : Answer :=
  taken k .fetchRecord s (match laneSelectorOf selector with
    | none => s.refuse k .fetchRecord .range
    | some sel => match s.oldestReady sel with
      | none => s.reply k .fetchRecord .empty (.number s.log.ready.length)
      | some i => s.reply k .fetchRecord .ok (.stackRecord i (s.slot i) none s.log.ready.length))

/-! ## ACK_RECORD (R156) -/

/-- The result of the test of the named slot (R156). -/
def ackResult (x : Slot) (seq : Seq) : Result :=
  match x with
  | .free => .unknown
  | .held st r =>
    if r.seq = seq then match st with
      | .ready => .ok
      | .forming | .closed => .notReady
    else .unknown

/-- The effect of an acknowledgement: a READY slot with the sequence becomes FREE (R156). -/
def acknowledgeSlot (i : SlotIndex) (seq : Seq) (s : State) : State :=
  match ackResult (s.slot i) seq with
  | .ok => freeReadySlot i s
  | _ => s

/-- ACK_RECORD (R156). The response gives the entries on the ready list, whatever the test found. -/
def execAckRecord (k : StationLink) (slot : Nat) (seq : Seq) (s : State) : Answer :=
  taken k .ackRecord s (match slotOf slot with
    | none => s.refuse k .ackRecord .range
    | some i =>
      let t := acknowledgeSlot i seq s
      t.reply k .ackRecord (ackResult (s.slot i) seq) (.number t.log.ready.length))

/-! ## CLOSE_NOW (R133) -/

/-- The open stack is closed short, and the lane follows its order's flags (R133). -/
def closeOpenStack (l : Lane) (o : OpenStack) (s : State) : State :=
  afterClose l o.nogap o.final (shortClose l .shortClose s)

/-- The request CLOSE_NOW for a lane (R133). -/
def closeNow (k : StationLink) (l : Lane) (s : State) : State :=
  match (s.lane l).openStack with
  | none => s.refuse k .closeNow .noStack
  | some o => match s.formingRecord o with
    | none => s.refuse k .closeNow .noStack
    | some r =>
      (finishDrive s (closeOpenStack l o s)).reply k .closeNow .ok (.stackNamed o.slot r.seq)

/-- CLOSE_NOW (R133). -/
def execCloseNow (k : StationLink) (lane : Nat) (s : State) : Answer :=
  taken k .closeNow s (match laneOf lane with
    | none => s.refuse k .closeNow .range
    | some l => closeNow k l s)

end Sys2Proof.Machine
end

