-- ==== Sys2Proof/Machine/Inspection.lean ====
section
/-!
DEFINITION. The verdict unit and the notices (05, 06): LINE_REJECT of the line link, VERDICT and FETCH_NOTICE of the
inspection link.
-/

namespace Sys2Proof.Machine

/-! ## LINE_REJECT (R100 to R103) -/

/-- The run of repeat numbers a LINE_REJECT names (R100). -/
def rejectRun (first : RepeatNo) (count : Nat) : List RepeatNo :=
  (List.range count).map (fun i => first + BitVec.ofNat 16 i)

/-- The undecided lanes of a record's lane set (R95). -/
def RepeatRecord.openLanes (r : RepeatRecord) : LaneSet := LaneSet.ofTest (fun l => r.undecided l)

/-- The decided lanes of a record's lane set (R95). -/
def RepeatRecord.closedLanes (r : RepeatRecord) : LaneSet := r.laneSet &&& ~~~r.openLanes

/-- The lane mask joined into a pending cut's line lanes (R55). -/
def Cut.withLine (c : Cut) (n : RepeatNo) (m : LaneSet) : Cut :=
  if c.repeatNo == n then { c with lineLanes := c.lineLanes ||| m } else c

/-- The cuts pending for a repeat number take the mask (R55). -/
def condemnCut (n : RepeatNo) (m : LaneSet) (s : State) : State :=
  s.setCut { s.cut with
    schedule := s.cut.schedule.map (fun c => c.withLine n m), queue := s.cut.queue.map (fun c => c.withLine n m) }

/-- What a LINE_REJECT has done so far: repeats applied now, and too late (R103). -/
structure RejectTally where
  applied : Nat
  late : Nat
  deriving DecidableEq, Repr

/-- One repeat of a LINE_REJECT, by its class (R100, R101, R103). -/
def rejectRepeat (m : LaneSet) (n : RepeatNo) (p : State × RejectTally) : State × RejectTally :=
  match p.1.record n with
  | some r =>
    if m &&& r.openLanes = 0 then (p.1, { p.2 with late := p.2.late + 1 })
    else
      (p.1.updateRecord n (fun r => { r with lineLanes := r.lineLanes ||| (m &&& r.openLanes) }),
        { p.2 with applied := p.2.applied + 1 })
  | none =>
    if p.1.cutPending n then (condemnCut n m p.1, { p.2 with applied := p.2.applied + 1 })
    else if p.1.classOf n = .notYet then p
    else (p.1, { p.2 with late := p.2.late + 1 })

/-- The future part of a run: its NOT_YET repeats (R100). -/
def State.futurePart (s : State) (run : List RepeatNo) : List RepeatNo :=
  run.filter (fun n => s.classOf n == .notYet)

/-- A future part that is not empty replaces the line-reject range (R54, R102). -/
def takeFuture (future : List RepeatNo) (m : LaneSet) (s : State) : State :=
  match future with
  | [] => s
  | n :: _ => s.setCut { s.cut with range := { first := n, remaining := future.length, mask := m } }

/-- A LINE_REJECT taken (R100 to R103). -/
def applyLineReject (k : StationLink) (run : List RepeatNo) (m : LaneSet) (s : State) : State :=
  let done := run.foldl (fun p n => rejectRepeat m n p) (s, ⟨0, 0⟩)
  (takeFuture (s.futurePart run) m done.1).reply k .lineReject .ok
    (.lineRejected done.2.applied (s.futurePart run).length done.2.late)

/-- The request LINE_REJECT (R100). -/
def lineReject (k : StationLink) (first : RepeatNo) (count : Nat) (m : LaneSet) (s : State) : State :=
  if count = 0 ∨ 256 < count ∨ m = 0 then s.refuse k .lineReject .range
  else if (rejectRun first count).any (fun n => s.classOf n == .far) then s.refuse k .lineReject .range
  else applyLineReject k (rejectRun first count) m s

/-- LINE_REJECT (R100). -/
def execLineReject (k : StationLink) (first : RepeatNo) (count : Nat) (m : LaneSet) (s : State) : Answer :=
  taken k .lineReject s (lineReject k first count m s)

/-! ## VERDICT (R94 to R99) -/

/-- A late verdict, counted and raised (R96). -/
def lateVerdict (s : State) : State :=
  raiseEvent .lateVerdict (s.setCnt { s.cnt with lateVerdicts := satInc s.cnt.lateVerdicts })

/-- The defect class after a verdict (R95, step 2). -/
def higherClass (old : Option Nat) (new : Nat) : Option Nat :=
  match old with
  | none => some new
  | some c => some (max c new)

/-- The verdict state after a verdict is taken (R95, step 3). -/
def VerdictState.taken : VerdictState → VerdictState
  | .awaited => .received
  | .received => .received
  | .notRequired => .notRequired

/-- A record after a verdict is taken for it (R95). -/
def RepeatRecord.withVerdict (r : RepeatRecord) (m : LaneSet) (c : Nat) : RepeatRecord :=
  { r with
    vision := r.vision ||| (m &&& r.openLanes), defectClass := higherClass r.defectClass c,
    verdict := r.verdict.taken }

/-- A verdict for a repeat in the map (R95, R96). -/
def verdictInMap (k : StationLink) (r : RepeatRecord) (m : LaneSet) (c : Nat) (s : State) : State :=
  if r.openLanes = 0 then
    (lateVerdict s).reply k .verdict .late (.verdict 0 r.closedLanes (some r.verdict))
  else
    let t := s.updateRecord r.repeatNo (fun r => r.withVerdict m c)
    (if m &&& r.closedLanes = 0 then t else lateVerdict t).reply k .verdict .ok
      (.verdict r.openLanes r.closedLanes (some r.verdict.taken))

/-- The request VERDICT, by the class of its repeat (R94). -/
def verdict (k : StationLink) (n : RepeatNo) (m : LaneSet) (c : BitVec 8) (s : State) : State :=
  if 15 < c.toNat then s.refuse k .verdict .range
  else match s.record n with
    | some r => verdictInMap k r m c.toNat s
    | none => match s.classOf n with
      | .gone => (lateVerdict s).reply k .verdict .late (.verdict 0 0 none)
      | .inMap | .pending | .notYet | .far => s.refuse k .verdict .unknown

/-- VERDICT (R94). -/
def execVerdict (k : StationLink) (n : RepeatNo) (m : LaneSet) (c : BitVec 8) (s : State) : Answer :=
  taken k .verdict s (verdict k n m c s)

/-! ## FETCH_NOTICE (R83) -/

/-- FETCH_NOTICE (R83). -/
def execFetchNotice (k : StationLink) (s : State) : Answer :=
  taken k .fetchNotice s (match s.map.notices with
    | [] => s.refuse k .fetchNotice .empty
    | n :: rest =>
      (s.setMap { s.map with notices := rest }).reply k .fetchNotice .ok (.notice n rest.length))

end Sys2Proof.Machine
end

