-- ==== Sys2Proof/Machine/Orders.lean ====
section
/-!
DEFINITION. Requests of the line link to a lane (07): QUEUE_ORDER, CANCEL_ORDER, LANE_RESUME, LANE_CLEAR.
-/

namespace Sys2Proof.Machine

/-! ## QUEUE_ORDER (R121) -/

/-- An order joins a lane's queue; an IDLE lane becomes BLOCKED (R121). -/
def LaneUnit.withOrder (u : LaneUnit) (o : Order) : LaneUnit :=
  { u with orders := u.orders ++ [o], state := if u.state = .idle then .blocked else u.state }

/-- The request QUEUE_ORDER for a lane (R121, test 2). -/
def queueOrderOn (k : StationLink) (l : Lane) (o : Order) (s : State) : State :=
  if (s.lane l).orders.length < Config.maxOrders then
    (s.setLane l ((s.lane l).withOrder o)).reply k .queueOrder .ok (.number ((s.lane l).orders.length + 1))
  else s.refuse k .queueOrder .full

/-- The request QUEUE_ORDER (R121). -/
def queueOrder (k : StationLink) (lane : Nat) (tag : BitVec 8) (job target : Nat) (nogap final : Bool) (s : State) :
    State :=
  match laneOf lane with
  | none => s.refuse k .queueOrder .range
  | some l =>
    if 1 ≤ target ∧ target ≤ 4000 ∧ job ≤ 65535 then
      queueOrderOn k l
        { tag := tag, job := BitVec.ofNat 16 job, target := target, nogap := nogap, final := final } s
    else s.refuse k .queueOrder .range

/-- QUEUE_ORDER (R121). -/
def execQueueOrder (k : StationLink) (lane : Nat) (tag : BitVec 8) (job target : Nat) (nogap final : Bool)
    (s : State) : Answer :=
  taken k .queueOrder s (queueOrder k lane tag job target nogap final s)

/-! ## CANCEL_ORDER (R132) -/

/-- The FORMING stack of a lane: its place and its record. -/
def State.formingStack (s : State) (l : Lane) : Option (OpenStack × StackRecord) :=
  match (s.lane l).openStack with
  | none => none
  | some o => (s.formingRecord o).map (fun r => (o, r))

/-- The open stack is cancelled: closed short, and the lane takes the full profile gap (R132). -/
def cancelOpenStack (l : Lane) (s : State) : State :=
  let t := shortClose l .shortCancel s
  t.setLane l { t.lane l with state := .changing, gap := s.profile.changeGap }

/-- A queued order with the tag is cancelled, or none is found (R132). -/
def cancelQueued (k : StationLink) (l : Lane) (tag : BitVec 8) (s : State) : State :=
  match (s.lane l).orders.find? (fun o => o.tag == tag) with
  | none => s.refuse k .cancelOrder .unknown
  | some o =>
    (s.setLane l { s.lane l with orders := removeFirst (fun o => o.tag == tag) (s.lane l).orders }).reply
      k .cancelOrder .ok (.orderCancelled o)

/-- The request CANCEL_ORDER for a lane (R132). -/
def cancelOn (k : StationLink) (l : Lane) (tag : BitVec 8) (s : State) : State :=
  match s.formingStack l with
  | none => cancelQueued k l tag s
  | some (o, r) =>
    if r.tag = tag then
      (finishDrive s (cancelOpenStack l s)).reply k .cancelOrder .ok
        (.stackCancelled o.slot r.seq (r.count != 0))
    else cancelQueued k l tag s

/-- CANCEL_ORDER (R132). -/
def execCancelOrder (k : StationLink) (lane : Nat) (tag : BitVec 8) (s : State) : Answer :=
  taken k .cancelOrder s (match laneOf lane with
    | none => s.refuse k .cancelOrder .range
    | some l => cancelOn k l tag s)

/-! ## LANE_RESUME (R135) -/

/-- LANE_RESUME (R135). -/
def execLaneResume (k : StationLink) (lane : Nat) (s : State) : Answer :=
  taken k .laneResume s (match laneOf lane with
    | none => s.refuse k .laneResume .range
    | some l =>
      if (s.lane l).state = .held then
        (s.setLaneState l (s.lane l).idleState).reply k .laneResume .ok .none
      else s.refuse k .laneResume .state)

/-! ## LANE_CLEAR (R141) -/

/-- The gate after LANE_CLEAR: no hold, its latch cleared and its filter times at 0 (R173; Log 24). -/
def Gate.cleared (g : Gate) : Gate :=
  { hold := none, latch := none, filter := if g.latch.isSome then .settling else g.filter }

/-- The pusher after LANE_CLEAR: FREE when its latch is cleared, otherwise as it was (R173). -/
def Pusher.cleared (p : Pusher) : Pusher :=
  if p.latch.isSome then { p with drive := .free, latch := none, filter := .settling } else p

/-- The fault latches of a lane are cleared (R141, step 2; R173). -/
def clearLatches (l : Lane) (s : State) : State :=
  (s.setGate l (s.gate l).cleared).setPusher l (s.pusher l).cleared

/-- The pusher pulse of LANE_CLEAR: none in HALT, DRY and a dry drain (R141, step 3). -/
def clearingPulse (l : Lane) (s : State) : State :=
  if s.mode.isHalt || s.mode.isDryKind then s else requestPusherPulse l s

/-- The quarantine record as it enters the log (R141, steps 1 and 3). -/
def StackRecord.delivered (q : StackRecord) (halted : Bool) : StackRecord :=
  { q with closing := some .quarantine, notEjected := q.notEjected || halted }

/-- The quarantine record of a lane. A lane in FAULT holds one (R137, R143); a lane without one, which no run reaches,
is given the empty one of R138 (Log 23). -/
def State.quarantineOf (s : State) (l : Lane) : StackRecord :=
  (s.lane l).quarantine.getD (emptyQuarantine l (s.lane l).nextSeq s.mode.isDryKind)

/-- A LANE_CLEAR taken, with its granted slot (R141). -/
def clearLane (l : Lane) (i : SlotIndex) (s : State) : State :=
  let t := fillReadySlot i ((s.quarantineOf l).delivered s.mode.isHalt) (clearingPulse l (clearLatches l s))
  t.setLane l { t.lane l with state := .held, quarantine := none }

/-- The request LANE_CLEAR for a lane, in the order of its tests (R141). -/
def laneClear (k : StationLink) (l : Lane) (s : State) : State :=
  if (s.lane l).state ≠ .fault then s.refuse k .laneClear .state
  else if s.faultPresent (.gate l) || s.faultPresent (.pusher l) then s.refuse k .laneClear .faultActive
  else match s.freeSlot with
    | none => s.refuse k .laneClear .full
    | some i =>
      (finishDrive s (clearLane l i s)).reply k .laneClear .ok (.stackNamed i (s.quarantineOf l).seq)

/-- LANE_CLEAR (R141). -/
def execLaneClear (k : StationLink) (lane : Nat) (s : State) : Answer :=
  taken k .laneClear s (match laneOf lane with
    | none => s.refuse k .laneClear .range
    | some l => laneClear k l s)

end Sys2Proof.Machine
end

