-- ==== Sys2Proof/Machine/Setup.lean ====
section
/-!
DEFINITION. Requests of the line link to the profile unit and about diagnostics and counters (09, 10, 11):
SET_PROFILE_FIELD, READ_PROFILE, COMMIT_PROFILE, CANCEL_COMMIT, SET_MODE, RESET_TRACK, READ_COUNTERS, CLEAR_COUNTERS,
SET_DIAG_ENABLE.
-/

namespace Sys2Proof.Machine

/-! ## The pending profile (R176, R177) -/

/-- The answer to SET_PROFILE_FIELD while a commit waits: BUSY (R176). For a number beyond a named list R194 wants RANGE
before any other test; which of the two rules the part follows there is free (Log 12). -/
def resultWhileWaiting (field value : Nat) : Result :=
  if beyondNamedList field value && Config.namedListTestFirst then .range else .busy

/-- The request SET_PROFILE_FIELD, tested in the order of R176. -/
def setProfileField (k : StationLink) (field value : Nat) (s : State) : State :=
  if s.prof.commit.isSome then s.refuse k .setProfileField (resultWhileWaiting field value)
  else if inFixedRange field value then
    (s.setProf { s.prof with pending := s.prof.pending.put value field }).reply k .setProfileField .ok
      (.fieldWritten field value)
  else s.refuse k .setProfileField .range

/-- SET_PROFILE_FIELD (R176; Log 12). -/
def execSetProfileField (k : StationLink) (field value : Nat) (s : State) : Answer :=
  taken k .setProfileField s (setProfileField k field value s)

/-- The profile that a selector of READ_PROFILE names (R177, R194). -/
def ProfileUnit.selected (p : ProfileUnit) (selector : Nat) : Option Profile :=
  if selector = 0 then some p.active else if selector = 1 then some p.pending else none

/-- The request READ_PROFILE (R177). -/
def readProfile (k : StationLink) (selector field : Nat) (s : State) : State :=
  match s.prof.selected selector with
  | none => s.refuse k .readProfile .range
  | some p =>
    match p.get field with
    | none => s.refuse k .readProfile .range
    | some v => s.reply k .readProfile .ok (.fieldValue v)

/-- READ_PROFILE (R177). -/
def execReadProfile (k : StationLink) (selector field : Nat) (s : State) : Answer :=
  taken k .readProfile s (readProfile k selector field s)

/-! ## COMMIT_PROFILE (R178, R183, R184) -/

/-- The sources in the order of R178, numbered from 0 (R194). -/
inductive SourceOperand where
  | immediate
  | waiting (c : CommitSource)
  deriving DecidableEq, Repr

def sourceOf (source : Nat) (n : RepeatNo) : Option SourceOperand :=
  if source = 0 then some .immediate
  else if source = 1 then some (.waiting .nextMark)
  else if source = 2 then some (.waiting .splice)
  else if source = 3 then some (.waiting (.atRepeat n))
  else none

/-- A cut is pending or a record is in the map (R178, test 4). -/
def State.repeatsInHand (s : State) : Bool := s.pendingCuts != 0 || !s.map.records.isEmpty

/-- Test 5 of R178: an AT_REPEAT number that is not NOT_YET. -/
def State.repeatTaken (s : State) : SourceOperand → Bool
  | .waiting (.atRepeat n) => s.classOf n != .notYet
  | .waiting .nextMark | .waiting .splice | .immediate => false

/-- The first test of R178, from the second on, that fails: the result and the field it names. -/
def commitRefusal (source : SourceOperand) (s : State) : Option (Result × Payload) :=
  if s.prof.commit.isSome then some (.busy, .none)
  else if s.mode.isHalt then some (.mode, .none)
  else if source = .immediate ∧ s.mode.tracks ∧ s.repeatsInHand then some (.state, .none)
  else if s.repeatTaken source then some (.range, .none)
  else match firstFailure s.prof.pending with
    | some field => some (.range, .fieldNamed field)
    | none =>
      if source ≠ .immediate ∧ !sameGeometry s.prof.pending s.prof.active then some (.geometry, .none) else none

/-- The registration unit after an IMMEDIATE commit that changed P_nom in RUN or DRY (R184). -/
def Registration.restarted (r : Registration) (web : Pos) (pNom : Nat) : Registration :=
  { r with
    state := .search, lock := 0, miss := 0, window := none, candidate := none,
    virtualTarget := some (PosEvent.arm web (web + dist pNom)) }

/-- A HELD window whose candidate the commit discarded: its deferred expiry takes effect (R19). -/
def expireAtCommit (s : State) : State :=
  match s.reg.window with
  | none => s
  | some w => if w.status = .held ∧ s.reg.candidate = none then afterMark (expireNow w s) else s

/-- What the registration unit does at an IMMEDIATE application (R14, R19, R184; Log 11). -/
def immediateRegistration (old : Profile) (s : State) : State :=
  if s.mode.takesMarks then
    if s.profile.pNom ≠ old.pNom then s.setReg (s.reg.restarted s.web s.profile.pNom) else expireAtCommit s
  else s

/-- An IMMEDIATE commit, applied at the request (R183, R184, R12). -/
def commitNow (s : State) : State := testDeficits (immediateRegistration s.profile (applyCommit s))

/-- A commit accepted (R178). -/
def acceptCommit (k : StationLink) (source : SourceOperand) (s : State) : State :=
  match source with
  | .immediate => (finishDrive s (commitNow s)).reply k .commitProfile .ok (.commitAccepted true)
  | .waiting c =>
    (s.setProf { s.prof with commit := some ⟨c, false⟩ }).reply k .commitProfile .ok (.commitAccepted false)

/-- The request COMMIT_PROFILE (R178). -/
def commitProfile (k : StationLink) (source : Nat) (n : RepeatNo) (s : State) : State :=
  match sourceOf source n with
  | none => s.refuse k .commitProfile .range
  | some src =>
    match commitRefusal src s with
    | some (res, p) => s.reply k .commitProfile res p
    | none => acceptCommit k src s

/-- COMMIT_PROFILE (R178). -/
def execCommitProfile (k : StationLink) (source : Nat) (n : RepeatNo) (s : State) : Answer :=
  taken k .commitProfile s (commitProfile k source n s)

/-- CANCEL_COMMIT (R182). -/
def execCancelCommit (k : StationLink) (s : State) : Answer :=
  taken k .cancelCommit s
    (if s.prof.commit.isSome then (withdrawCommit s).reply k .cancelCommit .ok .none
     else s.refuse k .cancelCommit .unknown)

/-! ## SET_MODE (R185, R186) -/

/-- The knife fault latch is set. -/
def State.knifeLatched (s : State) : Bool := s.act.knife.latch.isSome

/-- Entry to RUN or DRY: high-water marks, virtual target (R9, R32). -/
def startRun (m : Mode) (s : State) : State :=
  ((s.setMode m).setPos s.pos.level).setReg
    { s.reg with virtualTarget := some (PosEvent.arm s.web (s.web + dist s.profile.pNom)) }

/-- The knife latch requests HALT at an entry in which the knife would make pulses (R172). -/
def haltIfLatched (s : State) : State := if s.knifeLatched then enterHalt .knifeFault s else s

/-- The entry to DRAINING, with the test of R186 made at the entry. -/
def startDraining (isDry : Bool) (s : State) : State :=
  let t := (s.setMode (.draining isDry)).setReg s.reg.drained
  if isDry then endDraining t else endDraining (haltIfLatched t)

/-- The change of mode by target and mode, when the request is accepted (R185). -/
def modeAfter (target : Nat) (s : State) : Option State :=
  match s.mode with
  | .setup =>
    if target = 0 then some (haltIfLatched (startRun .run s))
    else if target = 1 then some (startRun .dry s)
    else none
  | .run => if target = 2 then some (startDraining false s) else none
  | .dry => if target = 2 then some (startDraining true s) else none
  | .draining _ => if target = 2 then some s else none
  | .halt _ => none

/-- The request SET_MODE (R185). -/
def changeMode (k : StationLink) (target : Nat) (s : State) : State :=
  if 2 < target then s.refuse k .setMode .range
  else match modeAfter target s with
    | none => s.refuse k .setMode .mode
    | some t => (finishDrive s t).reply k .setMode .ok .none

/-- SET_MODE (R185). -/
def execSetMode (k : StationLink) (target : Nat) (s : State) : Answer := taken k .setMode s (changeMode k target s)

/-! ## RESET_TRACK (R189) -/

/-- The transit map's part: undecided labels lost, everything emptied (R88). -/
def resetMap (s : State) : State :=
  (s.countLanes (fun l c => { c with lost := c.lost + BitVec.ofNat 32 (undecidedIn s.map.records l) })).setMap
    TransitMap.reset

/-- The flag NOT_EJECTED on a record that becomes READY (R145). -/
def StackRecord.withNotEjected (r : StackRecord) : StackRecord := { r with notEjected := true }

/-- The closing kind ABORTED on a record that becomes READY (R145). -/
def StackRecord.aborted (r : StackRecord) : StackRecord := { r with closing := some .aborted }

/-- The FORMING stack becomes READY with closing kind ABORTED (R145, step 2). -/
def abortOpenStack (l : Lane) (s : State) : State :=
  match (s.lane l).openStack with
  | none => s
  | some o => makeReady o.slot StackRecord.aborted (s.setLane l { s.lane l with openStack := none })

/-- The lane state after RESET_TRACK (R145, step 3). -/
def LaneUnit.stateAfterReset (u : LaneUnit) : LaneState :=
  match u.state with
  | .off => .off
  | .held => .held
  | .fault => .fault
  | .idle | .blocked | .stacking | .changing => u.idleState

/-- One lane's part (R145, R113). -/
def resetLane (l : Lane) (s : State) : State :=
  let t := abortOpenStack l (releaseEjects l StackRecord.withNotEjected s)
  t.setLane l { t.lane l with state := (t.lane l).stateAfterReset, gap := 0, rejectEnd := none }

/-- The knife latch is cleared when its fault condition is not present (R173). -/
def clearKnifeLatch (s : State) : State :=
  if s.knifeLatched && !s.faultPresent .knife then
    s.setKnife { drive := .free, latch := none, filter := .settling }
  else s

/-- The line-reject range is emptied (R54, R69): remaining 0; its first number and its mask are 0 too, which no rule
gives (Log 5). -/
def emptyRange (s : State) : State := s.setCut { s.cut with range := CutScheduler.reset.range }

/-- What the blocks do at RESET_TRACK (R189). -/
def resetTrack (s : State) : State :=
  let s := resetMap s
  let s := allLanes.foldl (fun s l => resetLane l s) s
  enterSetup (removeHolds (clearKnifeLatch (emptyRange s)))

/-- The labels counted lost by RESET_TRACK, summed over the lanes (R189). -/
def State.undecidedLabels (s : State) : Nat := (allLanes.map (undecidedIn s.map.records)).sum

/-- The request RESET_TRACK (R189). -/
def answerResetTrack (k : StationLink) (s : State) : State :=
  if s.mode.tracks then s.refuse k .resetTrack .mode
  else if s.pins.stop then s.refuse k .resetTrack .state
  else
    let t := finishDrive s (resetTrack s)
    t.reply k .resetTrack .ok
      (.trackReset s.undecidedLabels (t.log.ready.length - s.log.ready.length) t.knifeLatched)

/-- RESET_TRACK (R189). -/
def execResetTrack (k : StationLink) (s : State) : Answer := taken k .resetTrack s (answerResetTrack k s)

/-! ## Counters (R199, R200) -/

/-- READ_COUNTERS (R199). -/
def execReadCounters (k : StationLink) (group : Nat) (s : State) : Answer :=
  taken k .readCounters s (match s.cnt.group group with
    | none => s.refuse k .readCounters .range
    | some p => s.reply k .readCounters .ok p)

/-- The counters after CLEAR_COUNTERS (R200). -/
def clearedCounters (s : State) : Counters :=
  { Counters.zero with
    lanes := perLane (fun l c => { c with cut := BitVec.ofNat 32 (undecidedIn s.map.records l) }) Counters.zero.lanes }

/-- CLEAR_COUNTERS (R200). -/
def execClearCounters (k : StationLink) (s : State) : Answer :=
  taken k .clearCounters s
    ((s.setCnt (clearedCounters s)).reply k .clearCounters .ok
      (.labelsCut (allLanes.map (undecidedIn s.map.records))))

/-! ## SET_DIAG_ENABLE (R169) -/

/-- The diagnostic enable set is replaced; an output removed from it or added to it has its filter times at 0
(R169). -/
def setDiagEnable (d : DiagEnable) (s : State) : State :=
  allOutputs.foldl (fun t o => if s.act.enabled.has o == d.has o then t else t.setFilter o .settling)
    (s.setAct { s.act with enabled := d })

/-- SET_DIAG_ENABLE (R169). -/
def execSetDiagEnable (k : StationLink) (knife : Bool) (gates pushers : LaneSet) (s : State) : Answer :=
  taken k .setDiagEnable s
    ((finishDrive s (setDiagEnable ⟨knife, gates, pushers⟩ s)).reply k .setDiagEnable .ok .none)

end Sys2Proof.Machine
end

