-- ==== Sys2Proof/Machine/Frames.lean ====
section
/-!
DEFINITION. Frames as they are shifted in (R192): BROKEN_FRAME, a frame given by its words.
-/

namespace Sys2Proof.Machine

/-- A request that a frame spells, taken as its own row. A row that is no request is spelled by no frame. -/
def execRequest (c : Instr) (s : State) : Answer :=
  match c with
  | .nop k => execNop k s
  | .readStatus k page => execReadStatus k page s
  | .readEvents k => execReadEvents k s
  | .ackEvents k m => execAckEvents k m s
  | .setEventMask k m => execSetEventMask k m s
  | .readRepeat k n part => execReadRepeat k n part s
  | .readRecord k slot => execReadRecord k slot s
  | .haltRequest k => execHaltRequest k s
  | .setProfileField k field value => execSetProfileField k field value s
  | .readProfile k selector field => execReadProfile k selector field s
  | .commitProfile k source n => execCommitProfile k source n s
  | .cancelCommit k => execCancelCommit k s
  | .setMode k target => execSetMode k target s
  | .resetTrack k => execResetTrack k s
  | .queueOrder k l tag job target nogap final => execQueueOrder k l tag job target nogap final s
  | .cancelOrder k l tag => execCancelOrder k l tag s
  | .laneResume k l => execLaneResume k l s
  | .laneClear k l => execLaneClear k l s
  | .lineReject k first count mask => execLineReject k first count mask s
  | .readCounters k group => execReadCounters k group s
  | .clearCounters k => execClearCounters k s
  | .setDiagEnable k knife gates pushers => execSetDiagEnable k knife gates pushers s
  | .verdict k n mask defectClass => execVerdict k n mask defectClass s
  | .fetchNotice k => execFetchNotice k s
  | .fetchRecord k selector => execFetchRecord k selector s
  | .ackRecord k slot seq => execAckRecord k slot seq s
  | .closeNow k l => execCloseNow k l s
  | .deviceReset | .countArrival _ _ | .skippedTransition _ | .speedSample | .markLeadingEdge | .markTrailingEdge
  | .qualificationPoint | .windowOpening | .windowExpiry | .virtualMarkTarget | .firePosition | .knifeConfirm
  | .confirmWindowExpiry | .knifePulseEnd | .knifeOffTimeEnd | .spliceDetection | .lastStampExpiry
  | .cameraPosition _ | .cameraPulseEnd | .decisionPosition _ _ | .rejectEndExpiry _ | .recordExit _ | .purgeEnd
  | .ejectPosition _ | .pusherPulseEnd _ | .pusherOffTimeEnd _ | .gateHoldEnd _ | .senseLineChange _ _
  | .inactiveTimeElapsed _ | .openLoadLatch _ | .stopInputActive | .selectAssert _ | .brokenFrame _ _
  | .stopInputInactive => .next s

/-- BROKEN_FRAME (R192): the response of the first check that fails. A frame that passes them all is taken as the request
its words spell (Log 14); a discarded frame is not taken. -/
def execBrokenFrame (k : StationLink) (f : Frame) (s : State) : Answer :=
  if s.discards k then .next s
  else match f.refusal k with
    | some (code, res) => .next (s.answer k ⟨code, res, .none⟩)
    | none => match f.command k with
      | some c => execRequest c s
      | none => .next s

end Sys2Proof.Machine
end

