-- ==== Sys2Proof/Machine/Knife.lean ====
section
/-!
DEFINITION. Commands of the cut scheduler and the knife output (04, R164): FIRE_POSITION, KNIFE_CONFIRM,
CONFIRM_WINDOW_EXPIRY, KNIFE_PULSE_END, KNIFE_OFF_TIME_END, SPLICE_DETECTION.
-/

namespace Sys2Proof.Machine

/-- FIRE_POSITION (R59): the fire position of the schedule's head has been reached. -/
def execFirePosition (s : State) : Answer :=
  .next (if !s.mode.isHalt && s.cut.headReached then finishDrive s (fireReached s.cut.schedule.length s) else s)

/-- The open confirm window is confirmed (R63). -/
def confirmStrike (w : ConfirmWindow) (s : State) : State :=
  (s.updateRecord w.repeatNo (fun r => { r with confirmed := true })).setCut { s.cut with confirm := none }

/-- A stray confirm (R66). -/
def strayConfirm (s : State) : State := s.setCnt { s.cnt with strayConfirms := satInc s.cnt.strayConfirms }

/-- KNIFE_CONFIRM (R63, R66): a rising KCONF edge. -/
def execKnifeConfirm (s : State) : Answer :=
  .next (match s.cut.confirm with
    | none => strayConfirm s
    | some w => reportDrained (confirmStrike w s))

/-- CONFIRM_WINDOW_EXPIRY (R64). -/
def execConfirmWindowExpiry (s : State) : Answer :=
  .next (match s.cut.confirm with
    | none => s
    | some w =>
      if !s.mode.isHalt && w.expiry.reached then reportDrained (missStrike w s) else s)

/-- The knife goes to a drive state; when that is FREE the cut scheduler is told, and strikes its oldest waiting cut
(R60, R164). -/
def knifeTo (d : Drive) (s : State) : State :=
  let t := s.setKnife { s.act.knife with drive := d }
  if d = .free then strikeOldest t else t

/-- KNIFE_PULSE_END (R164). -/
def execKnifePulseEnd (s : State) : Answer :=
  .next (match s.act.knife.drive with
    | .pulse _ => finishDrive s (knifeTo (afterPulse s.profile.knifeOff) s)
    | .free | .offTime _ | .latched => s)

/-- KNIFE_OFF_TIME_END (R164). -/
def execKnifeOffTimeEnd (s : State) : Answer :=
  .next (match s.act.knife.drive with
    | .offTime _ => finishDrive s (knifeTo .free s)
    | .free | .pulse _ | .latched => s)

/-- A SPLICE_SEEN sets the splice mark of a waiting commit (R181). -/
def markSplice (p : ProfileUnit) : ProfileUnit :=
  { p with commit := p.commit.map (fun c => { c with spliceMark := true }) }

/-- A splice detection at the web position (R56, R57, R181). -/
def spliceSeen (s : State) : State :=
  let t := (s.setCut { s.cut with splices := addZone (spliceZone s.profile s.web) s.cut.splices }).setProf
    (markSplice s.prof)
  raiseIf (splicesFull s.cut.splices) .spliceMerged (raiseEvent .spliceSeen t)

/-- SPLICE_DETECTION (R56): ignored in SETUP and HALT. -/
def execSpliceDetection (s : State) : Answer := .next (if s.mode.tracks then spliceSeen s else s)

end Sys2Proof.Machine
end

