-- ==== Sys2Proof/Machine/LaneEvents.lean ====
section
/-!
DEFINITION. Position events of the lane sequencers: REJECT_END_EXPIRY (R113), EJECT_POSITION (R128 to R130).
-/

namespace Sys2Proof.Machine

/-- REJECT_END_EXPIRY (R113). -/
def execRejectEndExpiry (l : Lane) (s : State) : Answer :=
  .next (match (s.lane l).rejectEnd with
    | none => s
    | some f =>
      if !s.mode.isHalt && f.expiry.reached then s.setLane l { s.lane l with rejectEnd := none } else s)

/-- EJECT_POSITION (R128, R129, R130, R165). -/
def execEjectPosition (l : Lane) (s : State) : Answer :=
  .next (if !s.mode.isHalt && (s.lane l).headReached then finishDrive s (runEjects l s) else s)

end Sys2Proof.Machine
end

