-- ==== Sys2Proof/Machine/CountOps.lean ====
section
/-!
DEFINITION. What one count of an encoder does (R1, R9, R10, R17): the counter, the high-water mark, the window counter,
and the armed position events that the count brings to their targets (R5).
-/

namespace Sys2Proof.Machine

/-! ## The counter and its high-water mark (R1, R9) -/

/-- A forward count; `follows` in SETUP and HALT, where the high-water mark follows its counter (R9). -/
def EncoderState.forward (e : EncoderState) (follows : Bool) : EncoderState :=
  { e with
    counter := e.counter + 1
    highWater := if follows || atOrBeyond (e.counter + 1) e.highWater then e.counter + 1 else e.highWater }

/-- A reverse count (R9). -/
def EncoderState.reverse (e : EncoderState) (follows : Bool) : EncoderState :=
  { e with
    counter := e.counter - 1
    highWater := if follows then e.counter - 1 else e.highWater }

def State.encoder (s : State) : Axis → EncoderState
  | .web => s.pos.web
  | .belt => s.pos.belt

def State.setEncoder (s : State) (a : Axis) (e : EncoderState) : State :=
  match a with
  | .web => s.setPos { s.pos with web := e }
  | .belt => s.setPos { s.pos with belt := e }

/-! ## The window counter (R17) -/

/-- The window is OPEN. -/
def MarkWindow.isOpen (w : MarkWindow) : Bool := w.status == .opened

/-- The window counter after a web count: it runs while the window is OPEN. -/
def Registration.runWindow (r : Registration) (d : Direction) : Registration :=
  match r.window with
  | none => r
  | some w =>
    if w.isOpen then { r with windowCounter := match d with
      | .forward => r.windowCounter - 1
      | .reverse => r.windowCounter + 1 }
    else r

/-! ## Events armed on the web counter (R5) -/

/-- The armed bound of a window: its opening while ARMED, its expiry while OPEN; also the expiry while ARMED. -/
def MarkWindow.count (now : Pos) (w : MarkWindow) : MarkWindow :=
  match w.status with
  | .armed => { w with opening := w.opening.count now, expiry := w.expiry.count now }
  | .opened => { w with expiry := w.expiry.count now }
  | .held => w

def Candidate.count (now : Pos) (c : Candidate) : Candidate := { c with qualification := c.qualification.count now }

def Registration.count (now : Pos) (r : Registration) : Registration :=
  { r with
    candidate := r.candidate.map (Candidate.count now)
    window := r.window.map (MarkWindow.count now)
    virtualTarget := r.virtualTarget.map (PosEvent.count now) }

/-- The head of the schedule has its fire position at `now`. -/
def headAt (now : Pos) : List Cut → Bool
  | [] => false
  | c :: _ => c.fire == now

def ConfirmWindow.count (now : Pos) (w : ConfirmWindow) : ConfirmWindow := { w with expiry := w.expiry.count now }

def CutScheduler.count (now : Pos) (c : CutScheduler) : CutScheduler :=
  { c with
    headReached := c.headReached || headAt now c.schedule
    confirm := c.confirm.map (ConfirmWindow.count now) }

/-! ## Events armed on the belt counter (R5) -/

/-- The camera and decision positions of a record are armed until they are taken. -/
def RepeatRecord.count (now : Pos) (r : RepeatRecord) : RepeatRecord :=
  { r with
    camera := if r.cameraTaken then r.camera else r.camera.map (PosEvent.count now)
    decision := if r.decisionTaken then r.decision else r.decision.count now
    exit := r.exit.count now }

def Fading.count (now : Pos) (f : Fading) : Fading := { f with expiry := f.expiry.count now }

def TransitMap.count (now : Pos) (m : TransitMap) : TransitMap :=
  { m with
    records := m.records.map (RepeatRecord.count now)
    lastStamp := m.lastStamp.map (Fading.count now)
    purge := m.purge.map (PosEvent.count now) }

/-- Only the head's eject position is armed, and a due head's has been taken (R127). -/
def countEjects (now : Pos) : List Eject → List Eject
  | [] => []
  | e :: rest => (if e.due then e else { e with position := e.position.count now }) :: rest

def LaneUnit.count (now : Pos) (u : LaneUnit) : LaneUnit :=
  { u with ejects := countEjects now u.ejects, rejectEnd := u.rejectEnd.map (Fading.count now) }

def Gate.count (now : Pos) (g : Gate) : Gate := { g with hold := g.hold.map (PosEvent.count now) }

/-! ## The count -/

/-- The events armed on a counter that the forward count to `now` brings to their targets (R5). -/
def markReached (a : Axis) (now : Pos) (s : State) : State :=
  match a with
  | .web => (s.setReg (s.reg.count now)).setCut (s.cut.count now)
  | .belt =>
    ((s.setMap (s.map.count now)).setLanes (perLane (fun _ u => u.count now) s.lanes)).setAct
      { s.act with gates := perLane (fun _ g => g.count now) s.act.gates }

/-- The window counter runs with the web counter only (R17). -/
def runWindow (a : Axis) (d : Direction) (s : State) : State :=
  match a with
  | .web => s.setReg (s.reg.runWindow d)
  | .belt => s

/-- The cause of a reverse HALT (R10). -/
def reverseCause : Axis → HaltCause
  | .web => .reverseWeb
  | .belt => .reverseBelt

/-- A forward count; in HALT no position event is taken (R6). -/
def countForward (a : Axis) (s : State) : State :=
  let t := runWindow a .forward (s.setEncoder a ((s.encoder a).forward s.mode.idle))
  if s.mode.isHalt then t else markReached a (t.encoder a).counter t

/-- A reverse count takes no position event (R5). -/
def countBack (a : Axis) (s : State) : State :=
  runWindow a .reverse (s.setEncoder a ((s.encoder a).reverse s.mode.idle))

/-- The reverse deficit of a counter exceeds R_rev in a mode that tests it (R10). -/
def State.reverseExceeded (s : State) (a : Axis) : Bool :=
  s.mode.tracks && decide (s.profile.reverseLimit < (s.encoder a).deficit)

/-- A reverse count, with the test of R10. -/
def countReverse (a : Axis) (s : State) : State :=
  if (countBack a s).reverseExceeded a then haltFor (reverseCause a) (countBack a s)
  else countBack a s

end Sys2Proof.Machine
end

