-- ==== Sys2Proof/Machine/Position.lean ====
section
/-!
DEFINITION. Commands of the position unit and of the device: DEVICE_RESET, COUNT_ARRIVAL, SKIPPED_TRANSITION,
SPEED_SAMPLE (01, R190).
-/

namespace Sys2Proof.Machine

/-- A device reset during a frame discards it; no frame is then taken before the next assertion of select (R192). -/
def FramePhase.afterReset : FramePhase → FramePhase
  | .idle => .idle
  | .shifting | .discarded => .discarded

/-- The link units after device reset (R192, R201). -/
def Links.afterReset (old : Links) : Links :=
  { line := { Links.reset.line with phase := old.line.phase.afterReset }
    inspection := { Links.reset.inspection with phase := old.inspection.phase.afterReset }
    delivery := { Links.reset.delivery with phase := old.delivery.phase.afterReset } }

/-- Device reset (R190): every block at its stated default. The pins keep their levels, and the queue and the count of
free orders are not the part's (Log 5). -/
def deviceReset (s : State) : State :=
  let t := { (((State.reset.setPins s.pins).setPending s.pending).setRaces s.races) with links := s.links.afterReset }
  if s.pins.stop then enterHalt .stopInput t else t

/-- DEVICE_RESET (R190, R188). -/
def execDeviceReset (s : State) : Answer := .next (deviceReset s)

/-- COUNT_ARRIVAL (R1, R5, R6, R9, R10, R17). -/
def execCountArrival (a : Axis) (d : Direction) (s : State) : Answer :=
  .next (match d with
    | .forward => countForward a s
    | .reverse => countReverse a s)

/-- SKIPPED_TRANSITION (R2). -/
def execSkippedTransition (a : Axis) (s : State) : Answer :=
  .next (s.setCnt (match a with
    | .web => { s.cnt with webSkips := satInc s.cnt.webSkips }
    | .belt => { s.cnt with beltSkips := satInc s.cnt.beltSkips }))

/-- The raw sample of a counter (R7). -/
def EncoderState.rawSample (e : EncoderState) : Int := signedDiff e.counter e.base

/-- A raw sample that is clamped (R8). -/
def beyondSpeedRange (raw : Int) : Bool := decide (raw < -32767 ∨ 32767 < raw)

/-- The stored sample (R8). -/
def clampSpeed (raw : Int) : Int := if raw < -32767 then -32767 else if 32767 < raw then 32767 else raw

/-- One encoder after a speed sample (R7). -/
def EncoderState.sampled (e : EncoderState) : EncoderState :=
  { e with speed := clampSpeed e.rawSample, base := e.counter }

/-- SPEED_SAMPLE (R7, R8). -/
def execSpeedSample (s : State) : Answer :=
  .next (raiseIf (beyondSpeedRange s.pos.web.rawSample || beyondSpeedRange s.pos.belt.rawSample) .speedClamp
    (s.setPos { web := s.pos.web.sampled, belt := s.pos.belt.sampled }))

end Sys2Proof.Machine
end

