-- ==== Sys2Proof/Machine/Registration.lean ====
section
/-!
DEFINITION. Commands of the registration unit (02): MARK_LEADING_EDGE, MARK_TRAILING_EDGE, QUALIFICATION_POINT,
WINDOW_OPENING, WINDOW_EXPIRY, VIRTUAL_MARK_TARGET.
-/

namespace Sys2Proof.Machine

/-- The other level. -/
def otherLevel : Level → Level
  | .high => .low
  | .low => .high

/-- A new mark candidate at the web position (R14). -/
def newCandidate (s : State) : Candidate :=
  { position := s.web, qualification := PosEvent.arm s.web (s.web + dist s.profile.mMin) }

/-- The input goes active: in RUN and DRY a candidate is created (R14). -/
def leadingEdge (s : State) : State :=
  let t := s.setPins { s.pins with mark := s.profile.markLevel }
  if s.mode.takesMarks then t.setReg { t.reg with candidate := some (newCandidate s) } else t

/-- MARK_LEADING_EDGE (R14). An input that is already active gives no edge (Log 17). -/
def execMarkLeadingEdge (s : State) : Answer := .next (if s.markActive then s else leadingEdge s)

/-- A window expiry that was deferred takes effect when its candidate is lost (R19). -/
def expireIfHeld (s : State) : State :=
  match s.reg.window with
  | none => s
  | some w => if w.status = .held then finishDrive s (afterMark (expireNow w s)) else s

/-- The short mark: counted and discarded; a held expiry then takes effect (R15, R19). -/
def shortMark (s : State) : State :=
  match s.reg.candidate with
  | none => s
  | some _ =>
    expireIfHeld ((s.setReg { s.reg with candidate := none }).setCnt
      { s.cnt with shortMarks := satInc s.cnt.shortMarks })

/-- MARK_TRAILING_EDGE (R15). -/
def execMarkTrailingEdge (s : State) : Answer :=
  .next (if s.markActive then
    shortMark (s.setPins { s.pins with mark := otherLevel s.profile.markLevel })
  else s)

/-- A stray mark (R18). -/
def strayMark (s : State) : State := s.setCnt { s.cnt with strayMarks := satInc s.cnt.strayMarks }

/-- A window accepts a mark at position m: OPEN or HELD, and m within its bounds (R18). -/
def MarkWindow.accepts (w : MarkWindow) (m : Pos) : Bool := w.status != .armed && w.within m

/-- A qualified mark at position m, by the registration state (R18, R20, R21). -/
def qualifiedMark (m : Pos) (s : State) : State :=
  match s.reg.state with
  | .search => finishDrive s (afterMark (takeMark (markInSearch s m) s))
  | .locking | .locked | .coasting =>
    match s.reg.window with
    | none => strayMark s
    | some w =>
      if w.accepts m then
        finishDrive s (afterMark (takeMark (markInWindow s m (signedDiff m w.expected)) s))
      else strayMark s

/-- QUALIFICATION_POINT (R15): the candidate's qualification point has been reached. -/
def execQualificationPoint (s : State) : Answer :=
  .next (match s.reg.candidate with
    | none => s
    | some c =>
      if s.mode.takesMarks && c.qualification.reached then
        qualifiedMark c.position (s.setReg { s.reg with candidate := none })
      else s)

/-- WINDOW_OPENING (R16). -/
def execWindowOpening (s : State) : Answer :=
  .next (match s.reg.window with
    | none => s
    | some w =>
      if s.mode.takesMarks && w.status == .armed && w.opening.reached then openWindow w s else s)

/-- WINDOW_EXPIRY (R19): the expiry position of an OPEN window has been reached. -/
def execWindowExpiry (s : State) : Answer :=
  .next (match s.reg.window with
    | none => s
    | some w =>
      if s.mode.takesMarks && w.status == .opened && w.expiry.reached then
        if w.holdsFor s.reg.candidate then holdWindow w s else finishDrive s (afterMark (expireNow w s))
      else s)

/-- VIRTUAL_MARK_TARGET (R22). -/
def execVirtualMarkTarget (s : State) : Answer :=
  .next (match s.reg.virtualTarget with
    | none => s
    | some e =>
      if s.mode.takesMarks && e.reached then finishDrive s (afterMark (takeVirtual e s)) else s)

end Sys2Proof.Machine
end

