-- ==== Sys2Proof/Machine/Transit.lean ====
section
/-!
DEFINITION. Commands of the transit map (05): LAST_STAMP_EXPIRY, CAMERA_POSITION, DECISION_POSITION, RECORD_EXIT,
PURGE_END. Each is the taking of a position event that its counter has reached (R5); in HALT none is taken (R6).
-/

namespace Sys2Proof.Machine

/-- LAST_STAMP_EXPIRY (R74). -/
def execLastStampExpiry (s : State) : Answer :=
  .next (match s.map.lastStamp with
    | none => s
    | some f =>
      if !s.mode.isHalt && f.expiry.reached then s.setMap { s.map with lastStamp := none } else s)

/-- The camera position of a record has been reached and is not yet taken (R81). -/
def RepeatRecord.cameraDue (r : RepeatRecord) : Bool :=
  match r.camera with
  | none => false
  | some e => e.reached && !r.cameraTaken

/-- The camera event of a record: trigger, notice, mark (R81). -/
def cameraEvent (r : RepeatRecord) (s : State) : State :=
  (pushNotice ⟨r.repeatNo, r.laneSet⟩ (requestCameraPulse s)).updateRecord r.repeatNo
    (fun r => { r with cameraTaken := true })

/-- CAMERA_POSITION (R81). -/
def execCameraPosition (n : RepeatNo) (s : State) : Answer :=
  .next (match s.record n with
    | none => s
    | some r => if !s.mode.isHalt && r.cameraDue then cameraEvent r s else s)

/-- The purge test, made once for a record (R84). -/
def testPurge (n : RepeatNo) (s : State) : State :=
  s.updateRecord n (fun r => if r.purgeTested then r else { r with purge := s.purgeInForce, purgeTested := true })

/-- Every label of the record has its disposition. -/
def RepeatRecord.decided (r : RepeatRecord) : Bool := allLanes.all (fun l => !r.undecided l)

/-- The record's decision is marked taken when all its lanes have decided (R84; Log 6). -/
def markDecided (n : RepeatNo) (s : State) : State :=
  s.updateRecord n (fun r => if r.decided then { r with decisionTaken := true } else r)

/-- The decision event of a record, for the lanes that decide now, in their order (R84, R98; Log 6). -/
def decisionEvent (n : RepeatNo) (lanes : List Lane) (s : State) : State :=
  markDecided n (lanes.foldl (fun s l => decideLane n l s) (testPurge n s))

/-- The decision position of a record has been reached, and some lane has not decided. -/
def RepeatRecord.decisionDue (r : RepeatRecord) : Bool := r.decision.reached && !r.decisionTaken

/-- DECISION_POSITION (R84). -/
def execDecisionPosition (n : RepeatNo) (lanes : List Lane) (s : State) : Answer :=
  .next (match s.record n with
    | none => s
    | some r =>
      if !s.mode.isHalt && r.decisionDue then finishDrive s (decisionEvent n lanes s) else s)

/-- The exit of a record, reported when it leaves the map empty (R86). -/
def exitRecord (n : RepeatNo) (s : State) : State :=
  reportDrained (s.setMap { s.map with records := removeFirst (fun r => r.repeatNo == n) s.map.records })

/-- The exit position has been reached. The decision position lies before it (R73), so every lane has decided; while
a lane's decision still waits for its row, so does the exit (Log 6). -/
def RepeatRecord.exitDue (r : RepeatRecord) : Bool := r.exit.reached && r.decisionTaken

/-- RECORD_EXIT (R86). -/
def execRecordExit (n : RepeatNo) (s : State) : Answer :=
  .next (match s.record n with
    | none => s
    | some r => if !s.mode.isHalt && r.exitDue then exitRecord n s else s)

/-- PURGE_END (R79). -/
def execPurgeEnd (s : State) : Answer :=
  .next (match s.map.purge with
    | none => s
    | some p =>
      if !s.mode.isHalt && p.reached then raiseEvent .purgeOff (s.setMap { s.map with purge := none }) else s)

end Sys2Proof.Machine
end

