-- ==== Sys2Proof/Machine/Dispatch.lean ====
section
/-! DEFINITION. The meaning of every command: one arm per constructor, one direct call each. -/

namespace Sys2Proof.Machine

def exec (i : Instr) (s : State) : Host.Outcome State Fault Refusal :=
  match i with
  | .deviceReset => Sys2Proof.Machine.execDeviceReset s
  | .countArrival a d => Sys2Proof.Machine.execCountArrival a d s
  | .skippedTransition a => Sys2Proof.Machine.execSkippedTransition a s
  | .speedSample => Sys2Proof.Machine.execSpeedSample s
  | .markLeadingEdge => Sys2Proof.Machine.execMarkLeadingEdge s
  | .markTrailingEdge => Sys2Proof.Machine.execMarkTrailingEdge s
  | .qualificationPoint => Sys2Proof.Machine.execQualificationPoint s
  | .windowOpening => Sys2Proof.Machine.execWindowOpening s
  | .windowExpiry => Sys2Proof.Machine.execWindowExpiry s
  | .virtualMarkTarget => Sys2Proof.Machine.execVirtualMarkTarget s
  | .firePosition => Sys2Proof.Machine.execFirePosition s
  | .knifeConfirm => Sys2Proof.Machine.execKnifeConfirm s
  | .confirmWindowExpiry => Sys2Proof.Machine.execConfirmWindowExpiry s
  | .knifePulseEnd => Sys2Proof.Machine.execKnifePulseEnd s
  | .knifeOffTimeEnd => Sys2Proof.Machine.execKnifeOffTimeEnd s
  | .spliceDetection => Sys2Proof.Machine.execSpliceDetection s
  | .lastStampExpiry => Sys2Proof.Machine.execLastStampExpiry s
  | .cameraPosition n => Sys2Proof.Machine.execCameraPosition n s
  | .cameraPulseEnd => Sys2Proof.Machine.execCameraPulseEnd s
  | .decisionPosition n ls => Sys2Proof.Machine.execDecisionPosition n ls s
  | .rejectEndExpiry l => Sys2Proof.Machine.execRejectEndExpiry l s
  | .recordExit n => Sys2Proof.Machine.execRecordExit n s
  | .purgeEnd => Sys2Proof.Machine.execPurgeEnd s
  | .ejectPosition l => Sys2Proof.Machine.execEjectPosition l s
  | .pusherPulseEnd l => Sys2Proof.Machine.execPusherPulseEnd l s
  | .pusherOffTimeEnd l => Sys2Proof.Machine.execPusherOffTimeEnd l s
  | .gateHoldEnd l => Sys2Proof.Machine.execGateHoldEnd l s
  | .senseLineChange o v => Sys2Proof.Machine.execSenseLineChange o v s
  | .inactiveTimeElapsed o => Sys2Proof.Machine.execInactiveTimeElapsed o s
  | .openLoadLatch o => Sys2Proof.Machine.execOpenLoadLatch o s
  | .stopInputActive => Sys2Proof.Machine.execStopInputActive s
  | .selectAssert k => Sys2Proof.Machine.execSelectAssert k s
  | .brokenFrame k f => Sys2Proof.Machine.execBrokenFrame k f s
  | .nop k => Sys2Proof.Machine.execNop k s
  | .readStatus k page => Sys2Proof.Machine.execReadStatus k page s
  | .readEvents k => Sys2Proof.Machine.execReadEvents k s
  | .ackEvents k m => Sys2Proof.Machine.execAckEvents k m s
  | .setEventMask k m => Sys2Proof.Machine.execSetEventMask k m s
  | .readRepeat k n part => Sys2Proof.Machine.execReadRepeat k n part s
  | .readRecord k slot => Sys2Proof.Machine.execReadRecord k slot s
  | .haltRequest k => Sys2Proof.Machine.execHaltRequest k s
  | .setProfileField k field value => Sys2Proof.Machine.execSetProfileField k field value s
  | .readProfile k selector field => Sys2Proof.Machine.execReadProfile k selector field s
  | .commitProfile k source n => Sys2Proof.Machine.execCommitProfile k source n s
  | .cancelCommit k => Sys2Proof.Machine.execCancelCommit k s
  | .setMode k target => Sys2Proof.Machine.execSetMode k target s
  | .resetTrack k => Sys2Proof.Machine.execResetTrack k s
  | .queueOrder k l tag job target nogap final => Sys2Proof.Machine.execQueueOrder k l tag job target nogap final s
  | .cancelOrder k l tag => Sys2Proof.Machine.execCancelOrder k l tag s
  | .laneResume k l => Sys2Proof.Machine.execLaneResume k l s
  | .laneClear k l => Sys2Proof.Machine.execLaneClear k l s
  | .lineReject k first count mask => Sys2Proof.Machine.execLineReject k first count mask s
  | .readCounters k group => Sys2Proof.Machine.execReadCounters k group s
  | .clearCounters k => Sys2Proof.Machine.execClearCounters k s
  | .setDiagEnable k knife gates pushers => Sys2Proof.Machine.execSetDiagEnable k knife gates pushers s
  | .verdict k n mask defectClass => Sys2Proof.Machine.execVerdict k n mask defectClass s
  | .fetchNotice k => Sys2Proof.Machine.execFetchNotice k s
  | .fetchRecord k selector => Sys2Proof.Machine.execFetchRecord k selector s
  | .ackRecord k slot seq => Sys2Proof.Machine.execAckRecord k slot seq s
  | .closeNow k l => Sys2Proof.Machine.execCloseNow k l s
  | .stopInputInactive => Sys2Proof.Machine.execStopInputInactive s

end Sys2Proof.Machine
end

