-- ==== Sys2Proof/Safety.lean ====
section
/-!
DEFINITION. What the manual promises of every state: the invariants that claims use, in the manual's terms. Each is a
decidable proposition over one state.
-/

namespace Sys2Proof.Machine

/-- P_eff lies within the clamp band of the active profile (R39). -/
abbrev PEffInBand (s : State) : Prop := bandLow s.profile ≤ s.reg.pEff ∧ s.reg.pEff ≤ bandHigh s.profile

/-- Every list within its bound: pending cuts (R50), splice zones (R57), records (R71), notices (R82), orders (R120),
and the stacks of a lane: at most four CLOSED, and room for the open one to close (R127). -/
abbrev WithinCapacity (s : State) : Prop :=
  s.pendingCuts ≤ 16 ∧ s.cut.splices.length ≤ 4 ∧ s.map.records.length ≤ 48 ∧ s.map.notices.length ≤ 16 ∧
  ∀ l : Lane, (s.lane l).orders.length ≤ 8 ∧
    (s.lane l).ejects.length + (if (s.lane l).openStack.isSome then 1 else 0) ≤ 4

/-- The ready list holds exactly the READY slots, none twice (R153). -/
abbrev ReadyListExact (s : State) : Prop :=
  s.log.ready.Nodup ∧ ∀ i : SlotIndex, i ∈ s.log.ready ↔ (s.slot i).isIn .ready = true

/-- For every lane, labels cut equals stacked plus rejected plus quarantined plus lost plus the undecided labels of
that lane in the map (R116); and a record whose decision is taken has no undecided label (R84). -/
abbrev LabelsBalance (s : State) : Prop :=
  (∀ l : Lane, (s.counts l).cut =
    (s.counts l).stacked + (s.counts l).rejected + (s.counts l).quarantined + (s.counts l).lost
      + BitVec.ofNat 32 (undecidedIn s.map.records l)) ∧
  ∀ r ∈ s.map.records, r.decisionTaken = true → r.decided = true

/-- A label is STACKED. -/
def Disposition.isStacked : Disposition → Bool
  | .stacked _ => true
  | .undecided | .rejected _ | .quarantined => false

/-- No label of a repeat that carries REG, SPLICE or SPACING, or that was purged, is STACKED (R109, R110); before the
purge test no label is decided (R84). -/
abbrev CondemnedNeverStacked (s : State) : Prop :=
  ∀ r ∈ s.map.records,
    ((r.reg || r.splice || r.spacing || r.purge) = true → ∀ l : Lane, r.dispositions[l].isStacked = false) ∧
    (r.purgeTested = false → r.purge = false ∧ ∀ l : Lane, r.dispositions[l] = .undecided)

/-- In SETUP and HALT the registration unit is idle in SEARCH (R32), no cut is pending and the scheduler is empty (R68),
the high-water marks stand at their counters (R9), and no knife pulse runs (R164). -/
abbrev IdleIsQuiet (s : State) : Prop :=
  s.mode.idle = true →
    s.reg.state = .search ∧ s.reg.lock = 0 ∧ s.reg.miss = 0 ∧ s.reg.candidate = none ∧ s.reg.window = none ∧
    s.reg.windowCounter = 0 ∧ s.reg.virtualTarget = none ∧ s.reg.lastReal = none ∧
    s.cut.schedule = [] ∧ s.cut.queue = [] ∧ s.cut.confirm = none ∧ s.cut.splices = [] ∧
    s.cut.overrunCarry = false ∧ s.cut.strikeCarry = false ∧ s.cut.lastFire = none ∧
    s.pos.web.highWater = s.pos.web.counter ∧ s.pos.belt.highWater = s.pos.belt.counter ∧
    s.act.knife.drive.isPulse = false

/-- In HALT no commit waits (R182), no pusher pulse runs or is pending (R165), and no gate holds (R168). -/
abbrev HaltIsStill (s : State) : Prop :=
  s.mode.isHalt = true →
    s.prof.commit = none ∧
    ∀ l : Lane, (s.pusher l).drive.isPulse = false ∧ (s.pusher l).pendingPulse = false ∧ (s.gate l).hold = none

/-- While STOP is active the part is in HALT (R188, R189). -/
abbrev StopMeansHalt (s : State) : Prop := s.pins.stop = true → s.mode.isHalt = true

/-- A latched knife or pusher stands in drive state LATCHED and in no other case does it; a latched gate takes no hold
(R172). -/
abbrev LatchesHold (s : State) : Prop :=
  (s.act.knife.latch.isSome = true ↔ s.act.knife.drive = .latched) ∧
  ∀ l : Lane, ((s.pusher l).latch.isSome = true ↔ (s.pusher l).drive = .latched) ∧
    ((s.gate l).latch.isSome = true → (s.gate l).hold = none)

/-- A commit that waits has a pending profile that passed validation and keeps the belt geometry (R178, R180, R181). -/
abbrev WaitingCommitValid (s : State) : Prop :=
  s.prof.commit.isSome = true →
    firstFailure s.prof.pending = none ∧ sameGeometry s.prof.pending s.prof.active = true

/-- Every link holds flags and mask only of events it carries (R195, R196). -/
abbrev EventsCarried (s : State) : Prop :=
  ∀ k ∈ [StationLink.line, StationLink.inspection, StationLink.delivery],
    (s.link k).flags &&& ~~~carriedEvents k = 0 ∧ (s.link k).mask &&& ~~~carriedEvents k = 0

/-- DRAINING lasts while a cut is pending, a confirm window is open, or a record is in the map (R186). -/
abbrev DrainingHasWork (s : State) : Prop :=
  s.mode.isDraining = true → (s.cut.isDrained && s.map.records.isEmpty) = false

/-- In RUN and DRY a virtual target is armed in SEARCH and a window in every other state, never both (R16, R22); a HELD
window has its candidate (R19). -/
abbrev WindowMatchesState (s : State) : Prop :=
  s.mode.takesMarks = true →
    (s.reg.virtualTarget.isSome = true ↔ s.reg.state = .search) ∧
    (s.reg.window.isSome = true ↔ s.reg.state ≠ .search) ∧
    ∀ w ∈ s.reg.window, w.status = .held → s.reg.candidate.isSome = true

/-- What the state of a lane says of the rest of the lane (R119, R126, R127, R136 to R138). -/
abbrev LaneStatesMean (s : State) : Prop :=
  ∀ l : Lane,
    ((s.lane l).state = .off ↔ LaneSet.has s.profile.laneMask l = false) ∧
    ((s.lane l).state = .stacking ↔ (s.lane l).openStack.isSome = true) ∧
    ((s.lane l).state = .idle → (s.lane l).orders = []) ∧
    ((s.lane l).gap ≠ 0 → (s.lane l).state = .changing) ∧
    ((s.lane l).state = .fault → (s.lane l).quarantine.isSome = true ∧ (s.lane l).ejects = []) ∧
    ((s.lane l).quarantine.isSome = true → s.laneLatched l = true) ∧
    (s.laneLatched l = true → (s.lane l).state = .fault ∨ (s.lane l).state = .off)

/-- The slot of a lane's open stack is FORMING and names the lane; the slots of its eject list are CLOSED, name the lane
and carry the sequence of their entry, each listed once (R148, R159). -/
abbrev LanesOwnTheirSlots (s : State) : Prop :=
  ∀ l : Lane,
    (∀ o ∈ (s.lane l).openStack, ∃ r ∈ (s.slot o.slot).record?, (s.slot o.slot).isIn .forming = true ∧ r.lane = l) ∧
    (∀ e ∈ (s.lane l).ejects, ∃ r ∈ (s.slot e.slot).record?,
      (s.slot e.slot).isIn .closed = true ∧ r.lane = l ∧ r.seq = e.seq) ∧
    ((s.lane l).ejects.map (·.slot)).Nodup

/-- Every FORMING slot is the open stack of the lane it names, and every CLOSED slot stands in the eject list of the
lane it names (R159). -/
abbrev SlotsHaveOwners (s : State) : Prop :=
  ∀ i : SlotIndex, ∀ r ∈ (s.slot i).record?,
    ((s.slot i).isIn .forming = true → ∃ o ∈ (s.lane r.lane).openStack, o.slot = i) ∧
    ((s.slot i).isIn .closed = true → i ∈ (s.lane r.lane).ejects.map (·.slot))

/-- No device reset has discarded the frame of a link: a request row finds its frame to take (R192). -/
abbrev FramesWhole (s : State) : Prop :=
  ∀ k ∈ [StationLink.line, StationLink.inspection, StationLink.delivery], (s.link k).phase ≠ .discarded

/-- The repeat numbers that the part holds: those of the records and of the pending cuts. -/
def State.numbersHeld (s : State) : List RepeatNo :=
  s.map.records.map (·.repeatNo) ++ s.cut.schedule.map (·.repeatNo) ++ s.cut.queue.map (·.repeatNo)

/-- The repeat numbers that the part holds differ from each other, and none of them is among the next 65 that mark events
will take: the numbers held lie behind the counter, not ahead of it (R27, R50, R71). -/
abbrev NumbersApart (s : State) : Prop :=
  s.numbersHeld.Nodup ∧ s.numbersHeld.all (fun n => 65 ≤ (n - s.reg.number).toNat) = true

/-- The numbers of the records in the map differ from each other (R71). -/
abbrev RecordsDistinct (s : State) : Prop := (s.map.records.map (·.repeatNo)).Nodup

/-- No enabled output has its sense line at the fault level. -/
abbrev SensesClear (s : State) : Prop := ∀ o ∈ allOutputs, s.faultPresent o = false

end Sys2Proof.Machine

namespace Sys2Proof

/-! ## Commands by kind -/

/-- The commands that move an input pin: mark edges, sense lines, STOP. -/
def Instr.movesPins : Instr → Bool
  | .markLeadingEdge | .markTrailingEdge | .senseLineChange _ _ | .stopInputActive | .stopInputInactive => true
  | _ => false

/-- What a row stands for: a frame that passes the checks of R192 stands for the request its words spell. -/
def Instr.spelled : Instr → Instr
  | .brokenFrame k f => if (f.refusal k).isNone then (f.command k).getD (.brokenFrame k f) else .brokenFrame k f
  | c => c

end Sys2Proof

namespace Sys2Proof.Machine

/-- Whether the position event that a row takes has been reached and waits for it; `none` for a command that is not
the row of a position event (R4, R5). -/
def State.eventReached (s : State) : Instr → Option Bool
  | .qualificationPoint => some (s.reg.candidate.any (fun c => c.qualification.reached))
  | .windowOpening => some (s.reg.window.any (fun w => w.status == .armed && w.opening.reached))
  | .windowExpiry => some (s.reg.window.any (fun w => w.status == .opened && w.expiry.reached))
  | .virtualMarkTarget => some (s.reg.virtualTarget.any (fun e => e.reached))
  | .firePosition => some s.cut.headReached
  | .confirmWindowExpiry => some (s.cut.confirm.any (fun w => w.expiry.reached))
  | .lastStampExpiry => some (s.map.lastStamp.any (fun f => f.expiry.reached))
  | .cameraPosition n => some ((s.record n).any (fun r => r.camera.any (fun e => e.reached) && !r.cameraTaken))
  | .decisionPosition n _ => some ((s.record n).any (fun r => r.decision.reached && !r.decisionTaken))
  | .recordExit n => some ((s.record n).any (fun r => r.exit.reached))
  | .purgeEnd => some (s.map.purge.any (fun e => e.reached))
  | .rejectEndExpiry l => some ((s.lane l).rejectEnd.any (fun f => f.expiry.reached))
  | .ejectPosition l => some ((s.lane l).ejects.head?.any (fun e => e.position.reached))
  | .gateHoldEnd l => some ((s.gate l).hold.any (fun e => e.reached))
  | _ => none

/-! ## The rows that bring a mark event, and those that apply a commit -/

/-- A position lies within the bounds of a window (R18). -/
def MarkWindow.bounds (w : MarkWindow) (p : Pos) : Bool :=
  atOrBeyond p w.opening.target && atOrBeyond w.expiry.target p

/-- The row brings a mark event, in RUN and DRY: a virtual target reached (R22); a qualified mark in SEARCH (R21), or within
the bounds of an OPEN or HELD window (R18); the expiry of an OPEN window with no candidate within its bounds, or of a HELD
one at the short mark of its candidate (R19). -/
def State.marksAt (s : State) (c : Instr) : Bool :=
  s.mode.takesMarks && match c with
    | .virtualMarkTarget => s.reg.virtualTarget.any (fun e => e.reached)
    | .qualificationPoint => s.reg.candidate.any (fun c => c.qualification.reached &&
        (s.reg.state == .search || s.reg.window.any (fun w => w.status != .armed && w.bounds c.position)))
    | .windowExpiry => s.reg.window.any (fun w => w.status == .opened && w.expiry.reached &&
        !s.reg.candidate.any (fun c => w.bounds c.position))
    | .markTrailingEdge => s.pins.mark == s.profile.markLevel && s.reg.candidate.isSome &&
        s.reg.window.any (fun w => w.status == .held)
    | _ => false

/-- The row applies the pending profile: a mark event at which the waiting commit comes to its point (R28), or an accepted
IMMEDIATE commit (R178). -/
def State.commitsAt (s : State) (c : Instr) : Bool :=
  match c with
  | .commitProfile .line 0 _ => s.prof.commit.isNone && !s.mode.isHalt && (firstFailure s.prof.pending).isNone &&
      !(s.mode.tracks && !(s.cut.schedule.isEmpty && s.cut.queue.isEmpty && s.map.records.isEmpty))
  | c => s.marksAt c && s.commitDue s.reg.number

/-- The reverse deficits (R9). -/
def State.webDeficit (s : State) : Nat := (s.pos.web.highWater - s.web).toNat
def State.beltDeficit (s : State) : Nat := (s.pos.belt.highWater - s.belt).toNat

/-- Both reverse deficits lie within a limit (R12). -/
abbrev DeficitsWithin (s : State) (limit : Nat) : Prop := s.webDeficit ≤ limit ∧ s.beltDeficit ≤ limit

/-! ## The registration unit as its tables give it -/

/-- One row of the summary of transitions (02, after R26). -/
structure RegRow where
  next : RegState
  lock : Nat
  miss : Nat
  reg : Bool
  raised : List Event
  deriving DecidableEq, Repr

/-- REG_WARN goes with REG in LOCKED and COASTING (R26). -/
def warnIf (reg : Bool) : List Event := if reg then [.regWarn] else []

/-- The rows of a real mark with error e, by state. -/
def markRow (p : Profile) (r : Registration) (e : Int) : RegRow :=
  let bad := decide ((p.tReg : Int) < e ∨ e < -(p.tReg : Int))
  match r.state with
  | .search => ⟨.locking, p.nLock, r.miss, true, []⟩
  | .locking => if r.lock ≤ 1 then ⟨.locked, 0, r.miss, true, [.regLocked]⟩ else ⟨.locking, r.lock - 1, r.miss, true, []⟩
  | .locked => ⟨.locked, r.lock, r.miss, bad, warnIf bad⟩
  | .coasting => ⟨.locked, r.lock, 0, bad, warnIf bad⟩

/-- The row of a coasted event of LOCKED or COASTING at which the miss count becomes `miss`. -/
def coastRow (p : Profile) (r : Registration) (miss : Nat) : RegRow :=
  if miss < p.cMax then ⟨.coasting, r.lock, miss, decide (p.grace < miss), warnIf (decide (p.grace < miss))⟩
  else ⟨.search, 0, 0, true, [.markLost, .regWarn]⟩

/-- The rows of a window expiry that takes effect, by state. -/
def expiryRow (p : Profile) (r : Registration) : RegRow :=
  match r.state with
  | .search | .locking => ⟨.search, 0, 0, true, []⟩
  | .locked => coastRow p r 1
  | .coasting => coastRow p r (r.miss + 1)

/-- The row of a virtual mark event. -/
def virtualRow (r : Registration) : RegRow := ⟨.search, r.lock, r.miss, true, []⟩

/-- A real mark in a window after a real mark is filtered (R29): the value before the clamp. -/
def Registration.unclamped (r : Registration) (p : Profile) (m : Pos) (err : Option Int) : Option Int :=
  match err, r.lastReal with
  | some _, some last =>
    some (r.pEff + filterStep ((((m - last).toNat : Nat) : Int) * 256 - r.pEff) p.filterShift)
  | _, _ => none

/-- The registration unit after a mark event at which no commit comes to its point (R16, R20 to R29, R38, R40). Events
are armed as waiting: that they are not already passed is `NextAhead`. -/
def Registration.afterEvent (r : Registration) (p : Profile) (kind : MarkKind) (m : Pos) (err : Option Int)
    (row : RegRow) : Registration :=
  let pEff := match r.unclamped p m err with
    | none => r.pEff
    | some x => if x < bandLow p then bandLow p else if bandHigh p < x then bandHigh p else x.toNat
  let expected := m + BitVec.ofNat 32 ((pEff + 128) / 256)
  let h := BitVec.ofNat 32 p.halfWindow
  { r with
    state := row.next, lock := row.lock, miss := row.miss, lastError := err, pEff := pEff
    number := r.number + 1, newest := some r.number, lastEvent := some ⟨kind, m, r.number⟩
    lastReal := if kind = .real then some m else none
    window := if row.next = .search then none
      else some ⟨.armed, expected, ⟨expected - h, false⟩, ⟨expected + h, false⟩⟩
    virtualTarget := if row.next = .search then some ⟨m + BitVec.ofNat 32 p.pNom, false⟩ else none }

/-- The web is short of every position the registration unit has armed. -/
abbrev NextAhead (web : Pos) (r : Registration) : Prop :=
  (∀ w ∈ r.window, atOrBeyond web w.opening.target = false ∧ atOrBeyond web w.expiry.target = false) ∧
  ∀ e ∈ r.virtualTarget, atOrBeyond web e.target = false

/-- The state that hands the mark event record to the cut scheduler (R28 to R30, R38). -/
def State.withMarkEvent (s : State) (kind : MarkKind) (m : Pos) (err : Option Int) (row : RegRow) : State :=
  let outside := match s.reg.unclamped s.profile m err with
    | none => false
    | some x => decide (x < bandLow s.profile ∨ bandHigh s.profile < x)
  raiseIf outside .stretchLimit
    (raiseEvents row.raised (s.setReg (s.reg.afterEvent s.profile kind m err row)))

/-- The record handed over (R30). -/
def State.markRecord (s : State) (kind : MarkKind) (m : Pos) (err : Option Int) (row : RegRow) : MarkRecord :=
  ⟨s.reg.number, kind, m, err, row.reg⟩

/-! ## The gate decision as its table gives it -/

/-- The lane opens a stack at this decision, if it can (check 5). -/
def LaneUnit.opens (u : LaneUnit) : Bool := u.state == .blocked || (u.state == .changing && u.gap == 0)

/-- The PURGE flag that the lanes of a record read: tested once (R84, R79). -/
def State.purgeFlag (s : State) (r : RepeatRecord) : Bool :=
  if r.purgeTested then r.purge
  else match s.map.purge with
    | none => false
    | some e => !atOrBeyond s.belt e.target

/-- The stack sequence a label decided STACKED would carry. -/
def State.stackingSeq (s : State) (l : Lane) : Seq :=
  if (s.lane l).opens then (s.lane l).nextSeq
  else match s.formingStack l with
    | some (_, q) => q.seq
    | none => 0

/-- The table of checks: whether each applies, and the disposition it gives (06, R104 to R115). -/
def State.gateTable (s : State) (r : RepeatRecord) (l : Lane) : List (Bool × Disposition) :=
  let u := s.lane l
  let p := s.profile
  [ (u.state == .off, .rejected .laneOff),
    (u.state == .fault, .quarantined),
    (u.state == .held, .rejected .laneHeld),
    (u.state == .idle, .rejected .noOrder),
    (u.opens && u.orders.isEmpty, .rejected .noOrder),
    (u.opens && allSlots.all (fun i => s.slot i != .free), .rejected .logFull),
    (u.opens && decide (4 ≤ u.ejects.length), .rejected .ejectBusy),
    (u.state == .changing && u.gap != 0, .rejected .changeGap),
    (s.purgeFlag r, .rejected .purge) ] ++
  [ (r.reg, .rejected .reg), (r.uncut, .rejected .uncut), (r.splice, .rejected .splice),
    (r.spacing, .rejected .spacing), (LaneSet.has r.lineLanes l, .rejected .line),
    (LaneSet.has r.vision l, .rejected .vision),
    (r.inspection && r.verdict == .awaited && p.noVerdict == .reject, .rejected .noVerdict),
    (u.rejectEnd.any (fun e => !atOrBeyond (r.stamp + BitVec.ofNat 32 p.gGate) (e.value + BitVec.ofNat 32 p.minClosed)),
      .rejected .gateMerge),
    (true, .stacked (s.stackingSeq l)) ]

/-- The disposition of the first check that applies. -/
def State.tableDisposition (s : State) (r : RepeatRecord) (l : Lane) : Disposition :=
  (((s.gateTable r l).find? (fun c => c.1)).map (fun c => c.2)).getD .undecided

/-! ## What the blocks do together, as the rules list it -/

/-- The actuator unit but for its filter times. -/
def Actuators.unfiltered (a : Actuators) : Actuators :=
  { a with
    knife := { a.knife with filter := .settling }
    gates := a.gates.map (fun g => { g with filter := .settling })
    pushers := a.pushers.map (fun p => { p with filter := .settling }) }

/-- The position unit with both high-water marks at their counters (R9). -/
def State.levelled (s : State) : PositionUnit :=
  { web := { s.pos.web with highWater := s.web }, belt := { s.pos.belt with highWater := s.belt } }

/-- The registration unit, idle (R32). -/
def State.idleReg (s : State) : Registration :=
  { s.reg with
    state := .search, lock := 0, miss := 0, candidate := none, window := none, virtualTarget := none
    windowCounter := 0, lastReal := none }

/-- The cut scheduler, emptied but for the line-reject range and the values of the latest cut (R68). -/
def State.emptiedCut (s : State) : CutScheduler :=
  { s.cut with
    schedule := [], headReached := false, queue := [], confirm := none, splices := [], overrunCarry := false
    strikeCarry := false, lastFire := none }

/-- The drive state of the knife, its pulse ended (R164). -/
def State.knifeStopped (s : State) : Drive :=
  match s.act.knife.drive with
  | .pulse _ => if s.profile.knifeOff = 0 then .free else .offTime s.profile.knifeOff
  | d => d

/-- HALT entered (R187), with what every block does at its entry (R9, R32, R68, R164, R165, R168, R182). The outputs driven
up to the entry restart their filter times (R170). In HALT a cause changes nothing. -/
def State.afterHalt (s : State) (cause : HaltCause) : State :=
  let a := (refreshFilters s s).act
  if s.mode.isHalt then s
  else raiseEvent .haltEntered
    { s with
      prof := { s.prof with commit := none, mode := .halt cause }
      pos := s.levelled
      reg := s.idleReg
      cut := s.emptiedCut
      lanes := Vector.ofFn (fun l =>
        { s.lane l with pulseStack := if (s.pusher l).drive.isPulse then none else (s.lane l).pulseStack })
      act := { a with
        knife := { a.knife with drive := s.knifeStopped }
        gates := a.gates.map (fun g => { g with hold := none })
        pushers := a.pushers.map (fun p =>
          { p with
            pendingPulse := false
            drive := match p.drive with
              | .pulse _ => .offTime s.profile.pusherOff
              | d => d }) } }

/-- SETUP entered (R9, R32, R68, R164); the outputs driven up to the entry restart their filter times (R170). -/
def State.afterSetup (s : State) : State :=
  let a := (refreshFilters s s).act
  { s with
    prof := { s.prof with mode := .setup }
    pos := s.levelled
    reg := s.idleReg
    cut := s.emptiedCut
    act := { a with knife := { a.knife with drive := s.knifeStopped } } }

/-- The quarantine record that a lane starts at the entry to FAULT (R137, R138). -/
def State.firstQuarantine (s : State) (l : Lane) : StackRecord :=
  match s.formingStack l with
  | some (_, q) => { q with target := 0, suspect := true, shouldReject := 0 }
  | none =>
    { lane := l, tag := 0, job := 0, seq := (s.lane l).nextSeq, target := 0, count := 0, first := none, last := none
      rejectsInSpan := 0, shouldReject := 0, closing := none, dry := s.mode.isDryKind, suspect := true
      ejectFault := false, notEjected := false }

/-- A lane that is told of a latch (R136, R137): LANE_FAULT; and in a state other than OFF and FAULT its entry to FAULT,
with its FORMING slot FREE and its closed stacks READY in close order, flagged EJECT_FAULT. -/
def State.laneFaulted (s : State) (l : Lane) : State :=
  let u := s.lane l
  if u.state = .off ∨ u.state = .fault then raiseEvent .laneFault s
  else raiseIf (!u.ejects.isEmpty) .recordReady (raiseEvent .laneFault
    ((s.setLane l { u with
        state := .fault
        gap := 0
        openStack := none
        ejects := []
        quarantine := some (s.firstQuarantine l)
        nextSeq := if (s.formingStack l).isSome then u.nextSeq else u.nextSeq + 1 }).setLog
      { slots := Vector.ofFn (fun i => match s.slot i with
          | .held .forming r => if u.openStack.any (fun o => o.slot == i) then .free else .held .forming r
          | .held .closed r =>
            if u.ejects.any (fun e => e.slot == i) then .held .ready { r with ejectFault := true } else .held .closed r
          | .held .ready r => .held .ready r
          | .free => .free)
        ready := s.log.ready ++ u.ejects.map (fun e => e.slot) }))

/-- The eject position of the entry behind the head lies ahead of the belt. -/
abbrev NextEjectAhead (s : State) (l : Lane) : Prop :=
  ∀ e ∈ (s.lane l).ejects.tail.head?, atOrBeyond s.belt e.position.target = false

/-- The head has left the eject list and its slot is READY with the record r (R128, R153); the next entry is armed. -/
def State.headReady (s : State) (l : Lane) (i : SlotIndex) (r : StackRecord) : State :=
  raiseEvent .recordReady
    ((s.setLane l { s.lane l with
        ejects := match (s.lane l).ejects.tail with
          | [] => []
          | e :: rest => { e with position := { e.position with reached := false } } :: rest }).setLog
      { slots := s.log.slots.set i.val (.held .ready r), ready := s.log.ready ++ [i] })

/-- A pulse starts on a lane's pusher for a stack (R128, R165). -/
def State.pulsedFor (s : State) (l : Lane) (i : SlotIndex) (seq : Seq) : State :=
  (s.setPusher l { s.pusher l with drive := .pulse s.profile.pusherPulse }).setLane l
    { s.lane l with pulseStack := some (i, seq) }

/-- The eject position of a stack whose last label has the stack stamp (R125, R131). -/
def State.ejectAt (s : State) (o : OpenStack) : Pos :=
  o.stamp.getD 0 + BitVec.ofNat 32 (s.profile.gStack + s.profile.labelLength + s.profile.settle)

/-- The short close of a lane's FORMING stack whose eject is not taken at once (R131). -/
def State.shortClosed (s : State) (l : Lane) (o : OpenStack) (q : StackRecord) (kind : ClosingKind) : State :=
  let u := s.lane l
  if q.count = 0 then
    raiseEvent .recordReady ((s.setLane l { u with openStack := none }).setLog
      { slots := s.log.slots.set o.slot.val (.held .ready { q with closing := some .aborted })
        ready := s.log.ready ++ [o.slot] })
  else
    (s.setLane l { u with
        openStack := none
        ejects := u.ejects ++ [⟨o.slot, q.seq, ⟨s.ejectAt o, false⟩, false⟩] }).setLog
      { s.log with slots := s.log.slots.set o.slot.val (.held .closed { q with closing := some kind }) }

/-- The record of a stack that an eject makes READY: flagged EJECT_FAULT when the pusher is LATCHED (R148, R165). -/
def State.ejectedRecord (s : State) (l : Lane) (r : StackRecord) : StackRecord :=
  if (s.pusher l).drive = .latched then { r with ejectFault := true } else r

/-- The eject of a stack closed short is not taken at once: it has no label, or stacks stand before it, or its position
lies ahead, or the mode is HALT. -/
abbrev EjectWaits (s : State) (l : Lane) (o : OpenStack) (q : StackRecord) : Prop :=
  q.count = 0 ∨ (s.lane l).ejects ≠ [] ∨ atOrBeyond s.belt (s.ejectAt o) = false ∨ s.mode.isHalt = true

/-- The short close of a lane's FORMING stack (R131), with the eject that is taken at once when the belt has passed the
position of a stack with labels, first of its lane: without a pulse in DRY and a dry drain or from a LATCHED pusher, with
one from a FREE pusher, and waiting as due for a busy one (R128 to R130, R165). -/
def State.shortEnded (s : State) (l : Lane) (o : OpenStack) (q : StackRecord) (kind : ClosingKind) : State :=
  let closed := { q with closing := some kind }
  let listed (due : Bool) : State := s.setLane l { s.lane l with
    openStack := none, ejects := [⟨o.slot, q.seq, ⟨s.ejectAt o, !due⟩, due⟩] }
  let ejected := (listed false).headReady l o.slot (s.ejectedRecord l closed)
  if EjectWaits s l o q then s.shortClosed l o q kind
  else if s.mode.isDryKind then ejected
  else match (s.pusher l).drive with
    | .free => ejected.pulsedFor l o.slot q.seq
    | .latched => ejected
    | .pulse _ | .offTime _ =>
      (listed true).setLog { s.log with slots := s.log.slots.set o.slot.val (.held .closed closed) }

end Sys2Proof.Machine
end

