-- ==== Sys2Proof/WellFormed.lean ====
section
/-!
DEFINITION. When a command is one that the press or a controller can send: its numbers fit the words the request
table gives them (R194), a broken frame is one that R192 refuses, a decision row names no lane twice. `exec` gives a
meaning to every command, well-formed or not.
-/

namespace Sys2Proof

/-- The number fits one payload word (R194). -/
def fitsWord (n : Nat) : Bool := n < 65536

/-- The number fits the half of a payload word that QUEUE_ORDER leaves a lane number (Log 31). -/
def fitsByte (n : Nat) : Bool := n < 256

/-- The frame holds the whole words of its bits, and fails a check of R192. -/
def Frame.isBroken (k : StationLink) (f : Frame) : Bool :=
  f.words.length == f.bits / 16 && (f.refusal k).isSome

/-- Well-formedness of a command. -/
def Instr.wellFormed : Instr → Bool
  | .decisionPosition _ lanes => decide lanes.Nodup
  | .brokenFrame k f => f.isBroken k
  | .readStatus _ page => fitsWord page
  | .readRepeat _ _ part => fitsWord part
  | .readRecord _ slot => fitsWord slot
  | .setProfileField _ field value => fitsWord field && decide (value < 4294967296)
  | .readProfile _ selector field => fitsWord selector && fitsWord field
  | .commitProfile _ source _ => fitsWord source
  | .setMode _ target => fitsWord target
  | .queueOrder _ lane _ job target _ _ => fitsByte lane && fitsWord job && fitsWord target
  | .cancelOrder _ lane _ => fitsWord lane
  | .laneResume _ lane => fitsWord lane
  | .laneClear _ lane => fitsWord lane
  | .lineReject _ _ count _ => fitsWord count
  | .readCounters _ group => fitsWord group
  | .fetchRecord _ selector => fitsWord selector
  | .ackRecord _ slot _ => fitsWord slot
  | .closeNow _ lane => fitsWord lane
  | .deviceReset | .countArrival _ _ | .skippedTransition _ | .speedSample | .markLeadingEdge | .markTrailingEdge
  | .qualificationPoint | .windowOpening | .windowExpiry | .virtualMarkTarget | .firePosition | .knifeConfirm
  | .confirmWindowExpiry | .knifePulseEnd | .knifeOffTimeEnd | .spliceDetection | .lastStampExpiry
  | .cameraPosition _ | .cameraPulseEnd | .rejectEndExpiry _ | .recordExit _ | .purgeEnd | .ejectPosition _
  | .pusherPulseEnd _ | .pusherOffTimeEnd _ | .gateHoldEnd _ | .senseLineChange _ _ | .inactiveTimeElapsed _
  | .openLoadLatch _ | .stopInputActive | .selectAssert _ | .nop _ | .readEvents _ | .ackEvents _ _
  | .setEventMask _ _ | .haltRequest _ | .cancelCommit _ | .resetTrack _ | .clearCounters _
  | .setDiagEnable _ _ _ _ | .verdict _ _ _ _ | .fetchNotice _ | .stopInputInactive => true

end Sys2Proof
end

