-- ==== Sys2Proof/Certificates/Slice0/Obligations.lean ====
section
/-!
DEFINITION. The statements for the provers, file by file of the manual. A statement about what a command does says the
whole next state, so that everything it does not name is unchanged. `refreshFilters s` restarts the filter times of
the outputs that are or were driven (`DrivenOutputsRestartTheirFilters` says exactly that); `SensesClear s` says that
no enabled output shows a fault.
-/

open Sys2Proof Sys2Proof.Machine

/-! ## The machine -/

/-- A step takes the command at the front of the queue and runs `exec` on the rest; on an empty queue the part idles.
The model's choice: Log 1. -/
def Obligations.StepRunsTheFrontCommand : Prop :=
  (∀ (c : Instr) (rest : List Instr) (s : State), step (s.setPending (c :: rest)) = exec c (s.setPending rest)) ∧
  ∀ s : State, s.pending = [] → step s = .next s

/-- Every command answers a next state; it takes nothing from the queue (Log 1), and only the rows of an input pin
move a pin (Log 5). -/
def Obligations.EveryCommandAnswersAState : Prop :=
  ∀ (c : Instr) (s : State), ∃ t, exec c s = .next t ∧ t.pending = s.pending ∧ (c.movesPins = false → t.pins = s.pins)

/-- What device reset leaves (R33, R49, R69, R89, R146, R160, R169, R173, R190, R199, R201): every block at its stated
value; HALT with cause STOP_INPUT and HALT_ENTERED on the three links when STOP is active (R188). A link in the middle
of a frame has the frame discarded (R192). The model's choices: the pins keep their levels, and the empty line-reject
range has first number 0 and mask 0 (Log 5); no camera pulse runs (Log 16); no output of a link is fixed before the
first assertion of select (Log 14). -/
def Obligations.DeviceResetRestoresTheStatedValues : Prop :=
  ∀ s : State,
    let phase (k : StationLink) : FramePhase := if (s.link k).phase = .idle then .idle else .discarded
    let links : Links :=
      { line := { Links.reset.line with phase := phase .line }
        inspection := { Links.reset.inspection with phase := phase .inspection }
        delivery := { Links.reset.delivery with phase := phase .delivery } }
    (s.pins.stop = false →
      exec .deviceReset s =
        .next { State.reset with
          links := links
          pins := s.pins
          races := s.races
          pending := s.pending }) ∧
    (s.pins.stop = true →
      exec .deviceReset s =
        .next (raiseEvent .haltEntered { State.reset with
          prof := { State.reset.prof with mode := .halt .stopInput }
          links := links
          pins := s.pins
          races := s.races
          pending := s.pending })) ∧
    State.reset.web = 0 ∧ State.reset.belt = 0 ∧ State.reset.pos.web.highWater = 0 ∧
    State.reset.pos.belt.highWater = 0 ∧ State.reset.pos.web.speed = 0 ∧ State.reset.pos.belt.speed = 0 ∧
    State.reset.reg.state = .search ∧ State.reset.reg.lock = 0 ∧ State.reset.reg.miss = 0 ∧
    State.reset.reg.candidate = none ∧ State.reset.reg.window = none ∧ State.reset.reg.windowCounter = 0 ∧
    State.reset.reg.lastEvent = none ∧ State.reset.reg.lastReal = none ∧ State.reset.reg.lastError = none ∧
    State.reset.reg.pEff = 6400000 ∧ State.reset.reg.number = 0 ∧ State.reset.reg.newest = none ∧
    State.reset.reg.virtualTarget = none ∧
    State.reset.cut.schedule = [] ∧ State.reset.cut.queue = [] ∧ State.reset.cut.lastFire = none ∧
    State.reset.cut.latest = none ∧ State.reset.cut.confirm = none ∧ State.reset.cut.overrunCarry = false ∧
    State.reset.cut.strikeCarry = false ∧ State.reset.cut.splices = [] ∧ State.reset.cut.range.remaining = 0 ∧
    State.reset.map.records = [] ∧ State.reset.map.lastStamp = none ∧ State.reset.map.normalRun = 0 ∧
    State.reset.map.purge = none ∧ State.reset.map.notices = [] ∧
    (∀ l : Lane,
      (State.reset.lane l).state = .off ∧ (State.reset.lane l).orders = [] ∧ (State.reset.lane l).openStack = none ∧
      (State.reset.lane l).ejects = [] ∧ (State.reset.lane l).pulseStack = none ∧ (State.reset.lane l).gap = 0 ∧
      (State.reset.lane l).nextSeq = 0 ∧ (State.reset.lane l).quarantine = none ∧
      (State.reset.lane l).rejectEnd = none ∧ State.reset.counts l = LaneCounts.zero) ∧
    (∀ i : SlotIndex, State.reset.slot i = .free) ∧ State.reset.log.ready = [] ∧
    (∀ o ∈ allOutputs, State.reset.driven o = false ∧ State.reset.latchOf o = none ∧ State.reset.enabled o = true ∧
      State.reset.filterOf o = .settling ∧ State.reset.outputPin o = .low) ∧
    State.reset.cameraPin = .low ∧
    State.reset.mode = .setup ∧ State.reset.prof.commit = none ∧ State.reset.prof.pending = State.reset.prof.active ∧
    (∀ k ∈ [StationLink.line, StationLink.inspection, StationLink.delivery],
      (State.reset.link k).phase = .idle ∧ (State.reset.link k).output = none ∧
      (State.reset.link k).slot.words = [0] ∧ (State.reset.link k).flags = 0 ∧
      (State.reset.link k).attn = false ∧ (State.reset.link k).snapshot = none ∧
      (State.reset.link k).snapshotNo = 0 ∧ (State.reset.link k).copy = none ∧
      (State.reset.link k).mask = carriedEvents k &&& ~~~Event.noticeReady.bit)

/-! ## Web and belt position (01) -/

/-- R1: the counters move at their own counts and at device reset, and at nothing else. -/
def Obligations.CountersMoveOnlyByCounts : Prop :=
  (∀ s : State,
    (∃ t, exec (.countArrival .web .forward) s = .next t ∧ t.web = s.web + 1 ∧ t.belt = s.belt) ∧
    (∃ t, exec (.countArrival .web .reverse) s = .next t ∧ t.web = s.web - 1 ∧ t.belt = s.belt) ∧
    (∃ t, exec (.countArrival .belt .forward) s = .next t ∧ t.belt = s.belt + 1 ∧ t.web = s.web) ∧
    (∃ t, exec (.countArrival .belt .reverse) s = .next t ∧ t.belt = s.belt - 1 ∧ t.web = s.web) ∧
    (∃ t, exec .deviceReset s = .next t ∧ t.web = 0 ∧ t.belt = 0)) ∧
  ∀ (c : Instr) (s : State), (∀ a d, c ≠ .countArrival a d) → c ≠ .deviceReset →
    ∃ t, exec c s = .next t ∧ t.web = s.web ∧ t.belt = s.belt

/-- A forward web count outside HALT: the counter, the high-water mark (R9), the window counter (R17), and the mark
`reached` on every event armed at the position that the web now takes (R5; the mark is the model's: Log 2). -/
def Obligations.ForwardWebCountReachesItsTargets : Prop :=
  ∀ s : State, s.mode.isHalt = false →
    let now := s.web + 1
    let hit : PosEvent → PosEvent := fun e => { e with reached := e.reached || e.target == now }
    exec (.countArrival .web .forward) s = .next
      (((s.setPos { s.pos with
            web := { s.pos.web with
              counter := now
              highWater := if s.mode = .setup ∨ (now - s.pos.web.highWater).toNat < 2 ^ 31 then now
                else s.pos.web.highWater } }).setReg
          { s.reg with
            windowCounter := if s.reg.window.any (fun w => w.status == .opened) then s.reg.windowCounter - 1
              else s.reg.windowCounter
            candidate := s.reg.candidate.map (fun c => { c with qualification := hit c.qualification })
            virtualTarget := s.reg.virtualTarget.map hit
            window := s.reg.window.map (fun w =>
              if w.status = .armed then { w with opening := hit w.opening, expiry := hit w.expiry }
              else if w.status = .opened then { w with expiry := hit w.expiry } else w) }).setCut
        { s.cut with
          headReached := s.cut.headReached || s.cut.schedule.head?.any (fun c => c.fire == now)
          confirm := s.cut.confirm.map (fun w => { w with expiry := hit w.expiry }) })

/-- The same for a forward belt count: the events of the records not yet taken, of the map, of the eject-list heads,
of the lanes and of the gates (R5, R74, R79, R113, R127, R167). -/
def Obligations.ForwardBeltCountReachesItsTargets : Prop :=
  ∀ s : State, s.mode.isHalt = false →
    let now := s.belt + 1
    let hit : PosEvent → PosEvent := fun e => { e with reached := e.reached || e.target == now }
    exec (.countArrival .belt .forward) s = .next
      ((((s.setPos { s.pos with
            belt := { s.pos.belt with
              counter := now
              highWater := if s.mode = .setup ∨ (now - s.pos.belt.highWater).toNat < 2 ^ 31 then now
                else s.pos.belt.highWater } }).setMap
          { s.map with
            records := s.map.records.map (fun r =>
              { r with
                camera := if r.cameraTaken then r.camera else r.camera.map hit
                decision := if r.decisionTaken then r.decision else hit r.decision
                exit := hit r.exit })
            lastStamp := s.map.lastStamp.map (fun f => { f with expiry := hit f.expiry })
            purge := s.map.purge.map hit }).setLanes
          (s.lanes.map (fun u =>
            { u with
              ejects := u.ejects.mapIdx (fun i e => if i = 0 ∧ e.due = false then { e with position := hit e.position } else e)
              rejectEnd := u.rejectEnd.map (fun f => { f with expiry := hit f.expiry }) }))).setAct
        { s.act with gates := s.act.gates.map (fun g => { g with hold := g.hold.map hit }) })

/-- A reverse count takes no event (R5). Within the tolerance it moves the counter, and its high-water mark only in
SETUP and HALT (R9), and with the web counter the counter of an OPEN window (R17); beyond the tolerance HALT is entered
with the cause of the counter (R10). -/
def Obligations.ReverseCountIsTestedAgainstTheLimit : Prop :=
  ∀ (a : Axis) (s : State),
    let e := s.encoder a
    let follows := s.mode = .setup ∨ s.mode.isHalt = true
    let back : EncoderState :=
      { e with counter := e.counter - 1, highWater := if follows then e.counter - 1 else e.highWater }
    let moved := (s.setEncoder a back).setReg
      { s.reg with
        windowCounter := if a = .web ∧ s.reg.window.any (fun w => w.status == .opened) then s.reg.windowCounter + 1
          else s.reg.windowCounter }
    let exceeded := ¬follows ∧ s.profile.reverseLimit < (e.highWater - (e.counter - 1)).toNat
    (¬exceeded → exec (.countArrival a .reverse) s = .next moved) ∧
    (exceeded → exec (.countArrival a .reverse) s =
      .next (haltFor (if a = .web then .reverseWeb else .reverseBelt) moved))

/-- R2: a skipped transition moves its skip count, saturating, and nothing else; both counts are 0 after device reset
and after CLEAR_COUNTERS, and READ_COUNTERS reports them. -/
def Obligations.SkippedTransitionsAreCounted : Prop :=
  ∀ s : State, FramesWhole s →
    exec (.skippedTransition .web) s = .next (s.setCnt { s.cnt with
      webSkips := if s.cnt.webSkips = 65535 then 65535 else s.cnt.webSkips + 1 }) ∧
    exec (.skippedTransition .belt) s = .next (s.setCnt { s.cnt with
      beltSkips := if s.cnt.beltSkips = 65535 then 65535 else s.cnt.beltSkips + 1 }) ∧
    (∃ t, exec .deviceReset s = .next t ∧ t.cnt.webSkips = 0 ∧ t.cnt.beltSkips = 0) ∧
    (∃ t, exec (.clearCounters .line) s = .next t ∧ t.cnt.webSkips = 0 ∧ t.cnt.beltSkips = 0) ∧
    (∃ t, exec (.readCounters .line 0) s = .next t ∧ (t.link .line).slot.payload = .faultCounts
      [s.cnt.strayMarks, s.cnt.shortMarks, s.cnt.misses, s.cnt.strayConfirms, s.cnt.lateVerdicts,
        s.cnt.noticeOverflows, s.cnt.webSkips, s.cnt.beltSkips])

/-- A speed sample stores the clamped net count of each counter since the last one and moves both sample bases; a clamp
of either sets SPEED_CLAMP on the line link (R7, R8). -/
def Obligations.SpeedSamplesAreClamped : Prop :=
  ∀ s : State,
    let raw : EncoderState → Int := fun e => (e.counter - e.base).toInt
    let sampled : EncoderState → EncoderState := fun e =>
      { e with speed := max (-32767) (min 32767 (raw e)), base := e.counter }
    let clamped := 32767 < |raw s.pos.web| ∨ 32767 < |raw s.pos.belt|
    let t := s.setPos { web := sampled s.pos.web, belt := sampled s.pos.belt }
    exec .speedSample s = .next (if clamped then raiseEvent .speedClamp t else t)

/-- In HALT no event is taken (R6): a forward count moves its counter and its high-water mark together (R9) and marks no
event, and the row of a position event has no effect. Nor has a row whose event has not been reached (R5; that the row
then does nothing is the model's choice: Log 2). -/
def Obligations.EventsAreTakenAtTheirRowsAndNeverInHalt : Prop :=
  (∀ s : State, s.mode.isHalt = true → s.reg.window = none →
    exec (.countArrival .web .forward) s =
      .next (s.setPos { s.pos with web := { s.pos.web with counter := s.web + 1, highWater := s.web + 1 } }) ∧
    exec (.countArrival .belt .forward) s =
      .next (s.setPos { s.pos with belt := { s.pos.belt with counter := s.belt + 1, highWater := s.belt + 1 } })) ∧
  ∀ (c : Instr) (s : State) (reached : Bool), s.eventReached c = some reached →
    s.mode.isHalt = true ∨ reached = false → exec c s = .next s

/-! ## Registration marks (02) -/

/-- A leading edge makes the input active and, in RUN and DRY, a candidate at the web position with its qualification
point armed m_min further on (R14). An input already active gives no edge, so that the row changes nothing: the model's
choice (Log 17). -/
def Obligations.LeadingEdgeMakesTheCandidate : Prop :=
  ∀ s : State,
    let t := s.setPins { s.pins with mark := s.profile.markLevel }
    (s.pins.mark ≠ s.profile.markLevel → s.mode = .run ∨ s.mode = .dry → 0 < s.profile.mMin →
      s.profile.mMin < 2 ^ 31 →
      exec .markLeadingEdge s = .next (t.setReg { s.reg with
        candidate := some ⟨s.web, ⟨s.web + BitVec.ofNat 32 s.profile.mMin, false⟩⟩ })) ∧
    (s.pins.mark ≠ s.profile.markLevel → s.mode ≠ .run → s.mode ≠ .dry → exec .markLeadingEdge s = .next t) ∧
    (s.pins.mark = s.profile.markLevel → exec .markLeadingEdge s = .next s)

/-- A trailing edge makes the input inactive; a candidate it finds is a short mark, discarded and counted (R15). With no
HELD window that is all. An input already inactive gives no edge, so that the row changes nothing: the model's choice
(Log 17). -/
def Obligations.TrailingEdgeMakesTheMarkShort : Prop :=
  ∀ s : State, (∀ w ∈ s.reg.window, w.status ≠ .held) →
    let t := s.setPins { s.pins with mark := if s.profile.markLevel = .high then .low else .high }
    (s.pins.mark = s.profile.markLevel → s.reg.candidate = none → exec .markTrailingEdge s = .next t) ∧
    (s.pins.mark = s.profile.markLevel → s.reg.candidate ≠ none →
      exec .markTrailingEdge s = .next ((t.setReg { s.reg with candidate := none }).setCnt { s.cnt with
        shortMarks := if s.cnt.shortMarks = 65535 then 65535 else s.cnt.shortMarks + 1 })) ∧
    (s.pins.mark ≠ s.profile.markLevel → exec .markTrailingEdge s = .next s)

/-- In SEARCH a qualified mark anywhere, and the virtual target, are mark events with the outcome of the table (R21,
R22), handed to the cut scheduler (R30), when no commit comes to its point and the next target lies ahead. That the
events of a mark event are raised before its record reaches the cut scheduler is the model's choice (Log 33). -/
def Obligations.SearchTakesMarksAndVirtualMarks : Prop :=
  ∀ s : State, s.mode = .run ∨ s.mode = .dry → s.reg.state = .search → s.commitDue s.reg.number = false →
    SensesClear s →
    (∀ c, s.reg.candidate = some c → c.qualification.reached = true →
      let u := s.setReg { s.reg with candidate := none }
      let row := markRow s.profile s.reg 0
      let t := u.withMarkEvent .real c.position none row
      NextAhead s.web t.reg →
      exec .qualificationPoint s =
        .next (refreshFilters s (receiveMark (u.markRecord .real c.position none row) t))) ∧
    (∀ e, s.reg.virtualTarget = some e → e.reached = true →
      let row := virtualRow s.reg
      let t := s.withMarkEvent .virtual e.target none row
      NextAhead s.web t.reg →
      exec .virtualMarkTarget s =
        .next (refreshFilters s (receiveMark (s.markRecord .virtual e.target none row) t)))

/-- Outside SEARCH a qualified mark whose edge lies within the bounds of an OPEN or HELD window is accepted with the
outcome of the table and the error against E (R18, R20, R23, R24, R26, R36); any other is stray and only counted (R18).
That the window counter keeps the value it has when the mark is accepted, as R17 says, and not E + H minus the mark
position, as the worked sequence of 02 says, is the model's choice (Log 26). That the events of a mark event are raised
before its record reaches the cut scheduler is the model's choice (Log 33). -/
def Obligations.QualifiedMarkMeetsItsWindow : Prop :=
  ∀ s : State, s.mode = .run ∨ s.mode = .dry → s.reg.state ≠ .search →
    ∀ c, s.reg.candidate = some c → c.qualification.reached = true →
    let u := s.setReg { s.reg with candidate := none }
    let accepts : MarkWindow → Prop := fun w =>
      w.status ≠ .armed ∧ atOrBeyond c.position w.opening.target = true ∧ atOrBeyond w.expiry.target c.position = true
    (∀ w, s.reg.window = some w → accepts w → s.commitDue s.reg.number = false → SensesClear s →
      let e := (c.position - w.expected).toInt
      let row := markRow s.profile s.reg e
      let t := u.withMarkEvent .real c.position (some e) row
      NextAhead s.web t.reg →
      exec .qualificationPoint s =
        .next (refreshFilters s (receiveMark (u.markRecord .real c.position (some e) row) t))) ∧
    ((∀ w ∈ s.reg.window, ¬accepts w) →
      exec .qualificationPoint s = .next (u.setCnt { s.cnt with
        strayMarks := if s.cnt.strayMarks = 65535 then 65535 else s.cnt.strayMarks + 1 }))

/-- A window opens at its opening position with its counter loaded (R16, R17): with the distance to its expiry, which is
twice the H with which the window was armed. That it is this H and not the H of the profile active at the opening is the
model's choice (Log 20). -/
def Obligations.WindowOpensWithItsCounterLoaded : Prop :=
  ∀ s : State, s.mode = .run ∨ s.mode = .dry → ∀ w, s.reg.window = some w → w.status = .armed →
    w.opening.reached = true →
    exec .windowOpening s = .next (s.setReg { s.reg with
      window := some { w with status := .opened }
      windowCounter := w.expiry.target - w.opening.target }) ∧
    ∀ h : Nat, h ≤ 25000 → w.opening.target = w.expected - BitVec.ofNat 32 h →
      w.expiry.target = w.expected + BitVec.ofNat 32 h →
      ∃ t, exec .windowOpening s = .next t ∧ t.reg.windowCounter.toNat = 2 * h

/-- The expiry of an OPEN window is deferred while a candidate lies within its bounds; otherwise it takes effect: a
coasted mark event at E with the outcome of the table, counted as a miss (R19, R23 to R26, R35). That the events of a
mark event are raised before its record reaches the cut scheduler is the model's choice (Log 33). -/
def Obligations.ExpiryIsHeldOrCoasts : Prop :=
  ∀ s : State, s.mode = .run ∨ s.mode = .dry → ∀ w, s.reg.window = some w → w.status = .opened →
    w.expiry.reached = true →
    let inside := ∃ c ∈ s.reg.candidate,
      atOrBeyond c.position w.opening.target = true ∧ atOrBeyond w.expiry.target c.position = true
    (inside → exec .windowExpiry s = .next (s.setReg { s.reg with
      window := some { w with status := .held, expiry := { w.expiry with reached := false } }, windowCounter := 0 })) ∧
    (¬inside → s.reg.state ≠ .search → s.commitDue s.reg.number = false → SensesClear s →
      let u := (s.setReg { s.reg with windowCounter := 0 }).setCnt { s.cnt with
        misses := if s.cnt.misses = 65535 then 65535 else s.cnt.misses + 1 }
      let row := expiryRow s.profile s.reg
      let t := u.withMarkEvent .coasted w.expected none row
      NextAhead s.web t.reg →
      exec .windowExpiry s =
        .next (refreshFilters s (receiveMark (u.markRecord .coasted w.expected none row) t)))

/-- A short mark in a HELD window is counted, and then the deferred expiry takes effect, a coasted mark event at E (R15,
R19). That the events of a mark event are raised before its record reaches the cut scheduler is the model's choice (Log
33). -/
def Obligations.ShortMarkReleasesTheHeldExpiry : Prop :=
  ∀ s : State, s.mode = .run ∨ s.mode = .dry → s.reg.state ≠ .search → s.pins.mark = s.profile.markLevel →
    s.reg.candidate ≠ none → ∀ w, s.reg.window = some w → w.status = .held →
    s.commitDue s.reg.number = false → SensesClear s →
    let u := ((s.setPins { s.pins with mark := if s.profile.markLevel = .high then .low else .high }).setReg
        { s.reg with candidate := none, windowCounter := 0 }).setCnt { s.cnt with
          shortMarks := if s.cnt.shortMarks = 65535 then 65535 else s.cnt.shortMarks + 1
          misses := if s.cnt.misses = 65535 then 65535 else s.cnt.misses + 1 }
    let row := expiryRow s.profile s.reg
    let t := u.withMarkEvent .coasted w.expected none row
    NextAhead s.web t.reg →
    exec .markTrailingEdge s =
      .next (refreshFilters s (receiveMark (u.markRecord .coasted w.expected none row) t))

/-- A commit whose point has come with a mark event is applied within it: the active profile is the pending one, no
commit waits, COMMIT_APPLIED is set on the line link, and a changed P_nom sends the unit to SEARCH with P_eff at the new
P_nom (R28, R31, R183), whichever row brings the mark event (`State.marksAt`): the virtual target, a qualified mark in
SEARCH or in its OPEN or HELD window, the expiry of a window, the short mark that releases a HELD one. A reverse deficit
beyond the new R_rev enters HALT, the web tested first (R12); that it does so after the mark event is the model's choice
(Log 10). -/
def Obligations.DueCommitIsAppliedAtTheMarkEvent : Prop :=
  ∀ (c : Instr) (s : State), s.marksAt c = true → s.commitDue s.reg.number = true →
    let new := s.prof.pending
    ∃ t, exec c s = .next t ∧ t.prof.active = new ∧ t.prof.pending = new ∧
      t.prof.commit = none ∧ t.flag .line .commitApplied = true ∧
      (new.pNom ≠ s.prof.active.pNom →
        t.reg.pEff = new.pNom * 256 ∧ t.reg.window = none ∧ t.reg.state = .search) ∧
      (SensesClear s → t.mode =
        if new.reverseLimit < s.webDeficit then .halt .reverseWeb
        else if new.reverseLimit < s.beltDeficit then .halt .reverseBelt else s.mode)

/-! ## Repeat length and cut position arithmetic (03) -/

/-- R37: the three cases of the filter step; it is the integer nearest to d / 2^g, a half goes away from zero, and the
rounding is symmetric. R41: K_eff is the floor of the rule, the nearest web count with a half rounded up, and K itself
when P_eff is P_nom × 256. -/
def Obligations.FilterAndScaleRoundHalvesAsStated : Prop :=
  (∀ (d : Int) (g : Nat),
    (g = 0 → filterStep d g = d) ∧
    (1 ≤ g → 0 ≤ d → filterStep d g = (d + 2 ^ (g - 1)) / 2 ^ g) ∧
    (1 ≤ g → d < 0 → filterStep d g = -((-d + 2 ^ (g - 1)) / 2 ^ g)) ∧
    2 * |2 ^ g * filterStep d g - d| ≤ 2 ^ g ∧
    (2 * |2 ^ g * filterStep d g - d| = 2 ^ g → |d| < |2 ^ g * filterStep d g|) ∧
    filterStep (-d) g = -filterStep d g) ∧
  ∀ k pEff pNom : Nat, 0 < pNom →
    scaledCutDistance k pEff pNom = (k * pEff + 128 * pNom) / (256 * pNom) ∧
    256 * pNom * scaledCutDistance k pEff pNom ≤ k * pEff + 128 * pNom ∧
    k * pEff + 128 * pNom < 256 * pNom * (scaledCutDistance k pEff pNom + 1) ∧
    (pEff = pNom * 256 → scaledCutDistance k pEff pNom = k)

/-- R3 for two positions that are not exactly 2^31 apart: the test is the modular difference, a position is at or beyond
itself, exactly one of three cases holds, and a distance below 2^31 leads to a position at or beyond. At exactly 2^31
none of the three cases holds under the definition of the rule (Log 25). R46: without an ordering reference F is kept;
with one, the placed fire position is at or beyond F_last + Q_min, is F itself when F is, and otherwise is F_last + Q_min
and the cut is flagged POSTPONED. -/
def Obligations.PositionsCompareAndCutsKeepTheirSpacing : Prop :=
  (∀ a b : Pos,
    (atOrBeyond a b = true ↔ (a.toNat + 2 ^ 32 - b.toNat) % 2 ^ 32 < 2 ^ 31) ∧
    (shortOf a b = true ↔ atOrBeyond a b = false) ∧
    atOrBeyond a a = true ∧
    (a - b ≠ 2147483648#32 →
      ((atOrBeyond a b = true ∧ a ≠ b) ∧ ¬(atOrBeyond b a = true ∧ b ≠ a) ∧ a ≠ b) ∨
      (¬(atOrBeyond a b = true ∧ a ≠ b) ∧ (atOrBeyond b a = true ∧ b ≠ a) ∧ a ≠ b) ∨
      (¬(atOrBeyond a b = true ∧ a ≠ b) ∧ ¬(atOrBeyond b a = true ∧ b ≠ a) ∧ a = b)) ∧
    (a - b = 2147483648#32 → atOrBeyond a b = false ∧ atOrBeyond b a = false ∧ a ≠ b) ∧
    ∀ d : Pos, d.toNat < 2 ^ 31 → atOrBeyond (b + d) b = true) ∧
  ∀ (f last : Pos) (q : Nat),
    orderedFire none f q = f ∧ mustPostpone none f q = false ∧
    atOrBeyond (orderedFire (some last) f q) (last + BitVec.ofNat 32 q) = true ∧
    (atOrBeyond f (last + BitVec.ofNat 32 q) = true →
      orderedFire (some last) f q = f ∧ mustPostpone (some last) f q = false) ∧
    (atOrBeyond f (last + BitVec.ofNat 32 q) = false →
      orderedFire (some last) f q = last + BitVec.ofNat 32 q ∧ mustPostpone (some last) f q = true)

/-! ## Knife, cut schedule and splices (04) -/

/-- A mark event record: the line-reject range (R54), the overrun of a record that finds 16 cuts pending (R52), and
otherwise the arithmetic of R41 to R48 and the placement of R51: the cut joins the schedule, or, when the web is already
at or beyond its fire position, is fired at once. -/
def Obligations.MarkRecordPlacesItsCut : Prop :=
  ∀ (m : MarkRecord) (s : State),
    let p := s.profile
    let inside := s.cut.range.remaining ≠ 0 ∧ s.cut.range.first = m.repeatNo
    let range : LineRange :=
      if inside then ⟨s.cut.range.first + 1, s.cut.range.remaining - 1, s.cut.range.mask⟩ else s.cut.range
    let kEff := (p.sensorToCut * s.reg.pEff + 128 * p.pNom) / (256 * p.pNom)
    let v := s.pos.web.speed
    let full := if v ≤ 0 ∨ p.latency = 0 then 0 else (v.toNat * p.latency + 500) / 1000
    let computed := m.position + BitVec.ofNat 32 kEff - BitVec.ofNat 32 (min full 8191)
    let reference := match s.cut.schedule.getLast? with
      | some newest => some newest.fire
      | none => s.cut.lastFire
    let postponed := reference.any (fun last => !atOrBeyond computed (last + BitVec.ofNat 32 p.qMin))
    let fire := if postponed then reference.getD 0 + BitVec.ofNat 32 p.qMin else computed
    let late := atOrBeyond s.web fire
    let c : Cut :=
      { repeatNo := m.repeatNo, kind := m.kind, regError := m.error, fire := fire, postponed := postponed, late := late,
        uncutCarry := s.cut.overrunCarry, reg := m.reg || postponed || late,
        lineLanes := if inside then s.cut.range.mask else 0, splice := false }
    let t := raiseIf (8191 < full) .leadLimit (s.setCut { s.cut with
      range := range, latest := some ⟨kEff, min full 8191, fire⟩, overrunCarry := false })
    (s.cut.schedule.length + s.cut.queue.length < 16 →
      receiveMark m s =
        if late then fireCut c t
        else t.setCut { t.cut with
          schedule := s.cut.schedule ++ [c]
          headReached := if s.cut.schedule = [] then false else s.cut.headReached }) ∧
    (16 ≤ s.cut.schedule.length + s.cut.queue.length →
      receiveMark m s = raiseEvent .cutOverrun
        ((s.setCut { s.cut with range := range, overrunCarry := true }).countLanes (fun l n =>
          if LaneSet.has p.laneMask l then { n with cut := n.cut + 1, lost := n.lost + 1 } else n)))

/-- The head whose fire position is taken leaves the schedule and is fired (R59); a fired cut is tested against the
splice list, which loses the zones passed, and sets the last fire position (R58); it is struck at once, or joins the
strike queue flagged LATE with cause REG when the knife is busy or earlier cuts wait (R60). -/
def Obligations.FiredCutIsStruckOrWaits : Prop :=
  (∀ (s : State) (c : Cut) (rest : List Cut), s.cut.schedule = c :: rest → s.mode.isHalt = false →
    s.cut.headReached = true → (∀ d ∈ rest.head?, atOrBeyond s.web d.fire = false) → SensesClear s →
    exec .firePosition s =
      .next (refreshFilters s (fireCut c (s.setCut { s.cut with schedule := rest, headReached := false })))) ∧
  ∀ (c : Cut) (s : State),
    let before := s.cut.lastFire.getD (c.fire - BitVec.ofNat 32 s.profile.pNom)
    let overlaps : Zone → Bool := fun z => atOrBeyond c.fire z.start && atOrBeyond z.stop (before + 1)
    let tested := { c with splice := c.splice || s.cut.splices.any overlaps }
    let t := s.setCut { s.cut with
      splices := s.cut.splices.filter (fun z => !atOrBeyond c.fire z.stop), lastFire := some c.fire }
    let waits := s.mode.isDryKind = false ∧
      (s.cut.queue ≠ [] ∨ s.act.knife.drive ≠ .free ∧ s.act.knife.drive ≠ .latched)
    fireCut c s =
      if waits then t.setCut { t.cut with queue := s.cut.queue ++ [{ tested with late := true, reg := true }] }
      else strike tested t

/-- The steps of a strike (R61): an open confirm window ends as a miss (R65), the strike carry marks the cut, a FREE
knife starts its pulse (R164), the cut is handed to the map with the belt position, a confirm window opens for a field
above 0 (R63). In DRY and a dry drain there is no pulse and no window (R62). -/
def Obligations.StrikeFollowsItsSteps : Prop :=
  ∀ (c : Cut) (s : State),
    (s.mode.isDryKind = true →
      strike c s = enterMap { c with uncutCarry := c.uncutCarry || s.cut.strikeCarry } s.belt
        (s.setCut { s.cut with strikeCarry := false })) ∧
    (s.mode.isDryKind = false →
      let missed := match s.cut.confirm with
        | none => s
        | some w => s.updateRecord w.repeatNo (fun r => { r with uncut := true })
      let opened : Option ConfirmWindow :=
        if s.profile.confirmWindow = 0 then none
        else some ⟨c.repeatNo, PosEvent.arm s.web (s.web + BitVec.ofNat 32 s.profile.confirmWindow)⟩
      strike c s = enterMap { c with uncutCarry := c.uncutCarry || s.cut.strikeCarry || s.cut.confirm.isSome } s.belt
        ((missed.setKnife { s.act.knife with
            drive := if s.act.knife.drive = .free then .pulse s.profile.knifePulse else s.act.knife.drive }).setCut
          { s.cut with strikeCarry := false, confirm := opened }))

/-- A KCONF edge confirms the open window's strike and closes it (R63), and is a stray, only counted, when no window is
open (R66). The expiry of the window is a miss: the record takes UNCUT and the strike carry is set (R64). Closing the
last window of a drained part ends DRAINING (R186). -/
def Obligations.ConfirmWindowEndsConfirmedOrMissed : Prop :=
  ∀ s : State,
    let lastWork := s.mode.isDraining = true ∧ s.cut.schedule = [] ∧ s.cut.queue = [] ∧ s.map.records = []
    (s.cut.confirm = none →
      exec .knifeConfirm s = .next (s.setCnt { s.cnt with
        strayConfirms := if s.cnt.strayConfirms = 65535 then 65535 else s.cnt.strayConfirms + 1 })) ∧
    ∀ w, s.cut.confirm = some w →
      let confirmed := (s.updateRecord w.repeatNo (fun r => { r with confirmed := true })).setCut
        { s.cut with confirm := none }
      let missed := (s.updateRecord w.repeatNo (fun r => { r with uncut := true })).setCut
        { s.cut with confirm := none, strikeCarry := true }
      (¬lastWork → exec .knifeConfirm s = .next confirmed) ∧
      (lastWork → ∃ t, exec .knifeConfirm s = .next t ∧ t.mode = .setup ∧ t.flag .line .drained = true) ∧
      (s.mode.isHalt = false → w.expiry.reached = true →
        (¬lastWork → exec .confirmWindowExpiry s = .next missed) ∧
        (lastWork → ∃ t, exec .confirmWindowExpiry s = .next t ∧ t.mode = .setup ∧ t.flag .line .drained = true))

/-- The knife's drive states (R164): the end of a pulse starts the off time, or frees the knife when that is 0; the end
of the off time frees it; a knife that becomes FREE strikes the oldest cut of the strike queue (R60). That a row which
finds no interval of its kind running changes nothing is the model's choice (Log 3). -/
def Obligations.KnifeTimersFreeTheKnife : Prop :=
  ∀ s : State, SensesClear s →
    let freed := s.setKnife { s.act.knife with drive := .free }
    (∀ w : Nat, s.act.knife.drive = .pulse w →
      (s.profile.knifeOff ≠ 0 → exec .knifePulseEnd s =
        .next (refreshFilters s (s.setKnife { s.act.knife with drive := .offTime s.profile.knifeOff }))) ∧
      (s.profile.knifeOff = 0 → s.cut.queue = [] → exec .knifePulseEnd s = .next (refreshFilters s freed)) ∧
      (∀ c rest, s.cut.queue = c :: rest → s.profile.knifeOff = 0 → exec .knifePulseEnd s =
        .next (refreshFilters s (strike c (freed.setCut { s.cut with queue := rest }))))) ∧
    (∀ n : Nat, s.act.knife.drive = .offTime n →
      (s.cut.queue = [] → exec .knifeOffTimeEnd s = .next (refreshFilters s freed)) ∧
      (∀ c rest, s.cut.queue = c :: rest → exec .knifeOffTimeEnd s =
        .next (refreshFilters s (strike c (freed.setCut { s.cut with queue := rest }))))) ∧
    (s.act.knife.drive.isPulse = false → exec .knifePulseEnd s = .next s) ∧
    (s.act.knife.drive.isBusy = false ∨ s.act.knife.drive.isPulse = true → exec .knifeOffTimeEnd s = .next s)

/-- A splice detection in RUN, DRY and DRAINING forms the zone of R56, which joins the list at its place by start, or in
a full list is merged with the last zone (R57); SPLICE_SEEN, and SPLICE_MERGED at a merge, are set on the line link; the
splice mark of a waiting commit is set (R181). In SETUP and HALT the edge is ignored. -/
def Obligations.SpliceDetectionFormsAZone : Prop :=
  ∀ s : State,
    let p := s.profile
    let at_ := s.web + BitVec.ofNat 32 p.spliceDistance
    let z : Zone := ⟨at_ - BitVec.ofNat 32 p.splicePre, at_ + BitVec.ofNat 32 p.splicePost⟩
    let insert : Zone → List Zone → List Zone := fun z zs =>
      zs.takeWhile (fun y => atOrBeyond z.start y.start) ++ z :: zs.dropWhile (fun y => atOrBeyond z.start y.start)
    let marked := s.setProf { s.prof with commit := s.prof.commit.map (fun c => { c with spliceMark := true }) }
    (s.mode = .setup ∨ s.mode.isHalt = true → exec .spliceDetection s = .next s) ∧
    (s.mode ≠ .setup → s.mode.isHalt = false → s.cut.splices.length < 4 →
      exec .spliceDetection s = .next (raiseEvent .spliceSeen
        (marked.setCut { s.cut with splices := insert z s.cut.splices }))) ∧
    (s.mode ≠ .setup → s.mode.isHalt = false → 4 ≤ s.cut.splices.length →
      ∀ last, s.cut.splices.getLast? = some last →
      let merged : Zone :=
        ⟨if atOrBeyond z.start last.start then last.start else z.start,
          if atOrBeyond z.stop last.stop then z.stop else last.stop⟩
      exec .spliceDetection s = .next (raiseEvent .spliceMerged (raiseEvent .spliceSeen
        (marked.setCut { s.cut with splices := insert merged s.cut.splices.dropLast }))))

/-! ## The transit map (05) -/

/-- The entry of a struck cut (R72 to R76, R78): the new record with every field of R71, the last stamp, the NORMAL run,
purge, the events of its spacing class, the labels counted cut; and nothing else. A strike that finds 48 records (R77):
no record, each active lane's label counted cut and lost, MAP_FULL, purge started or moved out from the stamp (R78), the
last stamp set, the NORMAL run 0; and nothing else. With σ_j = 0 a spacing of 0 is TIGHT, which is the model's choice
(Log 27). -/
def Obligations.StrikesEnterTheMap : Prop :=
  (∀ (c : Cut) (t : Pos) (s : State), s.map.records.length < 48 →
    let p := s.profile
    let cls : Spacing := match s.map.lastStamp with
      | none => .normal
      | some f =>
        let d := (t - f.value).toInt
        if d < p.sigmaJam then .jammed else if d < p.sigmaTight then .tight
        else if d < p.sigmaWarn then .near else .normal
    let inspected := p.inspectionRequired && p.laneMask != 0
    let r : RepeatRecord :=
      { repeatNo := c.repeatNo, kind := c.kind, regError := c.regError, fire := c.fire, stamp := t,
        postponed := c.postponed, late := c.late, uncutCarry := c.uncutCarry, confirmed := false,
        laneSet := p.laneMask, reg := c.reg, uncut := c.uncutCarry, splice := c.splice,
        spacing := cls == .tight || cls == .jammed, lineLanes := c.lineLanes, spacingClass := cls,
        inspection := inspected, verdict := if inspected then .awaited else .notRequired, vision := 0,
        defectClass := none,
        camera := if inspected then some (PosEvent.arm s.belt (t + BitVec.ofNat 32 p.gCam)) else none,
        cameraTaken := false,
        decision := PosEvent.arm s.belt (t + BitVec.ofNat 32 p.gGate - BitVec.ofNat 32 p.gatePre),
        purgeTested := false, decisionTaken := false,
        exit := PosEvent.arm s.belt (t + BitVec.ofNat 32 (p.gStack + p.labelLength)),
        dispositions := Vector.replicate 8 .undecided, dry := s.mode.isDryKind, purge := false }
    let run := if s.map.normalRun = 65535 then 65535 else s.map.normalRun + 1
    let clears := p.autoClear ≠ 0 ∧ p.autoClear ≤ run.toNat
    let candidateEnd := t + BitVec.ofNat 32 (p.gGate + p.labelLength + p.purgeTail)
    let u := enterMap c t s
    u.map =
      { records := s.map.records ++ [r]
        lastStamp := some ⟨t, PosEvent.arm s.belt (t + 1073741824#32)⟩
        normalRun := if cls = .normal ∧ ¬clears then run else 0
        purge := if cls ≠ .jammed then s.map.purge
          else match s.map.purge with
            | none => some (PosEvent.arm s.belt candidateEnd)
            | some e => if atOrBeyond candidateEnd e.target then some (PosEvent.arm s.belt candidateEnd) else some e
        notices := s.map.notices } ∧
    u = ((match cls with
        | .normal => if clears then s.setLink .line { s.links.line with flags := s.links.line.flags &&& ~~~0x208#32 } else s
        | .near | .tight => raiseEvent .spacingWarn s
        | .jammed => raiseIf s.map.purge.isNone .purgeOn (raiseEvent .jam s)).setMap u.map).countLanes
      (fun l n => if LaneSet.has p.laneMask l then { n with cut := n.cut + 1 } else n)) ∧
  ∀ (c : Cut) (t : Pos) (s : State), 48 ≤ s.map.records.length →
    let p := s.profile
    let candidateEnd := t + BitVec.ofNat 32 (p.gGate + p.labelLength + p.purgeTail)
    enterMap c t s =
      ((raiseIf s.map.purge.isNone .purgeOn (raiseEvent .mapFull s)).setMap
        { s.map with
          lastStamp := some ⟨t, PosEvent.arm s.belt (t + 1073741824#32)⟩
          normalRun := 0
          purge := match s.map.purge with
            | none => some (PosEvent.arm s.belt candidateEnd)
            | some e =>
              if atOrBeyond candidateEnd e.target then some (PosEvent.arm s.belt candidateEnd) else some e }).countLanes
        (fun l n => if LaneSet.has p.laneMask l then { n with cut := n.cut + 1, lost := n.lost + 1 } else n)

/-- The camera event of a record (R81): the trigger pulse, absorbed by one that runs (R166), the notice, the oldest
being dropped from a full queue (R82), the camera marked taken. The end of the pulse stops the trigger (R166). -/
def Obligations.CameraEventTriggersAndNotifies : Prop :=
  (∀ (n : RepeatNo) (s : State) (r : RepeatRecord), s.record n = some r → s.mode.isHalt = false →
    r.camera.any (fun e => e.reached) = true → r.cameraTaken = false →
    let taken := (s.updateRecord n (fun r => { r with cameraTaken := true })).setAct { s.act with
      camera := some (s.act.camera.getD s.profile.cameraPulse) }
    (s.map.notices.length < 16 →
      exec (.cameraPosition n) s = .next (raiseEvent .noticeReady
        (taken.setMap { taken.map with notices := s.map.notices ++ [⟨n, r.laneSet⟩] }))) ∧
    (16 ≤ s.map.notices.length →
      exec (.cameraPosition n) s = .next (raiseEvent .noticeReady (raiseEvent .noticeOverflow
        ((taken.setMap { taken.map with notices := s.map.notices.tail ++ [⟨n, r.laneSet⟩] }).setCnt { s.cnt with
          noticeOverflows := if s.cnt.noticeOverflows = 65535 then 65535 else s.cnt.noticeOverflows + 1 }))))) ∧
  ∀ s : State, exec .cameraPulseEnd s = .next (s.setAct { s.act with camera := none })

/-- The decision event of a record (R84, R85): purge is tested once for the record, each lane that decides now gets its
one disposition from UNDECIDED, the decision is marked taken when no lane is left, and nothing else of that record or
of another changes. That a row may take only some of the lanes is the model's reading of R98 (Log 6). -/
def Obligations.DecisionTestsPurgeAndDecidesOnce : Prop :=
  ∀ (n : RepeatNo) (lanes : List Lane) (s : State) (r : RepeatRecord), s.record n = some r → s.mode.isHalt = false →
    r.decision.reached = true → r.decisionTaken = false →
    ∃ t, exec (.decisionPosition n lanes) s = .next t ∧ ∃ r', t.record n = some r' ∧
      r' = { r with
        purge := s.purgeFlag r
        purgeTested := true
        dispositions := r'.dispositions
        decisionTaken := decide (∀ l : Lane, r'.undecided l = false) } ∧
      (∀ l : Lane, l ∉ lanes ∨ r.undecided l = false → r'.dispositions[l] = r.dispositions[l]) ∧
      (∀ l ∈ lanes, r'.undecided l = false) ∧
      t.map = { s.map with records := updateFirst (fun q => q.repeatNo == n) (fun _ => r') s.map.records }

/-- Records, and purge, end at their events: LAST_STAMP_EXPIRY (R74), PURGE_END with PURGE_OFF (R79), REJECT_END_EXPIRY
(R113), GATE_HOLD_END (R167), and RECORD_EXIT (R86), which ends DRAINING when it leaves nothing to do (R186). That an
exit whose record has a lane still to decide waits is the model's choice (Log 6). -/
def Obligations.TakenEventsRemoveWhatTheyEnd : Prop :=
  ∀ s : State, s.mode.isHalt = false →
    (∀ f, s.map.lastStamp = some f → f.expiry.reached = true →
      exec .lastStampExpiry s = .next (s.setMap { s.map with lastStamp := none })) ∧
    (∀ e, s.map.purge = some e → e.reached = true →
      exec .purgeEnd s = .next (raiseEvent .purgeOff (s.setMap { s.map with purge := none }))) ∧
    (∀ l : Lane, ∀ f, (s.lane l).rejectEnd = some f → f.expiry.reached = true →
      exec (.rejectEndExpiry l) s = .next (s.setLane l { s.lane l with rejectEnd := none })) ∧
    (∀ l : Lane, SensesClear s → ∀ e, (s.gate l).hold = some e → e.reached = true →
      exec (.gateHoldEnd l) s = .next (refreshFilters s (s.setGate l { s.gate l with hold := none }))) ∧
    ∀ n : RepeatNo, ∀ r, s.record n = some r → r.exit.reached = true →
      let t := s.setMap { s.map with records := s.map.records.eraseP (fun q => q.repeatNo == n) }
      let ends := s.mode.isDraining = true ∧ s.cut.schedule = [] ∧ s.cut.queue = [] ∧ s.cut.confirm = none ∧
        t.map.records = []
      (r.decisionTaken = false → exec (.recordExit n) s = .next s) ∧
      (r.decisionTaken = true → ¬ends → exec (.recordExit n) s = .next t) ∧
      (r.decisionTaken = true → ends →
        ∃ u, exec (.recordExit n) s = .next u ∧ u.mode = .setup ∧ u.flag .line .drained = true ∧ u.map = t.map)

/-! ## Verdicts and gate decisions (06) -/

/-- The disposition a lane gives its label is that of the first of the twelve checks that applies (R104 to R115), for
every lane that decides at the row, and for a lane that opens a stack when it is the first to reach the log. Checks 5 and 6
act on the lane: a lane that opens takes its oldest order into the lowest free slot, FORMING with the fields of R123, and
its label is the first that is stacked, or rejected in the span (R107, R122, R123); an opening that fails leaves the lane
BLOCKED, with LOG_FULL when no slot was free (R151), and a lane without an order IDLE; the change gap counts down (R108). -/
def Obligations.GateDecisionFollowsTheTable : Prop :=
  (∀ (n : RepeatNo) (lanes : List Lane) (l : Lane) (s : State) (r : RepeatRecord), s.record n = some r →
    s.mode.isHalt = false → r.decision.reached = true → r.decisionTaken = false → r.undecided l = true →
    l ∈ lanes → ((s.lane l).opens = true → lanes.head? = some l) → LaneStatesMean s → LanesOwnTheirSlots s →
    ∃ t, exec (.decisionPosition n lanes) s = .next t ∧ ∃ r', t.record n = some r' ∧
      r'.dispositions[l] = s.tableDisposition r l) ∧
  ∀ (n : RepeatNo) (l : Lane) (s : State) (r : RepeatRecord), s.record n = some r → s.mode.isHalt = false →
    r.decision.reached = true → r.decisionTaken = false → r.undecided l = true → SensesClear s →
    let u := s.lane l
    let p := s.profile
    ∃ t, exec (.decisionPosition n [l]) s = .next t ∧
      let lane (v : LaneUnit) : Prop := t.lanes = s.lanes.set l.val { v with rejectEnd := (t.lane l).rejectEnd }
      let slot (i : SlotIndex) (x : Slot) : Prop := t.log = { s.log with slots := s.log.slots.set i.val x }
      (u.state = .changing → u.gap ≠ 0 → lane { u with gap := u.gap - 1 } ∧ t.log = s.log ∧ t.links = s.links) ∧
      (u.opens = true → u.orders = [] → lane { u with state := .idle } ∧ t.log = s.log ∧ t.links = s.links) ∧
      (u.opens = true → u.orders ≠ [] → (∀ i, s.slot i ≠ .free) →
        lane { u with state := .blocked } ∧ t.log = s.log ∧ t.links = (raiseEvent .logFull s).links) ∧
      (u.opens = true → u.orders ≠ [] → (∃ i, s.slot i = .free) → 4 ≤ u.ejects.length →
        lane { u with state := .blocked } ∧ t.log = s.log ∧ t.links = s.links) ∧
      (u.opens = true → u.ejects.length < 4 → ∀ (ord : Order) (rest : List Order), u.orders = ord :: rest →
        ∀ i : SlotIndex, s.slot i = .free → (∀ j < i, s.slot j ≠ .free) →
        let opened (stamp : Option Pos) : LaneUnit := { u with
          state := .stacking, orders := rest, gap := 0, nextSeq := u.nextSeq + 1
          openStack := some ⟨i, ord.nogap, ord.final, stamp⟩ }
        let q : StackRecord :=
          { lane := l, tag := ord.tag, job := ord.job, seq := u.nextSeq, target := ord.target, count := 0, first := none
            last := none, rejectsInSpan := 0, shouldReject := 0, closing := none, dry := s.mode.isDryKind
            suspect := false, ejectFault := false, notEjected := false }
        let q' := { q with count := 1, first := some n, last := some n, dry := q.dry || r.dry }
        let position := r.stamp + BitVec.ofNat 32 (p.gStack + p.labelLength + p.settle)
        (∀ cause, s.tableDisposition r l = .rejected cause →
          lane (opened none) ∧ slot i (.held .forming { q with rejectsInSpan := 1 }) ∧ t.links = s.links) ∧
        (s.tableDisposition r l = .stacked u.nextSeq →
          (1 < ord.target → lane (opened (some r.stamp)) ∧ slot i (.held .forming q') ∧ t.links = s.links) ∧
          (ord.target ≤ 1 → u.ejects ≠ [] ∨ atOrBeyond s.belt position = false →
            lane { opened none with
              openStack := none
              ejects := u.ejects ++ [⟨i, u.nextSeq, ⟨position, false⟩, false⟩]
              state := if ord.final then .held else .changing
              gap := if ord.final ∨ ord.nogap then 0 else p.changeGap } ∧
            slot i (.held .closed { q' with closing := some .target }) ∧ t.links = s.links)))

/-- A label decided STACKED is counted into the FORMING stack (R124, R116); at the target the stack becomes CLOSED with
kind TARGET and joins the eject list with its position, and the lane follows the flags of its order (R125, R126). -/
def Obligations.StackedLabelIsCountedAndClosesAtTheTarget : Prop :=
  ∀ (n : RepeatNo) (l : Lane) (s : State) (r : RepeatRecord), s.record n = some r → s.mode.isHalt = false →
    r.decision.reached = true → r.decisionTaken = false → r.undecided l = true → (s.lane l).state = .stacking →
    SensesClear s → ∀ o q, s.formingStack l = some (o, q) → s.tableDisposition r l = .stacked q.seq →
    let q' := { q with
      count := q.count + 1, first := some (q.first.getD n), last := some n, dry := q.dry || r.dry }
    let p := s.profile
    let position := r.stamp + BitVec.ofNat 32 (p.gStack + p.labelLength + p.settle)
    ∃ t, exec (.decisionPosition n [l]) s = .next t ∧
      (q.count + 1 < q.target →
        t.log = { s.log with slots := s.log.slots.set o.slot.val (.held .forming q') } ∧
        t.lanes = s.lanes.set l.val { s.lane l with openStack := some { o with stamp := some r.stamp } }) ∧
      (q.target ≤ q.count + 1 → (s.lane l).ejects ≠ [] ∨ atOrBeyond s.belt position = false →
        t.log = { s.log with slots := s.log.slots.set o.slot.val (.held .closed { q' with closing := some .target }) } ∧
        t.lanes = s.lanes.set l.val { s.lane l with
          openStack := none
          ejects := (s.lane l).ejects ++ [⟨o.slot, q.seq, ⟨position, false⟩, false⟩]
          state := if o.final then .held else .changing
          gap := if o.final ∨ o.nogap then 0 else p.changeGap }) ∧
      (q.count + 1 < q.target ∨ (s.lane l).ejects ≠ [] ∨ atOrBeyond s.belt position = false →
        t.cnt = (s.countLanes (fun m c => if m = l then { c with stacked := c.stacked + 1 } else c)).cnt ∧
        t.pos = s.pos ∧ t.reg = s.reg ∧ t.cut = s.cut ∧ t.prof = s.prof ∧ t.links = s.links ∧
        ∀ m : Lane, (t.gate m).hold = (s.gate m).hold ∧ (t.pusher m).drive = (s.pusher m).drive)

/-- A reject makes its interval for the gate: a hold is joined or a new one starts, a latched gate takes none (R113,
R167); the last reject-interval end moves out; the label is counted rejected, with its cause, and in the span of a
FORMING stack (R116). -/
def Obligations.RejectDrivesTheGateAndIsCounted : Prop :=
  ∀ (n : RepeatNo) (l : Lane) (s : State) (r : RepeatRecord), s.record n = some r → s.mode.isHalt = false →
    r.decision.reached = true → r.decisionTaken = false → r.undecided l = true → SensesClear s →
    LaneStatesMean s → LanesOwnTheirSlots s → ∀ cause : Cause, s.tableDisposition r l = .rejected cause →
    let p := s.profile
    let a := r.stamp + BitVec.ofNat 32 p.gGate - BitVec.ofNat 32 p.gatePre
    let b := r.stamp + BitVec.ofNat 32 (p.gGate + p.labelLength + p.gatePost)
    let fresh := PosEvent.arm s.belt b
    ∃ t, exec (.decisionPosition n [l]) s = .next t ∧
      (t.gate l).hold = (if (s.gate l).latch.isSome then (s.gate l).hold
        else match (s.gate l).hold with
          | none => some fresh
          | some h => some (if atOrBeyond h.target a && (!atOrBeyond b h.target || b == h.target) then h else fresh)) ∧
      (t.lane l).rejectEnd.map (fun f => f.value) = some (match (s.lane l).rejectEnd with
        | none => b
        | some f => if atOrBeyond b f.value then b else f.value) ∧
      t.cnt = (s.countLanes (fun m c => if m = l then
        { c with rejected := c.rejected + 1, causes := c.causes.set cause.index.val (c.causes[cause.index] + 1) }
        else c)).cnt ∧
      ((s.lane l).state = .stacking → ∀ o q, s.formingStack l = some (o, q) →
        t.log = { s.log with slots := s.log.slots.set o.slot.val (.held .forming { q with
          rejectsInSpan := if q.rejectsInSpan = 65535 then 65535 else q.rejectsInSpan + 1 }) }) ∧
      (∀ m : Lane, m ≠ l → t.lane m = s.lane m ∧ (t.gate m).hold = (s.gate m).hold) ∧
      t.pos = s.pos ∧ t.reg = s.reg ∧ t.cut = s.cut ∧ t.prof = s.prof

/-- A label of a lane in FAULT is QUARANTINED and counted into the quarantine record, with the should-reject count of
R106 (R139, R116); no interval is made, and nothing else changes but the record's disposition. -/
def Obligations.FaultedLaneQuarantinesItsLabels : Prop :=
  ∀ (n : RepeatNo) (l : Lane) (s : State) (r : RepeatRecord), s.record n = some r → s.mode.isHalt = false →
    r.decision.reached = true → r.decisionTaken = false → r.undecided l = true → SensesClear s →
    (s.lane l).state = .fault → ∀ q, (s.lane l).quarantine = some q →
    let bad := s.purgeFlag r || r.reg || r.uncut || r.splice || r.spacing || LaneSet.has r.lineLanes l ||
      LaneSet.has r.vision l || (r.inspection && r.verdict == .awaited && s.profile.noVerdict == .reject)
    ∃ t, exec (.decisionPosition n [l]) s = .next t ∧
      t.lanes = s.lanes.set l.val { s.lane l with
        quarantine := some { q with
          count := min (q.count + 1) 65535
          first := some (q.first.getD n)
          last := some n
          shouldReject := if bad then (if q.shouldReject = 65535 then 65535 else q.shouldReject + 1) else q.shouldReject
          dry := q.dry || r.dry } } ∧
      t.cnt = (s.countLanes (fun m c => if m = l then { c with quarantined := c.quarantined + 1 } else c)).cnt ∧
      t.log = s.log ∧ t.pos = s.pos ∧ t.reg = s.reg ∧ t.cut = s.cut ∧ t.prof = s.prof ∧ t.links = s.links ∧
      ∀ m : Lane, (t.gate m).hold = (s.gate m).hold ∧ (t.pusher m).drive = (s.pusher m).drive

/-! ## Lanes, stack orders and stacking (07) -/

/-- QUEUE_ORDER joins the newest order and wakes an IDLE lane (R121, R120), LANE_RESUME frees a HELD one (R135), and
CANCEL_ORDER without a match on the open stack removes the oldest queued order with the tag (R132); each refusal changes
only the response. -/
def Obligations.OrdersJoinAndLeaveTheQueue : Prop :=
  ∀ (lane : Nat) (tag : BitVec 8) (job target : Nat) (nogap final : Bool) (s : State), FramesWhole s →
    let queue := exec (.queueOrder .line lane tag job target nogap final) s
    let resume := exec (.laneResume .line lane) s
    let cancel := exec (.cancelOrder .line lane tag) s
    (∀ k : StationLink, k ≠ .line →
      exec (.queueOrder k lane tag job target nogap final) s = .next (s.refuse k .queueOrder .denied) ∧
      exec (.laneResume k lane) s = .next (s.refuse k .laneResume .denied) ∧
      exec (.cancelOrder k lane tag) s = .next (s.refuse k .cancelOrder .denied)) ∧
    (lane < 1 ∨ 8 < lane →
      queue = .next (s.refuse .line .queueOrder .range) ∧ resume = .next (s.refuse .line .laneResume .range) ∧
      cancel = .next (s.refuse .line .cancelOrder .range)) ∧
    ∀ l : Lane, lane = l.val + 1 →
      let u := s.lane l
      (target < 1 ∨ 4000 < target ∨ 65535 < job → queue = .next (s.refuse .line .queueOrder .range)) ∧
      (1 ≤ target → target ≤ 4000 → job ≤ 65535 → 8 ≤ u.orders.length →
        queue = .next (s.refuse .line .queueOrder .full)) ∧
      (1 ≤ target → target ≤ 4000 → job ≤ 65535 → u.orders.length < 8 →
        queue = .next ((s.setLane l { u with
          orders := u.orders ++ [⟨tag, BitVec.ofNat 16 job, target, nogap, final⟩]
          state := if u.state = .idle then .blocked else u.state }).reply .line .queueOrder .ok
            (.number (u.orders.length + 1)))) ∧
      (u.state = .held → resume =
        .next ((s.setLane l { u with state := if u.orders = [] then .idle else .blocked }).reply
          .line .laneResume .ok .none)) ∧
      (u.state ≠ .held → resume = .next (s.refuse .line .laneResume .state)) ∧
      ((∀ x ∈ s.formingStack l, x.2.tag ≠ tag) →
        ((∀ o ∈ u.orders, o.tag ≠ tag) → cancel = .next (s.refuse .line .cancelOrder .unknown)) ∧
        (∀ older o newer, u.orders = older ++ o :: newer → (∀ x ∈ older, x.tag ≠ tag) → o.tag = tag →
          cancel = .next ((s.setLane l { u with orders := older ++ newer }).reply .line .cancelOrder .ok
            (.orderCancelled o))))

/-- CLOSE_NOW and a CANCEL_ORDER that names the open stack close it short (R131), each with its closing kind and the
lane state of its rule (R132, R133); a stack whose eject position the belt has passed is ejected at once, with a pulse
by a free pusher, without one in DRY and a dry drain or by a LATCHED pusher, then flagged EJECT_FAULT, and is left due
for a busy one (R128 to R131, R165; in DRY the flag is the model's choice, Log 30). A lane without a FORMING stack
answers NO_STACK. -/
def Obligations.OpenStacksAreClosedShort : Prop :=
  ∀ (l : Lane) (s : State), FramesWhole s → SensesClear s →
    (s.formingStack l = none → exec (.closeNow .delivery (l.val + 1)) s = .next (s.refuse .delivery .closeNow .noStack)) ∧
    (∀ lane, lane < 1 ∨ 8 < lane → exec (.closeNow .delivery lane) s = .next (s.refuse .delivery .closeNow .range)) ∧
    ∀ o q, s.formingStack l = some (o, q) →
      let following (t : State) (state : LaneState) (gap : Nat) : State :=
        t.setLane l { t.lane l with state := state, gap := gap }
      let closed (t : State) : State :=
        following t (if o.final then .held else .changing) (if o.final || o.nogap then 0 else s.profile.changeGap)
      exec (.closeNow .delivery (l.val + 1)) s =
        .next ((refreshFilters s (closed (s.shortEnded l o q .shortClose))).reply .delivery .closeNow .ok
          (.stackNamed o.slot q.seq)) ∧
      exec (.cancelOrder .line (l.val + 1) q.tag) s =
        .next ((refreshFilters s (following (s.shortEnded l o q .shortCancel) .changing s.profile.changeGap)).reply
          .line .cancelOrder .ok (.stackCancelled o.slot q.seq (q.count != 0)))

/-- The eject of the head whose position is taken (R128 to R130, R165): without a pulse in DRY and a dry drain; with one
by a FREE pusher, its stack recorded as the pulse stack; without one, flagged EJECT_FAULT, by a LATCHED pusher; a busy
pusher leaves the head due, and it is ejected when the off time ends. The pusher's own times (R165): the end of a pulse
starts the off time and clears the pulse stack; the end of the off time starts a pending pulse, and otherwise frees the
pusher, in HALT too, where no due head is pushed. The model's choices: a row that finds no interval of its kind running
changes nothing (Log 3), a pending pulse carried into DRY starts there too (Log 18), and an eject in DRY or a dry drain
sets EJECT_FAULT when the pusher is LATCHED, as the table of R148 says (Log 30). -/
def Obligations.EjectsFollowTheirPusher : Prop :=
  (∀ (l : Lane) (s : State) (e : Eject) (rest : List Eject), (s.lane l).ejects = e :: rest → s.mode.isHalt = false →
    SensesClear s → NextEjectAhead s l → ∀ r, s.slot e.slot = .held .closed r →
    (e.position.reached = true →
      let answer := exec (.ejectPosition l) s
      (s.mode.isDryKind = true → answer = .next (refreshFilters s (s.headReady l e.slot (s.ejectedRecord l r)))) ∧
      (s.mode.isDryKind = false →
        ((s.pusher l).drive = .free →
          answer = .next (refreshFilters s ((s.headReady l e.slot r).pulsedFor l e.slot e.seq))) ∧
        ((s.pusher l).drive = .latched →
          answer = .next (refreshFilters s (s.headReady l e.slot { r with ejectFault := true }))) ∧
        ((s.pusher l).drive.isBusy = true →
          answer = .next (refreshFilters s (s.setLane l { s.lane l with
            ejects := { e with due := true, position := { e.position with reached := false } } :: rest }))))) ∧
    (e.due = true → (s.pusher l).pendingPulse = false → ∀ n, (s.pusher l).drive = .offTime n →
      let t := s.setPusher l { s.pusher l with drive := .free }
      (s.mode.isDryKind = true → exec (.pusherOffTimeEnd l) s = .next (refreshFilters s (t.headReady l e.slot r))) ∧
      (s.mode.isDryKind = false → exec (.pusherOffTimeEnd l) s =
        .next (refreshFilters s ((t.headReady l e.slot r).pulsedFor l e.slot e.seq))))) ∧
  ∀ (l : Lane) (s : State), SensesClear s →
    let p := s.pusher l
    (∀ w, p.drive = .pulse w → exec (.pusherPulseEnd l) s = .next (refreshFilters s
      ((s.setPusher l { p with drive := .offTime s.profile.pusherOff }).setLane l
        { s.lane l with pulseStack := none }))) ∧
    (p.drive.isPulse = false → exec (.pusherPulseEnd l) s = .next s) ∧
    (∀ n, p.drive = .offTime n →
      (p.pendingPulse = true → s.mode.isHalt = false → exec (.pusherOffTimeEnd l) s = .next (refreshFilters s
        (s.setPusher l { p with drive := .pulse s.profile.pusherPulse, pendingPulse := false }))) ∧
      (s.mode.isHalt = true ∨ p.pendingPulse = false ∧ (∀ e ∈ (s.lane l).ejects.head?, e.due = false) →
        exec (.pusherOffTimeEnd l) s = .next (refreshFilters s (s.setPusher l { p with drive := .free })))) ∧
    (p.drive.isBusy = false ∨ p.drive.isPulse = true → exec (.pusherOffTimeEnd l) s = .next s)

/-- A lane cleared (R141, R173): tested in the order of the rule, and then the quarantine record READY in the lowest free
slot with closing kind QUARANTINE, the latches cleared, the pulse of the mode, the lane HELD. That the gate is left
without its hold, latched or not, is the model's choice (Log 24). -/
def Obligations.ClearedLanesDeliverTheirQuarantine : Prop :=
  ∀ (lane : Nat) (s : State), FramesWhole s →
    let answer := exec (.laneClear .line lane) s
    (lane < 1 ∨ 8 < lane → answer = .next (s.refuse .line .laneClear .range)) ∧
    ∀ l : Lane, lane = l.val + 1 →
      let present := s.faultPresent (.gate l) = true ∨ s.faultPresent (.pusher l) = true
      let full := ∀ i : SlotIndex, s.slot i ≠ .free
      ((s.lane l).state ≠ .fault → answer = .next (s.refuse .line .laneClear .state)) ∧
      ((s.lane l).state = .fault → present → answer = .next (s.refuse .line .laneClear .faultActive)) ∧
      ((s.lane l).state = .fault → ¬present → full → answer = .next (s.refuse .line .laneClear .full)) ∧
      ((s.lane l).state = .fault → SensesClear s → ∀ q, (s.lane l).quarantine = some q → ∀ i : SlotIndex,
        s.slot i = .free → (∀ j < i, s.slot j ≠ .free) →
        let g := s.gate l
        let p : Pusher := if (s.pusher l).latch.isSome then
            { s.pusher l with drive := .free, latch := none, filter := .settling } else s.pusher l
        let quiet := s.mode.isHalt = true ∨ s.mode.isDryKind = true
        answer = .next ((refreshFilters s (raiseEvent .recordReady
          ((((s.setGate l
              { hold := none, latch := none, filter := if g.latch.isSome then .settling else g.filter }).setPusher l
            (if quiet then p else match p.drive with
              | .free => { p with drive := .pulse s.profile.pusherPulse }
              | .pulse _ | .offTime _ => { p with pendingPulse := true }
              | .latched => p)).setLog
            { slots := s.log.slots.set i.val (.held .ready { q with
                closing := some .quarantine, notEjected := q.notEjected || s.mode.isHalt })
              ready := s.log.ready ++ [i] }).setLane l
            { s.lane l with state := .held, quarantine := none }))).reply .line .laneClear .ok (.stackNamed i q.seq)))

/-! ## The stack record log (08) -/

/-- The log's requests (R154 to R156). READ_RECORD and FETCH_RECORD change only the response: any slot, with the eject
position and due mark of a CLOSED one; the oldest ready entry of the lanes selected, or EMPTY. ACK_RECORD frees a READY
slot of the named sequence, which leaves the ready list, and tells UNKNOWN from NOT_READY. -/
def Obligations.RecordsAreReadFetchedAndAcknowledged : Prop :=
  ∀ s : State, FramesWhole s → ReadyListExact s → LanesOwnTheirSlots s →
    let entries := s.log.ready.length
    (∀ (k : StationLink) (i : SlotIndex),
      let read (x : Option (Pos × Bool)) :=
        exec (.readRecord k i.val) s = .next (s.reply k .readRecord .ok (.stackRecord i (s.slot i) x entries))
      ((s.slot i).isIn .closed = false → read none) ∧
      ∀ l : Lane, ∀ e ∈ (s.lane l).ejects, e.slot = i → read (some (e.position.target, e.due))) ∧
    (∀ (k : StationLink) (n : Nat), 31 < n → exec (.readRecord k n) s = .next (s.refuse k .readRecord .range)) ∧
    (∀ (k : StationLink) (n : Nat) (seq : Seq), k ≠ .delivery →
      exec (.fetchRecord k n) s = .next (s.refuse k .fetchRecord .denied) ∧
      exec (.ackRecord k n seq) s = .next (s.refuse k .ackRecord .denied)) ∧
    (∀ (n : Nat) (seq : Seq), 31 < n → exec (.ackRecord .delivery n seq) s = .next (s.refuse .delivery .ackRecord .range)) ∧
    (∀ selector : Nat,
      let answer := exec (.fetchRecord .delivery selector) s
      let mine : SlotIndex → Prop := fun i =>
        selector = 0 ∨ ∃ r ∈ (s.slot i).record?, selector = r.lane.val + 1
      (8 < selector → answer = .next (s.refuse .delivery .fetchRecord .range)) ∧
      (selector ≤ 8 → (∀ i ∈ s.log.ready, ¬mine i) →
        answer = .next (s.reply .delivery .fetchRecord .empty (.number entries))) ∧
      (selector ≤ 8 → ∀ older i newer, s.log.ready = older ++ i :: newer → (∀ j ∈ older, ¬mine j) → mine i →
        answer = .next (s.reply .delivery .fetchRecord .ok (.stackRecord i (s.slot i) none entries)))) ∧
    ∀ (i : SlotIndex) (seq : Seq),
      let answer := exec (.ackRecord .delivery i.val seq) s
      (s.slot i = .free → answer = .next (s.reply .delivery .ackRecord .unknown (.number entries))) ∧
      ∀ st r, s.slot i = .held st r →
        (r.seq ≠ seq → answer = .next (s.reply .delivery .ackRecord .unknown (.number entries))) ∧
        (r.seq = seq → st ≠ .ready → answer = .next (s.reply .delivery .ackRecord .notReady (.number entries))) ∧
        (r.seq = seq → st = .ready → answer = .next
          ((s.setLog { slots := s.log.slots.set i.val .free, ready := s.log.ready.erase i }).reply
            .delivery .ackRecord .ok (.number (entries - 1))))

/-! ## Actuator outputs and diagnostics (09) -/

/-- The filter times (R170): an output that was or is driven active restarts them, and `refreshFilters` does nothing
else; 1 ms of inactivity of an enabled, unlatched output begins the open-load time at the fault level; a sense line of
an inactive output that leaves the fault level restarts it. A change of a sense line that finds no driven output at
fault moves only that line and the filter times. The times are held as the phase they have reached (Log 19), and that
INACTIVE_TIME_ELAPSED changes nothing when no inactive time below 1 ms runs is the model's choice (Log 3). -/
def Obligations.DrivenOutputsRestartTheirFilters : Prop :=
  (∀ before after : State, let t := refreshFilters before after
    (∀ o : Output, t.filterOf o =
      if before.driven o = true ∨ after.driven o = true then .settling else after.filterOf o) ∧
    t = after.setAct t.act ∧ t.act.unfiltered = after.act.unfiltered) ∧
  ∀ (o : Output) (s : State),
    let runs := s.enabled o = true ∧ s.latchOf o = none ∧ s.driven o = false
    (runs → s.filterOf o = .settling → exec (.inactiveTimeElapsed o) s =
      .next (s.setFilter o (if s.atFault o then .measuring else .settled))) ∧
    (¬runs ∨ s.filterOf o ≠ .settling → exec (.inactiveTimeElapsed o) s = .next s) ∧
    ∀ v : Level, (∀ q : Output, s.enabled q = true → s.driven q = true →
        (if q = o then v = .high else s.atFault q = false)) →
      ∃ t, exec (.senseLineChange o v) s = .next t ∧ t = (s.setPins t.pins).setAct t.act ∧
        t.act.unfiltered = s.act.unfiltered ∧ t.pins.mark = s.pins.mark ∧ t.pins.stop = s.pins.stop ∧
        ∀ q : Output, t.atFault q = (if q = o then v == .low else s.atFault q) ∧
          t.filterOf q = if s.driven q then .settling
            else if q = o ∧ runs ∧ s.filterOf q ≠ .settling then (if v = .low then .measuring else .settled)
            else s.filterOf q

/-- The fault latches (R170 to R172): the open-load time run out latches OPEN; a sense line at the fault level of a
driven output latches OVERLOAD and ends its activity. The knife requests HALT; a gate or pusher tells its lane (R136 to
R138); a pusher whose pulse is ended spoils its pulse stack (R140), if the slot still holds that lane's record (R157).
The model's choices: an OPEN latch gives up an off time and leaves the pending pulse mark (Log 9), a pusher latch of an
OFF lane leaves a due head CLOSED and due (Log 29), and an OPEN_LOAD_LATCH row with no open-load time running changes
nothing (Log 3). -/
def Obligations.FaultLatchesStopTheirOutputs : Prop :=
  ∀ (o : Output) (s : State), LanesOwnTheirSlots s → (∀ q : Output, q ≠ o → s.faultPresent q = false) →
    let measured := s.enabled o = true ∧ s.latchOf o = none ∧ s.driven o = false ∧ s.filterOf o = .measuring
    let u := s.setPins (s.pins.setSense o true)
    let overloaded := s.enabled o = true ∧ s.latchOf o = none ∧ s.driven o = true
    (¬measured → exec (.openLoadLatch o) s = .next s) ∧
    (measured → exec (.openLoadLatch o) s = .next (refreshFilters s (match o with
      | .knife => (s.setKnife { s.act.knife with drive := .latched, latch := some .opened }).afterHalt .knifeFault
      | .gate l => (s.setGate l { s.gate l with hold := none, latch := some .opened }).laneFaulted l
      | .pusher l => (s.setPusher l { s.pusher l with drive := .latched, latch := some .opened }).laneFaulted l))) ∧
    (overloaded → exec (.senseLineChange o .low) s = .next (refreshFilters s (match o with
      | .knife => (u.setKnife { s.act.knife with drive := .latched, latch := some .overload }).afterHalt .knifeFault
      | .gate l => (u.setGate l { s.gate l with hold := none, latch := some .overload }).laneFaulted l
      | .pusher l =>
        let v := match (s.lane l).pulseStack with
          | none => u
          | some (i, seq) => (match s.slot i with
            | .held .ready r => if r.lane = l ∧ r.seq = seq then u.setSlot i (.held .ready { r with ejectFault := true }) else u
            | .held .forming _ | .held .closed _ | .free => u).setLane l { s.lane l with pulseStack := none }
        (v.setPusher l { s.pusher l with
          drive := .latched, latch := some .overload, pendingPulse := false }).laneFaulted l)))

/-! ## Profiles and operating modes (10) -/

/-- A HALT cause enters HALT once, with what every block does at its entry, and changes nothing in HALT (R187, R9, R32,
R68, R164, R165, R168, R182); HALT_REQUEST is answered OK in every mode and records its link; STOP is such a cause when
it becomes active, and does nothing else when it becomes inactive (R188). -/
def Obligations.HaltStopsEveryBlock : Prop :=
  ∀ s : State,
    (∀ cause : HaltCause, haltFor cause s = if s.mode.isHalt then s else refreshFilters s (s.afterHalt cause)) ∧
    (∀ k : StationLink, (s.link k).phase ≠ .discarded →
      exec (.haltRequest k) s = .next ((haltFor (.haltRequest k) s).reply k .haltRequest .ok .none)) ∧
    exec .stopInputActive s = .next (haltFor .stopInput (s.setPins { s.pins with stop := true })) ∧
    exec .stopInputInactive s = .next (s.setPins { s.pins with stop := false })

/-- The pending profile (R176, R177): SET_PROFILE_FIELD is BUSY while a commit waits, RANGE outside the table of R175,
and otherwise writes that one field of the pending profile; READ_PROFILE reads any of the 44 fields of either profile.
While a commit waits, a number beyond the named list of a field is answered BUSY by R176 and RANGE by R194: which of the
two is a free value (Log 12). The numbers of the named lists are those of Log 22. Validation names the first failing
check of R179, and passes exactly the profiles that satisfy all twelve. -/
def Obligations.ProfileFieldsAreWrittenAndRead : Prop :=
  (List.range 46).map fixedRange =
    [none, some (2000, 100000), some (1, 25000), some (1, 255), some (0, 1), some (0, 25000), some (0, 7), some (1, 64),
      some (1, 15), some (0, 3), some (1, 15), some (0, 2000000), some (0, 5000), some (500, 99999), some (0, 8191)] ++
    [some (0, 2000000), some (0, 65535), some (0, 65535), some (0, 4095), some (0, 255), some (1, 1000000),
      some (1, 1000000), some (1, 1000000), some (100, 100000), some (0, 4095), some (0, 4095), some (0, 8191)] ++
    [some (0, 65535), some (0, 1000000), some (0, 1000000), some (0, 1000000), some (0, 65535), some (0, 1), some (0, 1),
      some (0, 15), some (0, 255), some (50, 5000), some (0, 20), some (1, 500), some (1, 255), some (10, 1000)] ++
    [some (0, 1), some (0, 1), some (0, 1), some (0, 1), none] ∧
  (∀ (field value : Nat) (s : State), FramesWhole s →
    let inRange := ∃ b ∈ fixedRange field, b.1 ≤ value ∧ value ≤ b.2
    let beyondList := (field = 4 ∨ field = 32 ∨ field = 33 ∨ 41 ≤ field ∧ field ≤ 44) ∧ 1 < value
    let set := exec (.setProfileField .line field value) s
    (∀ (k : StationLink) (selector : Nat), k ≠ .line →
      exec (.setProfileField k field value) s = .next (s.refuse k .setProfileField .denied) ∧
      exec (.readProfile k selector field) s = .next (s.refuse k .readProfile .denied)) ∧
    (s.prof.commit ≠ none → beyondList → set = .next (s.refuse .line .setProfileField
      (if Config.namedListTestFirst then .range else .busy))) ∧
    (s.prof.commit ≠ none → ¬beyondList → set = .next (s.refuse .line .setProfileField .busy)) ∧
    (s.prof.commit = none → ¬inRange → set = .next (s.refuse .line .setProfileField .range)) ∧
    (s.prof.commit = none → inRange → ∃ t, set = .next t ∧
      t = (s.setProf { s.prof with pending := t.prof.pending }).reply .line .setProfileField .ok
        (.fieldWritten field value) ∧
      ∀ g : Fin 45, t.prof.pending.get g.val = if g.val = field then some value else s.prof.pending.get g.val) ∧
    ∀ selector : Nat,
      let read := exec (.readProfile .line selector field) s
      (1 < selector ∨ field < 1 ∨ 44 < field → read = .next (s.refuse .line .readProfile .range)) ∧
      (selector ≤ 1 → 1 ≤ field → field ≤ 44 → ∃ v,
        (if selector = 0 then s.prof.active else s.prof.pending).get field = some v ∧
        read = .next (s.reply .line .readProfile .ok (.fieldValue v)))) ∧
  ∀ p : Profile,
    let ranged (f : Nat) : Prop := ∃ v ∈ p.get f, ∃ b ∈ fixedRange f, b.1 ≤ v ∧ v ≤ b.2
    let checks : List (Bool × Nat) :=
      [ (decide (p.qMin + 1 ≤ p.pNom), 13), (decide (p.halfWindow ≤ p.pNom / 4), 2),
        (decide (p.tReg ≤ p.halfWindow), 5), (decide (p.cMax > p.grace), 10),
        (decide (p.sensorToCut ≤ 15 * p.pNom), 11),
        (decide (p.qMin + 2 * p.halfWindow ≤ p.pNom * (1024 - p.stretchLimit) / 1024), 13),
        (decide (p.confirmWindow < p.qMin), 14), (decide ((p.gCam : Int) < p.gGate - p.gatePre), 20),
        (decide (p.gGate + p.labelLength + p.gatePost < p.gStack), 22),
        (decide (p.sigmaJam < p.sigmaTight) && decide (p.sigmaTight ≤ p.sigmaWarn), 29),
        (decide (p.gStack + p.labelLength ≤ 47 * p.sigmaTight), 22) ]
    (∀ f : Fin 44, ¬ranged (f.val + 1) → (∀ g < f, ranged (g.val + 1)) → firstFailure p = some (f.val + 1)) ∧
    ((∀ f : Fin 44, ranged (f.val + 1)) →
      (firstFailure p = none ↔ ∀ c ∈ checks, c.1 = true) ∧
      ∀ passed c later, checks = passed ++ c :: later → (∀ x ∈ passed, x.1 = true) → c.1 = false →
        firstFailure p = some c.2)

/-- COMMIT_PROFILE is tested in the order of R178; a refusal changes only the response; an accepted commit waits with
its source and a clear splice mark, or is applied at the request (R183): the active profile, P_eff and the mark
candidate; in RUN and DRY a changed P_nom also restarts the registration unit (R184), and withdraws a HELD window with
its candidate and no deferred expiry, while a changed mark level alone discards the candidate of a HELD window and lets
its deferred expiry take effect under the new profile (R14, R19), which are the model's choices (Log 11); outside SETUP
a reverse deficit beyond the new R_rev then enters HALT, the web tested first (R12). CANCEL_COMMIT withdraws what waits
(R182). That the events of the mark event at such an expiry are raised before its record reaches the cut scheduler is
the model's choice (Log 33). -/
def Obligations.CommitRequestsAreTestedInOrder : Prop :=
  ∀ (source : Nat) (n : RepeatNo) (s : State), FramesWhole s →
    let answer := exec (.commitProfile .line source n) s
    let refused (res : Result) (p : Payload) : Prop := answer = .next (s.reply .line .commitProfile res p)
    let old := s.prof.active
    let new := s.prof.pending
    let clear := source ≤ 3 ∧ s.prof.commit = none ∧ s.mode.isHalt = false
    let inHand := source = 0 ∧ s.mode.tracks = true ∧
      (s.cut.schedule ≠ [] ∨ s.cut.queue ≠ [] ∨ s.map.records ≠ [])
    let taken := source = 3 ∧ s.classOf n ≠ .notYet
    let moved := source ≠ 0 ∧ ¬(old.gCam = new.gCam ∧ old.gGate = new.gGate ∧ old.gStack = new.gStack ∧
      old.labelLength = new.labelLength ∧ old.gatePre = new.gatePre ∧ old.gatePost = new.gatePost)
    (∀ k : StationLink, k ≠ .line →
      exec (.commitProfile k source n) s = .next (s.refuse k .commitProfile .denied) ∧
      exec (.cancelCommit k) s = .next (s.refuse k .cancelCommit .denied)) ∧
    (3 < source → refused .range .none) ∧
    (source ≤ 3 → s.prof.commit ≠ none → refused .busy .none) ∧
    (source ≤ 3 → s.prof.commit = none → s.mode.isHalt = true → refused .mode .none) ∧
    (clear → inHand → refused .state .none) ∧
    (clear → ¬inHand → taken → refused .range .none) ∧
    (∀ f, firstFailure new = some f → clear → ¬inHand → ¬taken → refused .range (.fieldNamed f)) ∧
    (firstFailure new = none → clear → ¬inHand → ¬taken →
      (moved → refused .geometry .none) ∧
      (¬moved → source ≠ 0 → answer = .next ((s.setProf { s.prof with
          commit := some ⟨if source = 1 then .nextMark else if source = 2 then .splice else .atRepeat n, false⟩ }).reply
        .line .commitProfile .ok (.commitAccepted false))) ∧
      (source = 0 → ∃ t, answer = .next t ∧ t.prof.active = new ∧ t.prof.pending = new ∧ t.prof.commit = none ∧
        t.flag .line .commitApplied = true ∧
        (t.link .line).slot = ⟨Request.commitProfile.code, .ok, .commitAccepted true⟩) ∧
      (source = 0 → SensesClear s → old.laneMask = new.laneMask →
        let applied := (raiseEvent .commitApplied s).setProf { s.prof with active := new }
        let candidate := if old.markLevel = new.markLevel then s.reg.candidate else none
        let low := new.pNom * 256 * (1024 - new.stretchLimit) / 1024
        let high := new.pNom * 256 * (1024 + new.stretchLimit) / 1024
        let base : State :=
          if old.pNom = new.pNom then
            raiseIf (decide (s.reg.pEff < low ∨ high < s.reg.pEff)) .stretchLimit
              (applied.setReg { s.reg with
                candidate := candidate
                pEff := if s.reg.pEff < low then low else if high < s.reg.pEff then high else s.reg.pEff })
          else if s.mode = .run ∨ s.mode = .dry then
            applied.setReg { s.reg with
              pEff := new.pNom * 256, lastReal := none, state := .search, lock := 0, miss := 0, window := none
              candidate := none, virtualTarget := some (PosEvent.arm s.web (s.web + BitVec.ofNat 32 new.pNom)) }
          else applied.setReg { s.reg with candidate := candidate, pEff := new.pNom * 256, lastReal := none }
        let marks := s.mode = .run ∨ s.mode = .dry
        let tested (t : State) : State :=
          if s.mode = .setup then t
          else if new.reverseLimit < s.webDeficit then t.afterHalt .reverseWeb
          else if new.reverseLimit < s.beltDeficit then t.afterHalt .reverseBelt else t
        let ends (t : State) : Prop :=
          answer = .next ((refreshFilters s (tested t)).reply .line .commitProfile .ok (.commitAccepted true))
        (¬marks ∨ old.pNom ≠ new.pNom ∨ candidate ≠ none ∨ (∀ w ∈ s.reg.window, w.status ≠ .held) → ends base) ∧
        (marks → old.pNom = new.pNom → candidate = none → s.reg.state ≠ .search →
          ∀ w, s.reg.window = some w → w.status = .held →
          let u := (base.setReg { base.reg with windowCounter := 0 }).setCnt { s.cnt with
            misses := if s.cnt.misses = 65535 then 65535 else s.cnt.misses + 1 }
          let row := expiryRow new s.reg
          let t := u.withMarkEvent .coasted w.expected none row
          NextAhead s.web t.reg → ends (receiveMark (u.markRecord .coasted w.expected none row) t)))) ∧
    (s.prof.commit ≠ none → exec (.cancelCommit .line) s =
      .next ((s.setProf { s.prof with commit := none }).reply .line .cancelCommit .ok .none)) ∧
    (s.prof.commit = none → exec (.cancelCommit .line) s = .next (s.refuse .line .cancelCommit .unknown))

/-- SET_MODE by the table of R185: the entry to RUN or DRY levels the high-water marks and arms the virtual target (R9,
R32), and a knife latch halts the entry to RUN at once (R172); STOP enters DRAINING (R186, R32), which ends in SETUP
within the request when nothing is left to do; in DRAINING it has no effect; every other pair is refused. -/
def Obligations.ModeRequestsFollowTheTable : Prop :=
  ∀ (target : Nat) (s : State), FramesWhole s → SensesClear s →
    let answer := exec (.setMode .line target) s
    let becomes (t : State) : Prop := answer = .next ((refreshFilters s t).reply .line .setMode .ok .none)
    let started (m : Mode) : State := { s with
      prof := { s.prof with mode := m }
      pos := s.levelled
      reg := { s.reg with virtualTarget := some ⟨s.web + BitVec.ofNat 32 s.profile.pNom, false⟩ } }
    let draining (isDry : Bool) : State := { s with
      prof := { s.prof with mode := .draining isDry }
      reg := { s.reg with window := none, virtualTarget := none, candidate := none, lastReal := none } }
    let empty := s.cut.schedule = [] ∧ s.cut.queue = [] ∧ s.cut.confirm = none ∧ s.map.records = []
    (2 < target → answer = .next (s.refuse .line .setMode .range)) ∧
    (target ≤ 1 → s.mode ≠ .setup → answer = .next (s.refuse .line .setMode .mode)) ∧
    (target = 2 → s.mode = .setup ∨ s.mode.isHalt = true → answer = .next (s.refuse .line .setMode .mode)) ∧
    (target = 2 → s.mode.isDraining = true → becomes s) ∧
    (0 < s.profile.pNom → s.profile.pNom < 2 ^ 31 → s.mode = .setup →
      (target = 0 → s.act.knife.latch = none → becomes (started .run)) ∧
      (target = 0 → s.act.knife.latch ≠ none → becomes ((started .run).afterHalt .knifeFault)) ∧
      (target = 1 → becomes (started .dry))) ∧
    (target = 2 → s.mode = .dry ∨ s.mode = .run ∧ s.act.knife.latch = none →
      (¬empty → becomes (draining (s.mode == .dry))) ∧
      (empty → becomes (raiseEvent .drained s.afterSetup)))

/-- RESET_TRACK (R189): refused in RUN, DRY and DRAINING and while STOP is active; otherwise the map is emptied with its
undecided labels counted lost (R88), closed stacks become READY flagged NOT_EJECTED and open ones READY with kind
ABORTED, lane by lane from lane 1, each lane's closed stacks in close order and then its open one (R145, R153, R159),
holds, the line-reject range and a knife latch without its fault go (R168, R69, R173), and SETUP is entered. The order
queues, quarantine records, profiles, P_eff, the repeat number counter and the event masks stand. That the emptied range
has first number 0 and mask 0 is the model's choice (Log 5). -/
def Obligations.ResetTrackEmptiesTheTrack : Prop :=
  ∀ s : State, FramesWhole s →
    (s.mode.tracks = true → exec (.resetTrack .line) s = .next (s.refuse .line .resetTrack .mode)) ∧
    (s.mode.tracks = false → s.pins.stop = true →
      exec (.resetTrack .line) s = .next (s.refuse .line .resetTrack .state)) ∧
    (s.mode.tracks = false → s.pins.stop = false → SensesClear s → LanesOwnTheirSlots s → SlotsHaveOwners s →
      ∃ t, exec (.resetTrack .line) s = .next t ∧
        t.mode = .setup ∧ t.prof = { s.prof with mode := .setup } ∧ t.pos = s.levelled ∧ t.reg = s.idleReg ∧
        t.cut = { s.emptiedCut with range := ⟨0, 0, 0⟩ } ∧
        t.map = { records := [], lastStamp := none, normalRun := 0, purge := none, notices := [] } ∧
        t.cnt = (s.countLanes (fun l c => { c with lost := c.lost + BitVec.ofNat 32 (undecidedIn s.map.records l) })).cnt ∧
        (∀ l : Lane, t.lane l = { s.lane l with
          ejects := [], openStack := none, gap := 0, rejectEnd := none
          state := match (s.lane l).state with
            | .off => .off
            | .held => .held
            | .fault => .fault
            | .idle | .blocked | .stacking | .changing => if (s.lane l).orders = [] then .idle else .blocked }) ∧
        (∀ i : SlotIndex, t.slot i = match s.slot i with
          | .held .forming r => .held .ready { r with closing := some .aborted }
          | .held .closed r => .held .ready { r with notEjected := true }
          | .held .ready r => .held .ready r
          | .free => .free) ∧
        t.log.ready = s.log.ready ++ allLanes.flatMap (fun l =>
          (s.lane l).ejects.map (fun e => e.slot) ++ (s.lane l).openStack.toList.map (fun o => o.slot)) ∧
        (∀ l : Lane, (t.gate l).hold = none ∧ (t.gate l).latch = (s.gate l).latch ∧
          (t.pusher l).drive = (s.pusher l).drive ∧ (t.pusher l).latch = (s.pusher l).latch) ∧
        (s.act.knife.latch ≠ none →
          t.act.knife = { drive := .free, latch := none, filter := .settling }) ∧
        t.act.camera = s.act.camera ∧ t.act.enabled = s.act.enabled ∧ t.pins = s.pins ∧
        (t.link .line).slot = ⟨0x15, .ok, .trackReset ((allLanes.map (undecidedIn s.map.records)).sum)
          (t.log.ready.length - s.log.ready.length) false⟩ ∧
        ∀ k : StationLink, (t.link k).mask = (s.link k).mask ∧
          (t.link k).flags = (s.link k).flags ||| (if k = .delivery ∧ t.log.ready ≠ s.log.ready then 0x200000#32 else 0))

/-! ## Station links (11) -/

/-- Each link keeps what is its own: the snapshot moves only by READ_STATUS page 0 of the link, the repeat copy only by
READ_REPEAT part 0, the output only by an assertion of select, the mask only by SET_EVENT_MASK, the response slot only by
a request or a broken frame of the link, the place in its frames only by these and an assertion of select; a flag once set
is cleared only by ACK_EVENTS of the link, and REG_WARN and SPACING_WARN of the line link also by the auto-clear (R192,
R193, R195 to R198, R201, R76). A frame given by its words counts as the request they spell. -/
def Obligations.LinksMoveOnlyByTheirOwnCommands : Prop :=
  ∀ (row : Instr) (k : StationLink) (s : State), row ≠ .deviceReset → ∃ t, exec row s = .next t ∧
    let c := row.spelled
    let answered := (∃ f, c = .brokenFrame k f) ∨ ∃ q, c.request = some (k, q)
    (c ≠ .readStatus k 0 →
      (t.link k).snapshot = (s.link k).snapshot ∧ (t.link k).snapshotNo = (s.link k).snapshotNo) ∧
    ((∀ n, c ≠ .readRepeat k n 0) → (t.link k).copy = (s.link k).copy) ∧
    (c ≠ .selectAssert k → (t.link k).output = (s.link k).output) ∧
    ((∀ m, c ≠ .setEventMask k m) → (t.link k).mask = (s.link k).mask) ∧
    (¬answered → (t.link k).slot = (s.link k).slot) ∧
    (¬answered → c ≠ .selectAssert k → (t.link k).phase = (s.link k).phase) ∧
    ((∀ m, c ≠ .ackEvents k m) →
      (s.link k).flags &&& ~~~(t.link k).flags &&& ~~~(if k = .line then 0x208#32 else 0) = 0)

/-- Frames (R192 to R194, R201). The assertion of select begins a frame and fixes the slot as its output: the words of its
response, then zeros; a status page begins with its snapshot number and has at most 15 words (R193, R197). A
broken frame and a frame that fails a check are answered FORMAT or DENIED and change nothing else; NOP changes only the
response; a request from a link outside its set is DENIED, with no effect. A frame whose words spell a request, with any
fill words, does what the request's own row does; that it may come by a BROKEN_FRAME row is the model's choice (Log 14), and
so are the places of the operands in the words where 11 gives no layout (Log 31). After a device reset in mid-frame no
frame of the link is taken before the next assertion of select. -/
def Obligations.FramesAreCheckedAndAnswered : Prop :=
  ∀ (k : StationLink) (s : State),
    let slot (code : BitVec 8) (res : Result) : State :=
      s.setLink k { s.link k with phase := .idle, slot := ⟨code, res, .none⟩ }
    let whole := (s.link k).phase ≠ .discarded
    (∃ t, exec (.selectAssert k) s = .next t ∧
      t = s.setLink k { s.link k with phase := .shifting, output := some (s.link k).slot } ∧
      ∀ n, (t.link k).shiftedOut n = some (((s.link k).slot.words ++ List.replicate n 0).take n)) ∧
    (∀ r : Response, r.words = (r.code ++ r.result.code ++ BitVec.ofNat 4 r.payload.words.length) :: r.payload.words) ∧
    (∀ (n : Word16) (page : Nat) (image : StatusImage) (p : StatusPage), statusPage image page = some p →
      ∃ rest, (Payload.status n p).words = n :: rest ∧ rest.length ≤ 14) ∧
    (whole → exec (.nop k) s = .next (slot 0 .ok)) ∧
    (∀ f : Frame, whole →
      let counted := f.bits ≠ 0 ∧ f.bits % 16 = 0 ∧ f.bits ≤ 256
      (¬counted → exec (.brokenFrame k f) s = .next (slot 0 .format)) ∧
      ∀ header payload, f.words = header :: payload → counted →
        let code := header.extractLsb' 8 8
        let len := (header.extractLsb' 0 4).toNat
        ((∀ q : Request, q.code ≠ code) ∨ header.extractLsb' 4 4 ≠ 0 →
          exec (.brokenFrame k f) s = .next (slot code .format)) ∧
        ∀ q : Request, q.code = code → header.extractLsb' 4 4 = 0 →
          (payload.length < len ∨ len ≠ q.payloadLength →
            exec (.brokenFrame k f) s = .next (slot code .format)) ∧
          (len ≤ payload.length → len = q.payloadLength → q.allowedOn k = false →
            exec (.brokenFrame k f) s = .next (slot code .denied))) ∧
    (∀ (c : Instr) (q : Request), c.request = some (k, q) →
      (whole → q.allowedOn k = false → exec c s = .next (slot q.code .denied)) ∧
      ∀ fill : List Word16, c.wellFormed = true → q.payloadLength + fill.length ≤ 15 →
        ∃ f, c.frame fill = some f ∧ f.words = (q.code ++ BitVec.ofNat 8 q.payloadLength) :: (c.payloadWords ++ fill) ∧
          c.payloadWords.length = q.payloadLength ∧ f.command k = some c ∧
          (q.allowedOn k = true → exec (.brokenFrame k f) s = exec c s)) ∧
    ((s.link k).phase = .discarded →
      (∀ f : Frame, exec (.brokenFrame k f) s = .next s) ∧
      ∀ (c : Instr) (q : Request), c.request = some (k, q) → exec c s = .next s)

/-- The reads of a link (R196 to R198, R91). READ_EVENTS, ACK_EVENTS and SET_EVENT_MASK act on the link's own flags and
mask; ATTN is driven while an enabled flag is set (R195). READ_STATUS page 0 takes a snapshot of the whole status, and
the other pages come from the snapshot held, each with the values of its rule (R13, R34, R49, R70, R90, R118, R147, R161,
R174, R191); that a lane page also names the stack stamp is the model's choice (Log 28). READ_REPEAT part 0 copies the
record or the pending cut, and the other parts come from that copy. -/
def Obligations.LinksAnswerFromFlagsSnapshotAndCopy : Prop :=
  ∀ (k : StationLink) (s : State), (s.link k).phase ≠ .discarded →
    let u := s.link k
    exec (.readEvents k) s = .next (s.reply k .readEvents .ok (.events u.flags u.mask (u.flags &&& u.mask != 0))) ∧
    (∀ m : EventSet,
      exec (.ackEvents k m) s = .next ((s.setLink k { u with flags := u.flags &&& ~~~m }).reply k .ackEvents .ok
        (.eventSet (u.flags &&& ~~~m))) ∧
      exec (.setEventMask k m) s = .next ((s.setLink k { u with mask := m &&& carriedEvents k }).reply
        k .setEventMask .ok (.eventSet (m &&& carriedEvents k)))) ∧
    (∀ page : Nat, 29 < page → exec (.readStatus k page) s = .next (s.refuse k .readStatus .range)) ∧
    exec (.readStatus k 0) s = .next ((s.setLink k { u with
        snapshot := some ⟨s.pos, s.reg, s.cut, s.map, s.lanes, s.log, s.act, s.prof, s.pins⟩
        snapshotNo := u.snapshotNo + 1 }).reply k .readStatus .ok (.status (u.snapshotNo + 1)
          (.overview s.mode s.pins.stop s.prof.commit (s.prof.pending != s.prof.active)))) ∧
    (∀ page : Nat, 1 ≤ page → page ≤ 29 → u.snapshot = none →
      exec (.readStatus k page) s = .next (s.refuse k .readStatus .state)) ∧
    (∀ image, u.snapshot = some image →
      let page (n : Nat) (p : StatusPage) : Prop :=
        exec (.readStatus k n) s = .next (s.reply k .readStatus .ok (.status u.snapshotNo p))
      let reg := image.reg
      let cut := image.cut
      let map := image.map
      let log := image.log
      let act := image.act
      let p := image.prof.active
      let diag (o : Output) : DiagState := match act.latchOf o with
        | some .overload => .overload
        | some .opened => .opened
        | none => if act.enabled.has o then .ok else .disabled
      let driven (o : Output) : Bool := act.driven image.prof.mode o
      let gate (l : Lane) : GateReport := ⟨act.gates[l].hold.map (fun e => e.target), diag (.gate l), driven (.gate l)⟩
      let held (st : StackState) : Nat := log.slots.toList.countP (fun x => x.isIn st)
      page 1 (.positions image.pos.web.counter image.pos.belt.counter image.pos.web.speed image.pos.belt.speed
        image.pos.web.highWater image.pos.belt.highWater) ∧
      page 2 (.registration reg.state reg.lock reg.miss
        (reg.window.map (fun w => (w.status, w.expected, w.opening.target, w.expiry.target))) reg.windowCounter) ∧
      page 3 (.arithmetic reg.pEff (p.pNom * 256 * (1024 - p.stretchLimit) / 1024)
        (p.pNom * 256 * (1024 + p.stretchLimit) / 1024) (cut.latest.map (fun x => x.kEff))
        (cut.latest.map (fun x => x.lead))) ∧
      page 4 (.cuts cut.schedule.length cut.queue.length (cut.schedule.head?.map (fun c => (c.repeatNo, c.fire)))
        (cut.confirm.map (fun w => (w.repeatNo, w.expiry.target))) cut.overrunCarry cut.strikeCarry cut.range) ∧
      page 5 (.splices cut.splices.length (cut.splices.take 2)) ∧
      page 6 (.transit map.records.length (map.records.head?.map (fun r => r.repeatNo))
        (map.records.getLast?.map (fun r => r.repeatNo)) (map.lastStamp.map (fun f => f.value))
        (map.purge.map (fun e => e.target)) map.normalRun map.notices.length) ∧
      page 7 (.stackLog (log.slots.toList.countP (fun x => x == .free)) (held .forming) (held .closed) (held .ready)
        log.ready.length (log.ready.head?.bind (fun i => (log.slots[i].record?).map (fun r => (i, r.lane, r.seq))))) ∧
      page 8 (.drives ⟨act.knife.drive, false, diag .knife, driven .knife⟩
        (allLanes.map (fun l => ⟨act.pushers[l].drive, act.pushers[l].pendingPulse, diag (.pusher l), driven (.pusher l)⟩))
        act.camera.isSome act.enabled) ∧
      page 9 (.gates [gate 0, gate 1, gate 2, gate 3]) ∧
      page 10 (.gates [gate 4, gate 5, gate 6, gate 7]) ∧
      (∀ l : Lane, let lane := image.lanes[l]
        page (l.val + 11) (.laneWork lane.state lane.gap lane.orders.length
          (lane.orders.head?.map (fun o => (o.tag, o.job, o.target)))
          (lane.openStack.bind (fun o => match log.slots[o.slot] with
            | .held .forming r => some (o, r.seq, r.count, r.target)
            | .held .closed _ | .held .ready _ | .free => none)) lane.nextSeq) ∧
        page (l.val + 19) (.laneEjects lane.ejects.length
          (lane.ejects.head?.map (fun e => (e.slot, e.seq, e.position.target, e.due)))
          (lane.quarantine.map (fun q => (q.seq, q.count, q.shouldReject, q.first, q.last)))
          (lane.rejectEnd.map (fun f => f.value)))) ∧
      page 27 (.lastMark reg.lastEvent reg.lastError reg.pEff reg.newest (reg.virtualTarget.map (fun e => e.target))) ∧
      page 28 (.placement (cut.latest.map (fun x => x.fire)) cut.lastFire (match cut.schedule.getLast? with
        | some newest => some newest.fire
        | none => cut.lastFire)) ∧
      page 29 (.moreSplices ((cut.splices.drop 2).take 2))) ∧
    (∀ (n : RepeatNo) (part : Nat), 3 < part → exec (.readRepeat k n part) s = .next (s.refuse k .readRepeat .range)) ∧
    (∀ n : RepeatNo,
      let copied (c : RepeatCopy) : Prop := exec (.readRepeat k n 0) s =
        .next ((s.setLink k { u with copy := some c }).reply k .readRepeat .ok (.repeatPart 0 c))
      (∀ r, s.record n = some r → copied (.record r)) ∧
      (s.record n = none → ∀ older c newer, s.cut.schedule = older ++ c :: newer → (∀ x ∈ older, x.repeatNo ≠ n) →
        c.repeatNo = n → copied (.cut c false)) ∧
      (s.record n = none → (∀ x ∈ s.cut.schedule, x.repeatNo ≠ n) → ∀ older c newer,
        s.cut.queue = older ++ c :: newer → (∀ x ∈ older, x.repeatNo ≠ n) → c.repeatNo = n → copied (.cut c true)) ∧
      (s.record n = none → (∀ x ∈ s.cut.schedule ++ s.cut.queue, x.repeatNo ≠ n) → exec (.readRepeat k n 0) s =
        .next ((s.setLink k { u with copy := none }).refuse k .readRepeat .unknown))) ∧
    ∀ (n : RepeatNo) (part : Nat), 1 ≤ part → part ≤ 3 →
      let answer := exec (.readRepeat k n part) s
      ((∀ c ∈ u.copy, c.number ≠ n) → answer = .next (s.refuse k .readRepeat .state)) ∧
      ∀ c, u.copy = some c → c.number = n → answer = match c with
        | .record r => .next (s.reply k .readRepeat .ok (.repeatPart part (.record r)))
        | .cut _ _ => .next (s.refuse k .readRepeat .empty)

/-- LINE_REJECT (R100 to R103, R54, R55): refused for a count, a mask or a far repeat out of range; otherwise the mask
joins the line lanes of each record of the run for its undecided lanes, and of each pending cut of the run, and the
NOT_YET part becomes the line-reject range. -/
def Obligations.LineRejectCondemnsItsRun : Prop :=
  ∀ (first : RepeatNo) (count : Nat) (m : LaneSet) (s : State), FramesWhole s → RecordsDistinct s →
    let answer := exec (.lineReject .line first count m) s
    let named : RepeatNo → Bool := fun n => decide ((n - first).toNat < count)
    let run := (List.range count).map (fun i => first + BitVec.ofNat 16 i)
    let future := run.filter (fun n => s.classOf n == .notYet)
    (∀ k : StationLink, k ≠ .line →
      exec (.lineReject k first count m) s = .next (s.refuse k .lineReject .denied)) ∧
    (count = 0 ∨ 256 < count ∨ m = 0 → answer = .next (s.refuse .line .lineReject .range)) ∧
    (run.any (fun n => s.classOf n == .far) = true → answer = .next (s.refuse .line .lineReject .range)) ∧
    (1 ≤ count → count ≤ 256 → m ≠ 0 → run.any (fun n => s.classOf n == .far) = false →
      let joins (r : RepeatRecord) : LaneSet := LaneSet.ofTest (fun l => LaneSet.has m l && r.undecided l)
      let condemned (c : Cut) : Cut :=
        if named c.repeatNo && (s.record c.repeatNo).isNone then { c with lineLanes := c.lineLanes ||| m } else c
      let now := run.filter (fun n => match s.record n with
        | some r => joins r != 0
        | none => s.classOf n == .pending)
      let t := (s.setMap { s.map with records := s.map.records.map (fun r =>
          if named r.repeatNo then { r with lineLanes := r.lineLanes ||| joins r } else r) }).setCut { s.cut with
        schedule := s.cut.schedule.map condemned
        queue := s.cut.queue.map condemned
        range := match future with
          | [] => s.cut.range
          | n :: _ => ⟨n, future.length, m⟩ }
      answer = .next (t.reply .line .lineReject .ok
        (.lineRejected now.length future.length (count - now.length - future.length))))

/-- VERDICT by the class of its repeat (R94 to R96): merged into the record's undecided lanes with the higher defect
class, late for decided ones and for a GONE repeat, refused otherwise; FETCH_NOTICE removes the oldest notice (R83). -/
def Obligations.VerdictsReachUndecidedLanes : Prop :=
  ∀ s : State, FramesWhole s →
    (∀ (n : RepeatNo) (m : LaneSet) (c : BitVec 8),
      let answer := exec (.verdict .inspection n m c) s
      let late := raiseEvent .lateVerdict (s.setCnt { s.cnt with
        lateVerdicts := if s.cnt.lateVerdicts = 65535 then 65535 else s.cnt.lateVerdicts + 1 })
      (∀ k : StationLink, k ≠ .inspection → exec (.verdict k n m c) s = .next (s.refuse k .verdict .denied) ∧
        exec (.fetchNotice k) s = .next (s.refuse k .fetchNotice .denied)) ∧
      (15 < c.toNat → answer = .next (s.refuse .inspection .verdict .range)) ∧
      (c.toNat ≤ 15 → s.record n = none →
        (s.classOf n = .gone → answer = .next (late.reply .inspection .verdict .late (.verdict 0 0 none))) ∧
        (s.classOf n ≠ .gone → answer = .next (s.refuse .inspection .verdict .unknown))) ∧
      (c.toNat ≤ 15 → ∀ r, s.record n = some r →
        let undecided := LaneSet.ofTest (fun l => r.undecided l)
        let decided := r.laneSet &&& ~~~undecided
        let state := if r.verdict = .awaited then .received else r.verdict
        let joined (t : State) : State := t.setMap { s.map with
          records := updateFirst (fun q => q.repeatNo == n) (fun _ => { r with
            vision := r.vision ||| (m &&& undecided)
            defectClass := some (max (r.defectClass.getD 0) c.toNat)
            verdict := state }) s.map.records }
        (undecided = 0 → answer = .next (late.reply .inspection .verdict .late (.verdict 0 decided (some r.verdict)))) ∧
        (undecided ≠ 0 → m &&& decided = 0 →
          answer = .next ((joined s).reply .inspection .verdict .ok (.verdict undecided decided (some state)))) ∧
        (undecided ≠ 0 → m &&& decided ≠ 0 →
          answer = .next ((joined late).reply .inspection .verdict .ok (.verdict undecided decided (some state)))))) ∧
    (s.map.notices = [] →
      exec (.fetchNotice .inspection) s = .next (s.refuse .inspection .fetchNotice .empty)) ∧
    ∀ n rest, s.map.notices = n :: rest → exec (.fetchNotice .inspection) s =
      .next ((s.setMap { s.map with notices := rest }).reply .inspection .fetchNotice .ok (.notice n rest.length))

/-- The counters (R199, R200): the groups of each lane, RANGE above 32; CLEAR_COUNTERS leaves each lane's labels cut at
its undecided labels and every other count at 0. SET_DIAG_ENABLE replaces the enable set and restarts the filter times
of the outputs it adds or removes (R169). -/
def Obligations.CountersAreReadAndClearedWhole : Prop :=
  ∀ s : State, FramesWhole s →
    (∀ l : Lane, let c := s.counts l
      let group (n : Nat) (counts : List (BitVec 32)) : Prop :=
        exec (.readCounters .line n) s = .next (s.reply .line .readCounters .ok (.laneCounts counts))
      group (l.val + 1) [c.cut, c.stacked, c.rejected, c.quarantined, c.lost] ∧
      group (l.val + 9) [c.causes[0], c.causes[1], c.causes[2], c.causes[3], c.causes[4]] ∧
      group (l.val + 17) [c.causes[5], c.causes[6], c.causes[7], c.causes[8], c.causes[9]] ∧
      group (l.val + 25) [c.causes[10], c.causes[11], c.causes[12], c.causes[13], c.causes[14]]) ∧
    (∀ n : Nat, 32 < n → exec (.readCounters .line n) s = .next (s.refuse .line .readCounters .range)) ∧
    (∃ t, exec (.clearCounters .line) s = .next t ∧
      t = (s.setCnt t.cnt).reply .line .clearCounters .ok
        (.labelsCut (allLanes.map (fun l => undecidedIn s.map.records l))) ∧
      (∀ l : Lane, t.counts l = { LaneCounts.zero with cut := BitVec.ofNat 32 (undecidedIn s.map.records l) }) ∧
      t.cnt = { t.cnt with
        strayMarks := 0, shortMarks := 0, misses := 0, strayConfirms := 0, lateVerdicts := 0, noticeOverflows := 0
        webSkips := 0, beltSkips := 0 }) ∧
    ∀ (knife : Bool) (gates pushers : LaneSet),
      let has : Output → Bool
        | .knife => knife
        | .gate l => LaneSet.has gates l
        | .pusher l => LaneSet.has pushers l
      (∀ o : Output, has o = true → s.driven o = true → s.atFault o = false) →
      ∃ t, exec (.setDiagEnable .line knife gates pushers) s = .next t ∧
        t = (s.setAct t.act).reply .line .setDiagEnable .ok .none ∧
        t.act.unfiltered = { s.act.unfiltered with enabled := ⟨knife, gates, pushers⟩ } ∧
        ∀ o : Output, t.filterOf o = if s.driven o = true ∨ s.enabled o ≠ has o then .settling else s.filterOf o

/-! ## The active lane mask (07) -/

/-- A commit that changes the active lane mask (R142, R143), IMMEDIATE in SETUP, RUN, DRY or DRAINING or at its mark
event (R183): a lane that leaves becomes OFF, its FORMING stack closed short with kind SHORT_LANE_REMOVED, and, when the
belt has passed its position, ejected at once or left due for a busy pusher (R128 to R131); a lane that joins becomes
IDLE or BLOCKED, or FAULT when a latch is set, with its quarantine record and its closed stacks READY flagged
EJECT_FAULT; every other lane stands. That an eject made here in DRY or a dry drain with a LATCHED pusher sets
EJECT_FAULT is the model's choice (Log 30). -/
def Obligations.MaskChangesActOnTheirLanes : Prop :=
  ∀ (c : Instr) (l : Lane) (s : State), s.commitsAt c = true → FramesWhole s → SensesClear s → LanesOwnTheirSlots s →
    (s.mode ≠ .setup → DeficitsWithin s s.prof.pending.reverseLimit) →
    let u := s.setProf { s.prof with active := s.prof.pending }
    let was := LaneSet.has s.prof.active.laneMask l
    let is := LaneSet.has s.prof.pending.laneMask l
    let latched := (s.gate l).latch ≠ none ∨ (s.pusher l).latch ≠ none
    ∃ t, exec c s = .next t ∧ t.profile = s.prof.pending ∧
      (was = is → t.lane l = s.lane l) ∧
      (was = true → is = false → (s.lane l).state ≠ .stacking →
        t.lane l = { s.lane l with state := .off, gap := 0 }) ∧
      (was = true → is = false → (s.lane l).state = .stacking → ∀ o q, s.formingStack l = some (o, q) →
        let v := u.shortEnded l o q .shortLaneRemoved
        t.lane l = { v.lane l with state := .off } ∧ t.slot o.slot = v.slot o.slot) ∧
      (was = false → is = true → ¬latched →
        t.lane l = { s.lane l with state := if (s.lane l).orders = [] then .idle else .blocked }) ∧
      (was = false → is = true → latched →
        t.lane l = { s.lane l with
          state := .fault
          ejects := []
          quarantine := some ((s.lane l).quarantine.getD (emptyQuarantine l (s.lane l).nextSeq s.mode.isDryKind))
          nextSeq := if (s.lane l).quarantine.isSome then (s.lane l).nextSeq else (s.lane l).nextSeq + 1 } ∧
        ∀ e ∈ (s.lane l).ejects, ∃ r ∈ (s.slot e.slot).record?,
          t.slot e.slot = .held .ready { r with ejectFault := true })

/-! ## What every step keeps -/

/-- The invariants hold right after device reset, whatever stood before. -/
def Obligations.ResetMeetsEveryInvariant : Prop :=
  ∀ s : State, ∃ t, exec .deviceReset s = .next t ∧
    PEffInBand t ∧ WithinCapacity t ∧ ReadyListExact t ∧ LabelsBalance t ∧ CondemnedNeverStacked t ∧ RecordsDistinct t ∧
    IdleIsQuiet t ∧ HaltIsStill t ∧ StopMeansHalt t ∧ LatchesHold t ∧ WaitingCommitValid t ∧ DrainingHasWork t ∧
    WindowMatchesState t ∧ EventsCarried t ∧ LaneStatesMean t ∧ LanesOwnTheirSlots t ∧ SlotsHaveOwners t

/-- Every step keeps P_eff in the band of the active profile (R39), every list within its bound (R50, R57, R71, R82, R120,
R127), and on every link flags and mask of the events it carries (R195, R196). -/
def Obligations.StepKeepsBandsAndBounds : Prop :=
  ∀ s t : State, step s = .next t →
    (PEffInBand s → PEffInBand t) ∧ (WithinCapacity s → WithinCapacity t) ∧ (EventsCarried s → EventsCarried t)

/-- Every step keeps the balance of every lane (R116). -/
def Obligations.StepKeepsTheBalanceOfLabels : Prop :=
  ∀ s t : State, LabelsBalance s → step s = .next t → LabelsBalance t

/-- Every step keeps condemned labels out of the stacks (R109, R110), and no step changes a disposition once made, or the
repeat number, stamp, lane set or positions of a record (R85). Numbers of records and pending cuts that differ, none of them
soon to be given out again, still differ after the step (R27, R71). -/
def Obligations.StepDecidesEachLabelOnce : Prop :=
  ∀ s t : State, CondemnedNeverStacked s → step s = .next t →
    CondemnedNeverStacked t ∧ (NumbersApart s → t.numbersHeld.Nodup ∧ RecordsDistinct t) ∧
    (RecordsDistinct s → ∀ r ∈ s.map.records, ∀ r', t.record r.repeatNo = some r' →
      r'.stamp = r.stamp ∧ r'.laneSet = r.laneSet ∧ r'.decision.target = r.decision.target ∧
      r'.exit.target = r.exit.target ∧ r'.camera.map (fun e => e.target) = r.camera.map (fun e => e.target) ∧
      (∀ l : Lane, r.dispositions[l] ≠ .undecided → r'.dispositions[l] = r.dispositions[l]) ∧
      (r.decisionTaken = true → r'.dispositions = r.dispositions))

/-- Every step keeps the log and the lanes in agreement: the ready list holds the READY slots, each once (R153); every
FORMING and CLOSED slot belongs to one lane (R148, R159); each lane state means what R119 says; a latched lane is in
FAULT or OFF (R136, R143). -/
def Obligations.StepKeepsLanesAndLogInAgreement : Prop :=
  ∀ s t : State,
    ReadyListExact s → LatchesHold s → LaneStatesMean s → LanesOwnTheirSlots s → SlotsHaveOwners s → step s = .next t →
    ReadyListExact t ∧ LaneStatesMean t ∧ LanesOwnTheirSlots t ∧ SlotsHaveOwners t

/-- Every step keeps what each mode promises: idle blocks in SETUP and HALT (R9, R32, R68, R164), still outputs in HALT
(R165, R168, R182), HALT while STOP is active (R188), latched drives (R172), a waiting commit that passed validation
(R178, R180), work in DRAINING (R186), a window outside SEARCH and a virtual target in SEARCH (R16, R19, R22). -/
def Obligations.StepKeepsWhatTheModesPromise : Prop :=
  ∀ s t : State,
    IdleIsQuiet s → HaltIsStill s → StopMeansHalt s → LatchesHold s → WaitingCommitValid s → DrainingHasWork s →
    WindowMatchesState s → step s = .next t →
    IdleIsQuiet t ∧ HaltIsStill t ∧ StopMeansHalt t ∧ LatchesHold t ∧ WaitingCommitValid t ∧ DrainingHasWork t ∧
    WindowMatchesState t

/-- The ways between the modes (the table before R185; R185 to R189): SETUP is left to RUN or DRY by SET_MODE; RUN and DRY
to DRAINING of their kind by SET_MODE STOP; DRAINING to SETUP at its end; HALT to SETUP by RESET_TRACK; any mode to HALT,
and HALT to no other mode and no other cause. A STOP request that finds nothing left to do passes RUN and DRY to SETUP,
and a knife latch passes an entry to RUN to HALT, within the one request. A frame given by its words counts as the
request they spell. -/
def Obligations.ModesMoveOnlyByTheirWays : Prop :=
  ∀ (row : Instr) (s : State), row ≠ .deviceReset → ∃ t, exec row s = .next t ∧
    let c := row.spelled
    (t.mode = s.mode ∨ (s.mode.isHalt = false ∧ t.mode.isHalt = true) ∨
      (s.mode = .setup ∧ (c = .setMode .line 0 ∧ t.mode = .run ∨ c = .setMode .line 1 ∧ t.mode = .dry)) ∨
      (s.mode = .run ∧ c = .setMode .line 2 ∧ (t.mode = .draining false ∨ t.mode = .setup)) ∨
      (s.mode = .dry ∧ c = .setMode .line 2 ∧ (t.mode = .draining true ∨ t.mode = .setup)) ∨
      (s.mode.isDraining = true ∧ t.mode = .setup ∧ t.flag .line .drained = true) ∨
      (s.mode.isHalt = true ∧ c = .resetTrack .line ∧ t.mode = .setup))
end

