-- ==== Sys2Proof/Laws/State.lean ====
section
/-!
SUPPORT. One lemma per field per update of `State`, and the reads of what an update wrote.
-/

namespace Sys2Proof.Machine

/-! ### setPos -/

@[simp] theorem setPos_pos (s : State) (b : PositionUnit) : (s.setPos b).pos = b := rfl
@[simp] theorem setPos_reg (s : State) (b : PositionUnit) : (s.setPos b).reg = s.reg := rfl
@[simp] theorem setPos_cut (s : State) (b : PositionUnit) : (s.setPos b).cut = s.cut := rfl
@[simp] theorem setPos_map (s : State) (b : PositionUnit) : (s.setPos b).map = s.map := rfl
@[simp] theorem setPos_lanes (s : State) (b : PositionUnit) : (s.setPos b).lanes = s.lanes := rfl
@[simp] theorem setPos_log (s : State) (b : PositionUnit) : (s.setPos b).log = s.log := rfl
@[simp] theorem setPos_act (s : State) (b : PositionUnit) : (s.setPos b).act = s.act := rfl
@[simp] theorem setPos_prof (s : State) (b : PositionUnit) : (s.setPos b).prof = s.prof := rfl
@[simp] theorem setPos_pins (s : State) (b : PositionUnit) : (s.setPos b).pins = s.pins := rfl
@[simp] theorem setPos_cnt (s : State) (b : PositionUnit) : (s.setPos b).cnt = s.cnt := rfl
@[simp] theorem setPos_links (s : State) (b : PositionUnit) : (s.setPos b).links = s.links := rfl
@[simp] theorem setPos_races (s : State) (b : PositionUnit) : (s.setPos b).races = s.races := rfl
@[simp] theorem setPos_pending (s : State) (b : PositionUnit) : (s.setPos b).pending = s.pending := rfl

/-! ### setReg -/

@[simp] theorem setReg_pos (s : State) (b : Registration) : (s.setReg b).pos = s.pos := rfl
@[simp] theorem setReg_reg (s : State) (b : Registration) : (s.setReg b).reg = b := rfl
@[simp] theorem setReg_cut (s : State) (b : Registration) : (s.setReg b).cut = s.cut := rfl
@[simp] theorem setReg_map (s : State) (b : Registration) : (s.setReg b).map = s.map := rfl
@[simp] theorem setReg_lanes (s : State) (b : Registration) : (s.setReg b).lanes = s.lanes := rfl
@[simp] theorem setReg_log (s : State) (b : Registration) : (s.setReg b).log = s.log := rfl
@[simp] theorem setReg_act (s : State) (b : Registration) : (s.setReg b).act = s.act := rfl
@[simp] theorem setReg_prof (s : State) (b : Registration) : (s.setReg b).prof = s.prof := rfl
@[simp] theorem setReg_pins (s : State) (b : Registration) : (s.setReg b).pins = s.pins := rfl
@[simp] theorem setReg_cnt (s : State) (b : Registration) : (s.setReg b).cnt = s.cnt := rfl
@[simp] theorem setReg_links (s : State) (b : Registration) : (s.setReg b).links = s.links := rfl
@[simp] theorem setReg_races (s : State) (b : Registration) : (s.setReg b).races = s.races := rfl
@[simp] theorem setReg_pending (s : State) (b : Registration) : (s.setReg b).pending = s.pending := rfl

/-! ### setCut -/

@[simp] theorem setCut_pos (s : State) (b : CutScheduler) : (s.setCut b).pos = s.pos := rfl
@[simp] theorem setCut_reg (s : State) (b : CutScheduler) : (s.setCut b).reg = s.reg := rfl
@[simp] theorem setCut_cut (s : State) (b : CutScheduler) : (s.setCut b).cut = b := rfl
@[simp] theorem setCut_map (s : State) (b : CutScheduler) : (s.setCut b).map = s.map := rfl
@[simp] theorem setCut_lanes (s : State) (b : CutScheduler) : (s.setCut b).lanes = s.lanes := rfl
@[simp] theorem setCut_log (s : State) (b : CutScheduler) : (s.setCut b).log = s.log := rfl
@[simp] theorem setCut_act (s : State) (b : CutScheduler) : (s.setCut b).act = s.act := rfl
@[simp] theorem setCut_prof (s : State) (b : CutScheduler) : (s.setCut b).prof = s.prof := rfl
@[simp] theorem setCut_pins (s : State) (b : CutScheduler) : (s.setCut b).pins = s.pins := rfl
@[simp] theorem setCut_cnt (s : State) (b : CutScheduler) : (s.setCut b).cnt = s.cnt := rfl
@[simp] theorem setCut_links (s : State) (b : CutScheduler) : (s.setCut b).links = s.links := rfl
@[simp] theorem setCut_races (s : State) (b : CutScheduler) : (s.setCut b).races = s.races := rfl
@[simp] theorem setCut_pending (s : State) (b : CutScheduler) : (s.setCut b).pending = s.pending := rfl

/-! ### setMap -/

@[simp] theorem setMap_pos (s : State) (b : TransitMap) : (s.setMap b).pos = s.pos := rfl
@[simp] theorem setMap_reg (s : State) (b : TransitMap) : (s.setMap b).reg = s.reg := rfl
@[simp] theorem setMap_cut (s : State) (b : TransitMap) : (s.setMap b).cut = s.cut := rfl
@[simp] theorem setMap_map (s : State) (b : TransitMap) : (s.setMap b).map = b := rfl
@[simp] theorem setMap_lanes (s : State) (b : TransitMap) : (s.setMap b).lanes = s.lanes := rfl
@[simp] theorem setMap_log (s : State) (b : TransitMap) : (s.setMap b).log = s.log := rfl
@[simp] theorem setMap_act (s : State) (b : TransitMap) : (s.setMap b).act = s.act := rfl
@[simp] theorem setMap_prof (s : State) (b : TransitMap) : (s.setMap b).prof = s.prof := rfl
@[simp] theorem setMap_pins (s : State) (b : TransitMap) : (s.setMap b).pins = s.pins := rfl
@[simp] theorem setMap_cnt (s : State) (b : TransitMap) : (s.setMap b).cnt = s.cnt := rfl
@[simp] theorem setMap_links (s : State) (b : TransitMap) : (s.setMap b).links = s.links := rfl
@[simp] theorem setMap_races (s : State) (b : TransitMap) : (s.setMap b).races = s.races := rfl
@[simp] theorem setMap_pending (s : State) (b : TransitMap) : (s.setMap b).pending = s.pending := rfl

/-! ### setLanes -/

@[simp] theorem setLanes_pos (s : State) (b : Vector LaneUnit 8) : (s.setLanes b).pos = s.pos := rfl
@[simp] theorem setLanes_reg (s : State) (b : Vector LaneUnit 8) : (s.setLanes b).reg = s.reg := rfl
@[simp] theorem setLanes_cut (s : State) (b : Vector LaneUnit 8) : (s.setLanes b).cut = s.cut := rfl
@[simp] theorem setLanes_map (s : State) (b : Vector LaneUnit 8) : (s.setLanes b).map = s.map := rfl
@[simp] theorem setLanes_lanes (s : State) (b : Vector LaneUnit 8) : (s.setLanes b).lanes = b := rfl
@[simp] theorem setLanes_log (s : State) (b : Vector LaneUnit 8) : (s.setLanes b).log = s.log := rfl
@[simp] theorem setLanes_act (s : State) (b : Vector LaneUnit 8) : (s.setLanes b).act = s.act := rfl
@[simp] theorem setLanes_prof (s : State) (b : Vector LaneUnit 8) : (s.setLanes b).prof = s.prof := rfl
@[simp] theorem setLanes_pins (s : State) (b : Vector LaneUnit 8) : (s.setLanes b).pins = s.pins := rfl
@[simp] theorem setLanes_cnt (s : State) (b : Vector LaneUnit 8) : (s.setLanes b).cnt = s.cnt := rfl
@[simp] theorem setLanes_links (s : State) (b : Vector LaneUnit 8) : (s.setLanes b).links = s.links := rfl
@[simp] theorem setLanes_races (s : State) (b : Vector LaneUnit 8) : (s.setLanes b).races = s.races := rfl
@[simp] theorem setLanes_pending (s : State) (b : Vector LaneUnit 8) : (s.setLanes b).pending = s.pending := rfl

/-! ### setLog -/

@[simp] theorem setLog_pos (s : State) (b : StackLog) : (s.setLog b).pos = s.pos := rfl
@[simp] theorem setLog_reg (s : State) (b : StackLog) : (s.setLog b).reg = s.reg := rfl
@[simp] theorem setLog_cut (s : State) (b : StackLog) : (s.setLog b).cut = s.cut := rfl
@[simp] theorem setLog_map (s : State) (b : StackLog) : (s.setLog b).map = s.map := rfl
@[simp] theorem setLog_lanes (s : State) (b : StackLog) : (s.setLog b).lanes = s.lanes := rfl
@[simp] theorem setLog_log (s : State) (b : StackLog) : (s.setLog b).log = b := rfl
@[simp] theorem setLog_act (s : State) (b : StackLog) : (s.setLog b).act = s.act := rfl
@[simp] theorem setLog_prof (s : State) (b : StackLog) : (s.setLog b).prof = s.prof := rfl
@[simp] theorem setLog_pins (s : State) (b : StackLog) : (s.setLog b).pins = s.pins := rfl
@[simp] theorem setLog_cnt (s : State) (b : StackLog) : (s.setLog b).cnt = s.cnt := rfl
@[simp] theorem setLog_links (s : State) (b : StackLog) : (s.setLog b).links = s.links := rfl
@[simp] theorem setLog_races (s : State) (b : StackLog) : (s.setLog b).races = s.races := rfl
@[simp] theorem setLog_pending (s : State) (b : StackLog) : (s.setLog b).pending = s.pending := rfl

/-! ### setAct -/

@[simp] theorem setAct_pos (s : State) (b : Actuators) : (s.setAct b).pos = s.pos := rfl
@[simp] theorem setAct_reg (s : State) (b : Actuators) : (s.setAct b).reg = s.reg := rfl
@[simp] theorem setAct_cut (s : State) (b : Actuators) : (s.setAct b).cut = s.cut := rfl
@[simp] theorem setAct_map (s : State) (b : Actuators) : (s.setAct b).map = s.map := rfl
@[simp] theorem setAct_lanes (s : State) (b : Actuators) : (s.setAct b).lanes = s.lanes := rfl
@[simp] theorem setAct_log (s : State) (b : Actuators) : (s.setAct b).log = s.log := rfl
@[simp] theorem setAct_act (s : State) (b : Actuators) : (s.setAct b).act = b := rfl
@[simp] theorem setAct_prof (s : State) (b : Actuators) : (s.setAct b).prof = s.prof := rfl
@[simp] theorem setAct_pins (s : State) (b : Actuators) : (s.setAct b).pins = s.pins := rfl
@[simp] theorem setAct_cnt (s : State) (b : Actuators) : (s.setAct b).cnt = s.cnt := rfl
@[simp] theorem setAct_links (s : State) (b : Actuators) : (s.setAct b).links = s.links := rfl
@[simp] theorem setAct_races (s : State) (b : Actuators) : (s.setAct b).races = s.races := rfl
@[simp] theorem setAct_pending (s : State) (b : Actuators) : (s.setAct b).pending = s.pending := rfl

/-! ### setProf -/

@[simp] theorem setProf_pos (s : State) (b : ProfileUnit) : (s.setProf b).pos = s.pos := rfl
@[simp] theorem setProf_reg (s : State) (b : ProfileUnit) : (s.setProf b).reg = s.reg := rfl
@[simp] theorem setProf_cut (s : State) (b : ProfileUnit) : (s.setProf b).cut = s.cut := rfl
@[simp] theorem setProf_map (s : State) (b : ProfileUnit) : (s.setProf b).map = s.map := rfl
@[simp] theorem setProf_lanes (s : State) (b : ProfileUnit) : (s.setProf b).lanes = s.lanes := rfl
@[simp] theorem setProf_log (s : State) (b : ProfileUnit) : (s.setProf b).log = s.log := rfl
@[simp] theorem setProf_act (s : State) (b : ProfileUnit) : (s.setProf b).act = s.act := rfl
@[simp] theorem setProf_prof (s : State) (b : ProfileUnit) : (s.setProf b).prof = b := rfl
@[simp] theorem setProf_pins (s : State) (b : ProfileUnit) : (s.setProf b).pins = s.pins := rfl
@[simp] theorem setProf_cnt (s : State) (b : ProfileUnit) : (s.setProf b).cnt = s.cnt := rfl
@[simp] theorem setProf_links (s : State) (b : ProfileUnit) : (s.setProf b).links = s.links := rfl
@[simp] theorem setProf_races (s : State) (b : ProfileUnit) : (s.setProf b).races = s.races := rfl
@[simp] theorem setProf_pending (s : State) (b : ProfileUnit) : (s.setProf b).pending = s.pending := rfl

/-! ### setPins -/

@[simp] theorem setPins_pos (s : State) (b : Pins) : (s.setPins b).pos = s.pos := rfl
@[simp] theorem setPins_reg (s : State) (b : Pins) : (s.setPins b).reg = s.reg := rfl
@[simp] theorem setPins_cut (s : State) (b : Pins) : (s.setPins b).cut = s.cut := rfl
@[simp] theorem setPins_map (s : State) (b : Pins) : (s.setPins b).map = s.map := rfl
@[simp] theorem setPins_lanes (s : State) (b : Pins) : (s.setPins b).lanes = s.lanes := rfl
@[simp] theorem setPins_log (s : State) (b : Pins) : (s.setPins b).log = s.log := rfl
@[simp] theorem setPins_act (s : State) (b : Pins) : (s.setPins b).act = s.act := rfl
@[simp] theorem setPins_prof (s : State) (b : Pins) : (s.setPins b).prof = s.prof := rfl
@[simp] theorem setPins_pins (s : State) (b : Pins) : (s.setPins b).pins = b := rfl
@[simp] theorem setPins_cnt (s : State) (b : Pins) : (s.setPins b).cnt = s.cnt := rfl
@[simp] theorem setPins_links (s : State) (b : Pins) : (s.setPins b).links = s.links := rfl
@[simp] theorem setPins_races (s : State) (b : Pins) : (s.setPins b).races = s.races := rfl
@[simp] theorem setPins_pending (s : State) (b : Pins) : (s.setPins b).pending = s.pending := rfl

/-! ### setCnt -/

@[simp] theorem setCnt_pos (s : State) (b : Counters) : (s.setCnt b).pos = s.pos := rfl
@[simp] theorem setCnt_reg (s : State) (b : Counters) : (s.setCnt b).reg = s.reg := rfl
@[simp] theorem setCnt_cut (s : State) (b : Counters) : (s.setCnt b).cut = s.cut := rfl
@[simp] theorem setCnt_map (s : State) (b : Counters) : (s.setCnt b).map = s.map := rfl
@[simp] theorem setCnt_lanes (s : State) (b : Counters) : (s.setCnt b).lanes = s.lanes := rfl
@[simp] theorem setCnt_log (s : State) (b : Counters) : (s.setCnt b).log = s.log := rfl
@[simp] theorem setCnt_act (s : State) (b : Counters) : (s.setCnt b).act = s.act := rfl
@[simp] theorem setCnt_prof (s : State) (b : Counters) : (s.setCnt b).prof = s.prof := rfl
@[simp] theorem setCnt_pins (s : State) (b : Counters) : (s.setCnt b).pins = s.pins := rfl
@[simp] theorem setCnt_cnt (s : State) (b : Counters) : (s.setCnt b).cnt = b := rfl
@[simp] theorem setCnt_links (s : State) (b : Counters) : (s.setCnt b).links = s.links := rfl
@[simp] theorem setCnt_races (s : State) (b : Counters) : (s.setCnt b).races = s.races := rfl
@[simp] theorem setCnt_pending (s : State) (b : Counters) : (s.setCnt b).pending = s.pending := rfl

/-! ### setLinks -/

@[simp] theorem setLinks_pos (s : State) (b : Links) : (s.setLinks b).pos = s.pos := rfl
@[simp] theorem setLinks_reg (s : State) (b : Links) : (s.setLinks b).reg = s.reg := rfl
@[simp] theorem setLinks_cut (s : State) (b : Links) : (s.setLinks b).cut = s.cut := rfl
@[simp] theorem setLinks_map (s : State) (b : Links) : (s.setLinks b).map = s.map := rfl
@[simp] theorem setLinks_lanes (s : State) (b : Links) : (s.setLinks b).lanes = s.lanes := rfl
@[simp] theorem setLinks_log (s : State) (b : Links) : (s.setLinks b).log = s.log := rfl
@[simp] theorem setLinks_act (s : State) (b : Links) : (s.setLinks b).act = s.act := rfl
@[simp] theorem setLinks_prof (s : State) (b : Links) : (s.setLinks b).prof = s.prof := rfl
@[simp] theorem setLinks_pins (s : State) (b : Links) : (s.setLinks b).pins = s.pins := rfl
@[simp] theorem setLinks_cnt (s : State) (b : Links) : (s.setLinks b).cnt = s.cnt := rfl
@[simp] theorem setLinks_links (s : State) (b : Links) : (s.setLinks b).links = b := rfl
@[simp] theorem setLinks_races (s : State) (b : Links) : (s.setLinks b).races = s.races := rfl
@[simp] theorem setLinks_pending (s : State) (b : Links) : (s.setLinks b).pending = s.pending := rfl

/-! ### setRaces -/

@[simp] theorem setRaces_pos (s : State) (b : Nat) : (s.setRaces b).pos = s.pos := rfl
@[simp] theorem setRaces_reg (s : State) (b : Nat) : (s.setRaces b).reg = s.reg := rfl
@[simp] theorem setRaces_cut (s : State) (b : Nat) : (s.setRaces b).cut = s.cut := rfl
@[simp] theorem setRaces_map (s : State) (b : Nat) : (s.setRaces b).map = s.map := rfl
@[simp] theorem setRaces_lanes (s : State) (b : Nat) : (s.setRaces b).lanes = s.lanes := rfl
@[simp] theorem setRaces_log (s : State) (b : Nat) : (s.setRaces b).log = s.log := rfl
@[simp] theorem setRaces_act (s : State) (b : Nat) : (s.setRaces b).act = s.act := rfl
@[simp] theorem setRaces_prof (s : State) (b : Nat) : (s.setRaces b).prof = s.prof := rfl
@[simp] theorem setRaces_pins (s : State) (b : Nat) : (s.setRaces b).pins = s.pins := rfl
@[simp] theorem setRaces_cnt (s : State) (b : Nat) : (s.setRaces b).cnt = s.cnt := rfl
@[simp] theorem setRaces_links (s : State) (b : Nat) : (s.setRaces b).links = s.links := rfl
@[simp] theorem setRaces_races (s : State) (b : Nat) : (s.setRaces b).races = b := rfl
@[simp] theorem setRaces_pending (s : State) (b : Nat) : (s.setRaces b).pending = s.pending := rfl

/-! ### setPending -/

@[simp] theorem setPending_pos (s : State) (b : List Instr) : (s.setPending b).pos = s.pos := rfl
@[simp] theorem setPending_reg (s : State) (b : List Instr) : (s.setPending b).reg = s.reg := rfl
@[simp] theorem setPending_cut (s : State) (b : List Instr) : (s.setPending b).cut = s.cut := rfl
@[simp] theorem setPending_map (s : State) (b : List Instr) : (s.setPending b).map = s.map := rfl
@[simp] theorem setPending_lanes (s : State) (b : List Instr) : (s.setPending b).lanes = s.lanes := rfl
@[simp] theorem setPending_log (s : State) (b : List Instr) : (s.setPending b).log = s.log := rfl
@[simp] theorem setPending_act (s : State) (b : List Instr) : (s.setPending b).act = s.act := rfl
@[simp] theorem setPending_prof (s : State) (b : List Instr) : (s.setPending b).prof = s.prof := rfl
@[simp] theorem setPending_pins (s : State) (b : List Instr) : (s.setPending b).pins = s.pins := rfl
@[simp] theorem setPending_cnt (s : State) (b : List Instr) : (s.setPending b).cnt = s.cnt := rfl
@[simp] theorem setPending_links (s : State) (b : List Instr) : (s.setPending b).links = s.links := rfl
@[simp] theorem setPending_races (s : State) (b : List Instr) : (s.setPending b).races = s.races := rfl
@[simp] theorem setPending_pending (s : State) (b : List Instr) : (s.setPending b).pending = b := rfl

/-! ### setMode -/

@[simp] theorem setMode_pos (s : State) (m : Mode) : (s.setMode m).pos = s.pos := rfl
@[simp] theorem setMode_reg (s : State) (m : Mode) : (s.setMode m).reg = s.reg := rfl
@[simp] theorem setMode_cut (s : State) (m : Mode) : (s.setMode m).cut = s.cut := rfl
@[simp] theorem setMode_map (s : State) (m : Mode) : (s.setMode m).map = s.map := rfl
@[simp] theorem setMode_lanes (s : State) (m : Mode) : (s.setMode m).lanes = s.lanes := rfl
@[simp] theorem setMode_log (s : State) (m : Mode) : (s.setMode m).log = s.log := rfl
@[simp] theorem setMode_act (s : State) (m : Mode) : (s.setMode m).act = s.act := rfl
@[simp] theorem setMode_pins (s : State) (m : Mode) : (s.setMode m).pins = s.pins := rfl
@[simp] theorem setMode_cnt (s : State) (m : Mode) : (s.setMode m).cnt = s.cnt := rfl
@[simp] theorem setMode_links (s : State) (m : Mode) : (s.setMode m).links = s.links := rfl
@[simp] theorem setMode_races (s : State) (m : Mode) : (s.setMode m).races = s.races := rfl
@[simp] theorem setMode_pending (s : State) (m : Mode) : (s.setMode m).pending = s.pending := rfl

/-! ### setLane -/

@[simp] theorem setLane_pos (s : State) (l : Lane) (u : LaneUnit) : (s.setLane l u).pos = s.pos := rfl
@[simp] theorem setLane_reg (s : State) (l : Lane) (u : LaneUnit) : (s.setLane l u).reg = s.reg := rfl
@[simp] theorem setLane_cut (s : State) (l : Lane) (u : LaneUnit) : (s.setLane l u).cut = s.cut := rfl
@[simp] theorem setLane_map (s : State) (l : Lane) (u : LaneUnit) : (s.setLane l u).map = s.map := rfl
@[simp] theorem setLane_log (s : State) (l : Lane) (u : LaneUnit) : (s.setLane l u).log = s.log := rfl
@[simp] theorem setLane_act (s : State) (l : Lane) (u : LaneUnit) : (s.setLane l u).act = s.act := rfl
@[simp] theorem setLane_prof (s : State) (l : Lane) (u : LaneUnit) : (s.setLane l u).prof = s.prof := rfl
@[simp] theorem setLane_pins (s : State) (l : Lane) (u : LaneUnit) : (s.setLane l u).pins = s.pins := rfl
@[simp] theorem setLane_cnt (s : State) (l : Lane) (u : LaneUnit) : (s.setLane l u).cnt = s.cnt := rfl
@[simp] theorem setLane_links (s : State) (l : Lane) (u : LaneUnit) : (s.setLane l u).links = s.links := rfl
@[simp] theorem setLane_races (s : State) (l : Lane) (u : LaneUnit) : (s.setLane l u).races = s.races := rfl
@[simp] theorem setLane_pending (s : State) (l : Lane) (u : LaneUnit) : (s.setLane l u).pending = s.pending := rfl

/-! ### setSlot -/

@[simp] theorem setSlot_pos (s : State) (i : SlotIndex) (x : Slot) : (s.setSlot i x).pos = s.pos := rfl
@[simp] theorem setSlot_reg (s : State) (i : SlotIndex) (x : Slot) : (s.setSlot i x).reg = s.reg := rfl
@[simp] theorem setSlot_cut (s : State) (i : SlotIndex) (x : Slot) : (s.setSlot i x).cut = s.cut := rfl
@[simp] theorem setSlot_map (s : State) (i : SlotIndex) (x : Slot) : (s.setSlot i x).map = s.map := rfl
@[simp] theorem setSlot_lanes (s : State) (i : SlotIndex) (x : Slot) : (s.setSlot i x).lanes = s.lanes := rfl
@[simp] theorem setSlot_act (s : State) (i : SlotIndex) (x : Slot) : (s.setSlot i x).act = s.act := rfl
@[simp] theorem setSlot_prof (s : State) (i : SlotIndex) (x : Slot) : (s.setSlot i x).prof = s.prof := rfl
@[simp] theorem setSlot_pins (s : State) (i : SlotIndex) (x : Slot) : (s.setSlot i x).pins = s.pins := rfl
@[simp] theorem setSlot_cnt (s : State) (i : SlotIndex) (x : Slot) : (s.setSlot i x).cnt = s.cnt := rfl
@[simp] theorem setSlot_links (s : State) (i : SlotIndex) (x : Slot) : (s.setSlot i x).links = s.links := rfl
@[simp] theorem setSlot_races (s : State) (i : SlotIndex) (x : Slot) : (s.setSlot i x).races = s.races := rfl
@[simp] theorem setSlot_pending (s : State) (i : SlotIndex) (x : Slot) : (s.setSlot i x).pending = s.pending := rfl

/-! ### setGate -/

@[simp] theorem setGate_pos (s : State) (l : Lane) (g : Gate) : (s.setGate l g).pos = s.pos := rfl
@[simp] theorem setGate_reg (s : State) (l : Lane) (g : Gate) : (s.setGate l g).reg = s.reg := rfl
@[simp] theorem setGate_cut (s : State) (l : Lane) (g : Gate) : (s.setGate l g).cut = s.cut := rfl
@[simp] theorem setGate_map (s : State) (l : Lane) (g : Gate) : (s.setGate l g).map = s.map := rfl
@[simp] theorem setGate_lanes (s : State) (l : Lane) (g : Gate) : (s.setGate l g).lanes = s.lanes := rfl
@[simp] theorem setGate_log (s : State) (l : Lane) (g : Gate) : (s.setGate l g).log = s.log := rfl
@[simp] theorem setGate_prof (s : State) (l : Lane) (g : Gate) : (s.setGate l g).prof = s.prof := rfl
@[simp] theorem setGate_pins (s : State) (l : Lane) (g : Gate) : (s.setGate l g).pins = s.pins := rfl
@[simp] theorem setGate_cnt (s : State) (l : Lane) (g : Gate) : (s.setGate l g).cnt = s.cnt := rfl
@[simp] theorem setGate_links (s : State) (l : Lane) (g : Gate) : (s.setGate l g).links = s.links := rfl
@[simp] theorem setGate_races (s : State) (l : Lane) (g : Gate) : (s.setGate l g).races = s.races := rfl
@[simp] theorem setGate_pending (s : State) (l : Lane) (g : Gate) : (s.setGate l g).pending = s.pending := rfl

/-! ### setPusher -/

@[simp] theorem setPusher_pos (s : State) (l : Lane) (p : Pusher) : (s.setPusher l p).pos = s.pos := rfl
@[simp] theorem setPusher_reg (s : State) (l : Lane) (p : Pusher) : (s.setPusher l p).reg = s.reg := rfl
@[simp] theorem setPusher_cut (s : State) (l : Lane) (p : Pusher) : (s.setPusher l p).cut = s.cut := rfl
@[simp] theorem setPusher_map (s : State) (l : Lane) (p : Pusher) : (s.setPusher l p).map = s.map := rfl
@[simp] theorem setPusher_lanes (s : State) (l : Lane) (p : Pusher) : (s.setPusher l p).lanes = s.lanes := rfl
@[simp] theorem setPusher_log (s : State) (l : Lane) (p : Pusher) : (s.setPusher l p).log = s.log := rfl
@[simp] theorem setPusher_prof (s : State) (l : Lane) (p : Pusher) : (s.setPusher l p).prof = s.prof := rfl
@[simp] theorem setPusher_pins (s : State) (l : Lane) (p : Pusher) : (s.setPusher l p).pins = s.pins := rfl
@[simp] theorem setPusher_cnt (s : State) (l : Lane) (p : Pusher) : (s.setPusher l p).cnt = s.cnt := rfl
@[simp] theorem setPusher_links (s : State) (l : Lane) (p : Pusher) : (s.setPusher l p).links = s.links := rfl
@[simp] theorem setPusher_races (s : State) (l : Lane) (p : Pusher) : (s.setPusher l p).races = s.races := rfl
@[simp] theorem setPusher_pending (s : State) (l : Lane) (p : Pusher) : (s.setPusher l p).pending = s.pending := rfl

/-! ### setKnife -/

@[simp] theorem setKnife_pos (s : State) (k : Knife) : (s.setKnife k).pos = s.pos := rfl
@[simp] theorem setKnife_reg (s : State) (k : Knife) : (s.setKnife k).reg = s.reg := rfl
@[simp] theorem setKnife_cut (s : State) (k : Knife) : (s.setKnife k).cut = s.cut := rfl
@[simp] theorem setKnife_map (s : State) (k : Knife) : (s.setKnife k).map = s.map := rfl
@[simp] theorem setKnife_lanes (s : State) (k : Knife) : (s.setKnife k).lanes = s.lanes := rfl
@[simp] theorem setKnife_log (s : State) (k : Knife) : (s.setKnife k).log = s.log := rfl
@[simp] theorem setKnife_prof (s : State) (k : Knife) : (s.setKnife k).prof = s.prof := rfl
@[simp] theorem setKnife_pins (s : State) (k : Knife) : (s.setKnife k).pins = s.pins := rfl
@[simp] theorem setKnife_cnt (s : State) (k : Knife) : (s.setKnife k).cnt = s.cnt := rfl
@[simp] theorem setKnife_links (s : State) (k : Knife) : (s.setKnife k).links = s.links := rfl
@[simp] theorem setKnife_races (s : State) (k : Knife) : (s.setKnife k).races = s.races := rfl
@[simp] theorem setKnife_pending (s : State) (k : Knife) : (s.setKnife k).pending = s.pending := rfl

/-! ### countLanes -/

@[simp] theorem countLanes_pos (s : State) (f : Lane → LaneCounts → LaneCounts) : (s.countLanes f).pos = s.pos := rfl
@[simp] theorem countLanes_reg (s : State) (f : Lane → LaneCounts → LaneCounts) : (s.countLanes f).reg = s.reg := rfl
@[simp] theorem countLanes_cut (s : State) (f : Lane → LaneCounts → LaneCounts) : (s.countLanes f).cut = s.cut := rfl
@[simp] theorem countLanes_map (s : State) (f : Lane → LaneCounts → LaneCounts) : (s.countLanes f).map = s.map := rfl
@[simp] theorem countLanes_lanes (s : State) (f : Lane → LaneCounts → LaneCounts) : (s.countLanes f).lanes = s.lanes := rfl
@[simp] theorem countLanes_log (s : State) (f : Lane → LaneCounts → LaneCounts) : (s.countLanes f).log = s.log := rfl
@[simp] theorem countLanes_act (s : State) (f : Lane → LaneCounts → LaneCounts) : (s.countLanes f).act = s.act := rfl
@[simp] theorem countLanes_prof (s : State) (f : Lane → LaneCounts → LaneCounts) : (s.countLanes f).prof = s.prof := rfl
@[simp] theorem countLanes_pins (s : State) (f : Lane → LaneCounts → LaneCounts) : (s.countLanes f).pins = s.pins := rfl
@[simp] theorem countLanes_links (s : State) (f : Lane → LaneCounts → LaneCounts) : (s.countLanes f).links = s.links := rfl
@[simp] theorem countLanes_races (s : State) (f : Lane → LaneCounts → LaneCounts) : (s.countLanes f).races = s.races := rfl
@[simp] theorem countLanes_pending (s : State) (f : Lane → LaneCounts → LaneCounts) : (s.countLanes f).pending = s.pending := rfl

/-! ### updateRecord -/

@[simp] theorem updateRecord_pos (s : State) (n : RepeatNo) (f : RepeatRecord → RepeatRecord) : (s.updateRecord n f).pos = s.pos := rfl
@[simp] theorem updateRecord_reg (s : State) (n : RepeatNo) (f : RepeatRecord → RepeatRecord) : (s.updateRecord n f).reg = s.reg := rfl
@[simp] theorem updateRecord_cut (s : State) (n : RepeatNo) (f : RepeatRecord → RepeatRecord) : (s.updateRecord n f).cut = s.cut := rfl
@[simp] theorem updateRecord_lanes (s : State) (n : RepeatNo) (f : RepeatRecord → RepeatRecord) : (s.updateRecord n f).lanes = s.lanes := rfl
@[simp] theorem updateRecord_log (s : State) (n : RepeatNo) (f : RepeatRecord → RepeatRecord) : (s.updateRecord n f).log = s.log := rfl
@[simp] theorem updateRecord_act (s : State) (n : RepeatNo) (f : RepeatRecord → RepeatRecord) : (s.updateRecord n f).act = s.act := rfl
@[simp] theorem updateRecord_prof (s : State) (n : RepeatNo) (f : RepeatRecord → RepeatRecord) : (s.updateRecord n f).prof = s.prof := rfl
@[simp] theorem updateRecord_pins (s : State) (n : RepeatNo) (f : RepeatRecord → RepeatRecord) : (s.updateRecord n f).pins = s.pins := rfl
@[simp] theorem updateRecord_cnt (s : State) (n : RepeatNo) (f : RepeatRecord → RepeatRecord) : (s.updateRecord n f).cnt = s.cnt := rfl
@[simp] theorem updateRecord_links (s : State) (n : RepeatNo) (f : RepeatRecord → RepeatRecord) : (s.updateRecord n f).links = s.links := rfl
@[simp] theorem updateRecord_races (s : State) (n : RepeatNo) (f : RepeatRecord → RepeatRecord) : (s.updateRecord n f).races = s.races := rfl
@[simp] theorem updateRecord_pending (s : State) (n : RepeatNo) (f : RepeatRecord → RepeatRecord) : (s.updateRecord n f).pending = s.pending := rfl

/-! ### countUntracked -/

@[simp] theorem countUntracked_pos (s : State) (m : LaneSet) : (s.countUntracked m).pos = s.pos := rfl
@[simp] theorem countUntracked_reg (s : State) (m : LaneSet) : (s.countUntracked m).reg = s.reg := rfl
@[simp] theorem countUntracked_cut (s : State) (m : LaneSet) : (s.countUntracked m).cut = s.cut := rfl
@[simp] theorem countUntracked_map (s : State) (m : LaneSet) : (s.countUntracked m).map = s.map := rfl
@[simp] theorem countUntracked_lanes (s : State) (m : LaneSet) : (s.countUntracked m).lanes = s.lanes := rfl
@[simp] theorem countUntracked_log (s : State) (m : LaneSet) : (s.countUntracked m).log = s.log := rfl
@[simp] theorem countUntracked_act (s : State) (m : LaneSet) : (s.countUntracked m).act = s.act := rfl
@[simp] theorem countUntracked_prof (s : State) (m : LaneSet) : (s.countUntracked m).prof = s.prof := rfl
@[simp] theorem countUntracked_pins (s : State) (m : LaneSet) : (s.countUntracked m).pins = s.pins := rfl
@[simp] theorem countUntracked_links (s : State) (m : LaneSet) : (s.countUntracked m).links = s.links := rfl
@[simp] theorem countUntracked_races (s : State) (m : LaneSet) : (s.countUntracked m).races = s.races := rfl
@[simp] theorem countUntracked_pending (s : State) (m : LaneSet) : (s.countUntracked m).pending = s.pending := rfl

/-! ### setLink -/

@[simp] theorem setLink_pos (s : State) (k : StationLink) (u : LinkUnit) : (s.setLink k u).pos = s.pos := by
  cases k <;> rfl
@[simp] theorem setLink_reg (s : State) (k : StationLink) (u : LinkUnit) : (s.setLink k u).reg = s.reg := by
  cases k <;> rfl
@[simp] theorem setLink_cut (s : State) (k : StationLink) (u : LinkUnit) : (s.setLink k u).cut = s.cut := by
  cases k <;> rfl
@[simp] theorem setLink_map (s : State) (k : StationLink) (u : LinkUnit) : (s.setLink k u).map = s.map := by
  cases k <;> rfl
@[simp] theorem setLink_lanes (s : State) (k : StationLink) (u : LinkUnit) : (s.setLink k u).lanes = s.lanes := by
  cases k <;> rfl
@[simp] theorem setLink_log (s : State) (k : StationLink) (u : LinkUnit) : (s.setLink k u).log = s.log := by
  cases k <;> rfl
@[simp] theorem setLink_act (s : State) (k : StationLink) (u : LinkUnit) : (s.setLink k u).act = s.act := by
  cases k <;> rfl
@[simp] theorem setLink_prof (s : State) (k : StationLink) (u : LinkUnit) : (s.setLink k u).prof = s.prof := by
  cases k <;> rfl
@[simp] theorem setLink_pins (s : State) (k : StationLink) (u : LinkUnit) : (s.setLink k u).pins = s.pins := by
  cases k <;> rfl
@[simp] theorem setLink_cnt (s : State) (k : StationLink) (u : LinkUnit) : (s.setLink k u).cnt = s.cnt := by
  cases k <;> rfl
@[simp] theorem setLink_races (s : State) (k : StationLink) (u : LinkUnit) : (s.setLink k u).races = s.races := by
  cases k <;> rfl
@[simp] theorem setLink_pending (s : State) (k : StationLink) (u : LinkUnit) : (s.setLink k u).pending = s.pending := by
  cases k <;> rfl

/-! ### Reads of what was written -/

@[simp] theorem setMode_prof (s : State) (m : Mode) : (s.setMode m).prof = { s.prof with mode := m } := rfl

@[simp] theorem setMode_mode (s : State) (m : Mode) : (s.setMode m).mode = m := rfl

@[simp] theorem setLane_lane_same (s : State) (l : Lane) (u : LaneUnit) : (s.setLane l u).lane l = u := by
  simp [State.lane, State.setLane]

theorem setLane_lane_other (s : State) (l m : Lane) (u : LaneUnit) (h : m ≠ l) : (s.setLane l u).lane m = s.lane m := by
  have h' : l.val ≠ m.val := fun e => h (Fin.ext e.symm)
  simp [State.lane, State.setLane, h']

@[simp] theorem setSlot_slot_same (s : State) (i : SlotIndex) (x : Slot) : (s.setSlot i x).slot i = x := by
  simp [State.slot, State.setSlot]

theorem setSlot_slot_other (s : State) (i j : SlotIndex) (x : Slot) (h : j ≠ i) : (s.setSlot i x).slot j = s.slot j := by
  have h' : i.val ≠ j.val := fun e => h (Fin.ext e.symm)
  simp [State.slot, State.setSlot, h']

@[simp] theorem setSlot_ready (s : State) (i : SlotIndex) (x : Slot) : (s.setSlot i x).log.ready = s.log.ready := rfl

@[simp] theorem setGate_gate_same (s : State) (l : Lane) (g : Gate) : (s.setGate l g).gate l = g := by
  simp [State.gate, State.setGate]

theorem setGate_gate_other (s : State) (l m : Lane) (g : Gate) (h : m ≠ l) : (s.setGate l g).gate m = s.gate m := by
  have h' : l.val ≠ m.val := fun e => h (Fin.ext e.symm)
  simp [State.gate, State.setGate, h']

@[simp] theorem setGate_pusher (s : State) (l m : Lane) (g : Gate) : (s.setGate l g).pusher m = s.pusher m := rfl

@[simp] theorem setGate_knife (s : State) (l : Lane) (g : Gate) : (s.setGate l g).act.knife = s.act.knife := rfl

@[simp] theorem setPusher_pusher_same (s : State) (l : Lane) (p : Pusher) : (s.setPusher l p).pusher l = p := by
  simp [State.pusher, State.setPusher]

theorem setPusher_pusher_other (s : State) (l m : Lane) (p : Pusher) (h : m ≠ l) :
    (s.setPusher l p).pusher m = s.pusher m := by
  have h' : l.val ≠ m.val := fun e => h (Fin.ext e.symm)
  simp [State.pusher, State.setPusher, h']

@[simp] theorem setPusher_gate (s : State) (l m : Lane) (p : Pusher) : (s.setPusher l p).gate m = s.gate m := rfl

@[simp] theorem setPusher_knife (s : State) (l : Lane) (p : Pusher) : (s.setPusher l p).act.knife = s.act.knife := rfl

@[simp] theorem setKnife_knife (s : State) (k : Knife) : (s.setKnife k).act.knife = k := rfl

@[simp] theorem setKnife_gate (s : State) (l : Lane) (k : Knife) : (s.setKnife k).gate l = s.gate l := rfl

@[simp] theorem setKnife_pusher (s : State) (l : Lane) (k : Knife) : (s.setKnife k).pusher l = s.pusher l := rfl

@[simp] theorem setLink_link_same (s : State) (k : StationLink) (u : LinkUnit) : (s.setLink k u).link k = u := by
  cases k <;> rfl

theorem setLink_link_other (s : State) (k j : StationLink) (u : LinkUnit) (h : j ≠ k) :
    (s.setLink k u).link j = s.link j := by
  cases k <;> cases j <;> first | rfl | exact absurd rfl h

/-! ### Reads of a part through an update of another block -/

@[simp] theorem setReg_view_web (s : State) (b : Registration) : (s.setReg b).web = s.web := rfl
@[simp] theorem setCut_view_web (s : State) (b : CutScheduler) : (s.setCut b).web = s.web := rfl
@[simp] theorem setMap_view_web (s : State) (b : TransitMap) : (s.setMap b).web = s.web := rfl
@[simp] theorem setLanes_view_web (s : State) (b : Vector LaneUnit 8) : (s.setLanes b).web = s.web := rfl
@[simp] theorem setLog_view_web (s : State) (b : StackLog) : (s.setLog b).web = s.web := rfl
@[simp] theorem setAct_view_web (s : State) (b : Actuators) : (s.setAct b).web = s.web := rfl
@[simp] theorem setProf_view_web (s : State) (b : ProfileUnit) : (s.setProf b).web = s.web := rfl
@[simp] theorem setPins_view_web (s : State) (b : Pins) : (s.setPins b).web = s.web := rfl
@[simp] theorem setCnt_view_web (s : State) (b : Counters) : (s.setCnt b).web = s.web := rfl
@[simp] theorem setLinks_view_web (s : State) (b : Links) : (s.setLinks b).web = s.web := rfl
@[simp] theorem setRaces_view_web (s : State) (b : Nat) : (s.setRaces b).web = s.web := rfl
@[simp] theorem setPending_view_web (s : State) (b : List Instr) : (s.setPending b).web = s.web := rfl
@[simp] theorem setReg_view_belt (s : State) (b : Registration) : (s.setReg b).belt = s.belt := rfl
@[simp] theorem setCut_view_belt (s : State) (b : CutScheduler) : (s.setCut b).belt = s.belt := rfl
@[simp] theorem setMap_view_belt (s : State) (b : TransitMap) : (s.setMap b).belt = s.belt := rfl
@[simp] theorem setLanes_view_belt (s : State) (b : Vector LaneUnit 8) : (s.setLanes b).belt = s.belt := rfl
@[simp] theorem setLog_view_belt (s : State) (b : StackLog) : (s.setLog b).belt = s.belt := rfl
@[simp] theorem setAct_view_belt (s : State) (b : Actuators) : (s.setAct b).belt = s.belt := rfl
@[simp] theorem setProf_view_belt (s : State) (b : ProfileUnit) : (s.setProf b).belt = s.belt := rfl
@[simp] theorem setPins_view_belt (s : State) (b : Pins) : (s.setPins b).belt = s.belt := rfl
@[simp] theorem setCnt_view_belt (s : State) (b : Counters) : (s.setCnt b).belt = s.belt := rfl
@[simp] theorem setLinks_view_belt (s : State) (b : Links) : (s.setLinks b).belt = s.belt := rfl
@[simp] theorem setRaces_view_belt (s : State) (b : Nat) : (s.setRaces b).belt = s.belt := rfl
@[simp] theorem setPending_view_belt (s : State) (b : List Instr) : (s.setPending b).belt = s.belt := rfl
@[simp] theorem setPos_view_profile (s : State) (b : PositionUnit) : (s.setPos b).profile = s.profile := rfl
@[simp] theorem setReg_view_profile (s : State) (b : Registration) : (s.setReg b).profile = s.profile := rfl
@[simp] theorem setCut_view_profile (s : State) (b : CutScheduler) : (s.setCut b).profile = s.profile := rfl
@[simp] theorem setMap_view_profile (s : State) (b : TransitMap) : (s.setMap b).profile = s.profile := rfl
@[simp] theorem setLanes_view_profile (s : State) (b : Vector LaneUnit 8) : (s.setLanes b).profile = s.profile := rfl
@[simp] theorem setLog_view_profile (s : State) (b : StackLog) : (s.setLog b).profile = s.profile := rfl
@[simp] theorem setAct_view_profile (s : State) (b : Actuators) : (s.setAct b).profile = s.profile := rfl
@[simp] theorem setPins_view_profile (s : State) (b : Pins) : (s.setPins b).profile = s.profile := rfl
@[simp] theorem setCnt_view_profile (s : State) (b : Counters) : (s.setCnt b).profile = s.profile := rfl
@[simp] theorem setLinks_view_profile (s : State) (b : Links) : (s.setLinks b).profile = s.profile := rfl
@[simp] theorem setRaces_view_profile (s : State) (b : Nat) : (s.setRaces b).profile = s.profile := rfl
@[simp] theorem setPending_view_profile (s : State) (b : List Instr) : (s.setPending b).profile = s.profile := rfl
@[simp] theorem setPos_view_mode (s : State) (b : PositionUnit) : (s.setPos b).mode = s.mode := rfl
@[simp] theorem setReg_view_mode (s : State) (b : Registration) : (s.setReg b).mode = s.mode := rfl
@[simp] theorem setCut_view_mode (s : State) (b : CutScheduler) : (s.setCut b).mode = s.mode := rfl
@[simp] theorem setMap_view_mode (s : State) (b : TransitMap) : (s.setMap b).mode = s.mode := rfl
@[simp] theorem setLanes_view_mode (s : State) (b : Vector LaneUnit 8) : (s.setLanes b).mode = s.mode := rfl
@[simp] theorem setLog_view_mode (s : State) (b : StackLog) : (s.setLog b).mode = s.mode := rfl
@[simp] theorem setAct_view_mode (s : State) (b : Actuators) : (s.setAct b).mode = s.mode := rfl
@[simp] theorem setPins_view_mode (s : State) (b : Pins) : (s.setPins b).mode = s.mode := rfl
@[simp] theorem setCnt_view_mode (s : State) (b : Counters) : (s.setCnt b).mode = s.mode := rfl
@[simp] theorem setLinks_view_mode (s : State) (b : Links) : (s.setLinks b).mode = s.mode := rfl
@[simp] theorem setRaces_view_mode (s : State) (b : Nat) : (s.setRaces b).mode = s.mode := rfl
@[simp] theorem setPending_view_mode (s : State) (b : List Instr) : (s.setPending b).mode = s.mode := rfl
@[simp] theorem setPos_view_lane (s : State) (b : PositionUnit) (l : Lane) : (s.setPos b).lane l = s.lane l := rfl
@[simp] theorem setReg_view_lane (s : State) (b : Registration) (l : Lane) : (s.setReg b).lane l = s.lane l := rfl
@[simp] theorem setCut_view_lane (s : State) (b : CutScheduler) (l : Lane) : (s.setCut b).lane l = s.lane l := rfl
@[simp] theorem setMap_view_lane (s : State) (b : TransitMap) (l : Lane) : (s.setMap b).lane l = s.lane l := rfl
@[simp] theorem setLog_view_lane (s : State) (b : StackLog) (l : Lane) : (s.setLog b).lane l = s.lane l := rfl
@[simp] theorem setAct_view_lane (s : State) (b : Actuators) (l : Lane) : (s.setAct b).lane l = s.lane l := rfl
@[simp] theorem setProf_view_lane (s : State) (b : ProfileUnit) (l : Lane) : (s.setProf b).lane l = s.lane l := rfl
@[simp] theorem setPins_view_lane (s : State) (b : Pins) (l : Lane) : (s.setPins b).lane l = s.lane l := rfl
@[simp] theorem setCnt_view_lane (s : State) (b : Counters) (l : Lane) : (s.setCnt b).lane l = s.lane l := rfl
@[simp] theorem setLinks_view_lane (s : State) (b : Links) (l : Lane) : (s.setLinks b).lane l = s.lane l := rfl
@[simp] theorem setRaces_view_lane (s : State) (b : Nat) (l : Lane) : (s.setRaces b).lane l = s.lane l := rfl
@[simp] theorem setPending_view_lane (s : State) (b : List Instr) (l : Lane) : (s.setPending b).lane l = s.lane l := rfl
@[simp] theorem setPos_view_slot (s : State) (b : PositionUnit) (l : SlotIndex) : (s.setPos b).slot l = s.slot l := rfl
@[simp] theorem setReg_view_slot (s : State) (b : Registration) (l : SlotIndex) : (s.setReg b).slot l = s.slot l := rfl
@[simp] theorem setCut_view_slot (s : State) (b : CutScheduler) (l : SlotIndex) : (s.setCut b).slot l = s.slot l := rfl
@[simp] theorem setMap_view_slot (s : State) (b : TransitMap) (l : SlotIndex) : (s.setMap b).slot l = s.slot l := rfl
@[simp] theorem setLanes_view_slot (s : State) (b : Vector LaneUnit 8) (l : SlotIndex) : (s.setLanes b).slot l = s.slot l := rfl
@[simp] theorem setAct_view_slot (s : State) (b : Actuators) (l : SlotIndex) : (s.setAct b).slot l = s.slot l := rfl
@[simp] theorem setProf_view_slot (s : State) (b : ProfileUnit) (l : SlotIndex) : (s.setProf b).slot l = s.slot l := rfl
@[simp] theorem setPins_view_slot (s : State) (b : Pins) (l : SlotIndex) : (s.setPins b).slot l = s.slot l := rfl
@[simp] theorem setCnt_view_slot (s : State) (b : Counters) (l : SlotIndex) : (s.setCnt b).slot l = s.slot l := rfl
@[simp] theorem setLinks_view_slot (s : State) (b : Links) (l : SlotIndex) : (s.setLinks b).slot l = s.slot l := rfl
@[simp] theorem setRaces_view_slot (s : State) (b : Nat) (l : SlotIndex) : (s.setRaces b).slot l = s.slot l := rfl
@[simp] theorem setPending_view_slot (s : State) (b : List Instr) (l : SlotIndex) : (s.setPending b).slot l = s.slot l := rfl
@[simp] theorem setPos_view_gate (s : State) (b : PositionUnit) (l : Lane) : (s.setPos b).gate l = s.gate l := rfl
@[simp] theorem setReg_view_gate (s : State) (b : Registration) (l : Lane) : (s.setReg b).gate l = s.gate l := rfl
@[simp] theorem setCut_view_gate (s : State) (b : CutScheduler) (l : Lane) : (s.setCut b).gate l = s.gate l := rfl
@[simp] theorem setMap_view_gate (s : State) (b : TransitMap) (l : Lane) : (s.setMap b).gate l = s.gate l := rfl
@[simp] theorem setLanes_view_gate (s : State) (b : Vector LaneUnit 8) (l : Lane) : (s.setLanes b).gate l = s.gate l := rfl
@[simp] theorem setLog_view_gate (s : State) (b : StackLog) (l : Lane) : (s.setLog b).gate l = s.gate l := rfl
@[simp] theorem setProf_view_gate (s : State) (b : ProfileUnit) (l : Lane) : (s.setProf b).gate l = s.gate l := rfl
@[simp] theorem setPins_view_gate (s : State) (b : Pins) (l : Lane) : (s.setPins b).gate l = s.gate l := rfl
@[simp] theorem setCnt_view_gate (s : State) (b : Counters) (l : Lane) : (s.setCnt b).gate l = s.gate l := rfl
@[simp] theorem setLinks_view_gate (s : State) (b : Links) (l : Lane) : (s.setLinks b).gate l = s.gate l := rfl
@[simp] theorem setRaces_view_gate (s : State) (b : Nat) (l : Lane) : (s.setRaces b).gate l = s.gate l := rfl
@[simp] theorem setPending_view_gate (s : State) (b : List Instr) (l : Lane) : (s.setPending b).gate l = s.gate l := rfl
@[simp] theorem setPos_view_pusher (s : State) (b : PositionUnit) (l : Lane) : (s.setPos b).pusher l = s.pusher l := rfl
@[simp] theorem setReg_view_pusher (s : State) (b : Registration) (l : Lane) : (s.setReg b).pusher l = s.pusher l := rfl
@[simp] theorem setCut_view_pusher (s : State) (b : CutScheduler) (l : Lane) : (s.setCut b).pusher l = s.pusher l := rfl
@[simp] theorem setMap_view_pusher (s : State) (b : TransitMap) (l : Lane) : (s.setMap b).pusher l = s.pusher l := rfl
@[simp] theorem setLanes_view_pusher (s : State) (b : Vector LaneUnit 8) (l : Lane) : (s.setLanes b).pusher l = s.pusher l := rfl
@[simp] theorem setLog_view_pusher (s : State) (b : StackLog) (l : Lane) : (s.setLog b).pusher l = s.pusher l := rfl
@[simp] theorem setProf_view_pusher (s : State) (b : ProfileUnit) (l : Lane) : (s.setProf b).pusher l = s.pusher l := rfl
@[simp] theorem setPins_view_pusher (s : State) (b : Pins) (l : Lane) : (s.setPins b).pusher l = s.pusher l := rfl
@[simp] theorem setCnt_view_pusher (s : State) (b : Counters) (l : Lane) : (s.setCnt b).pusher l = s.pusher l := rfl
@[simp] theorem setLinks_view_pusher (s : State) (b : Links) (l : Lane) : (s.setLinks b).pusher l = s.pusher l := rfl
@[simp] theorem setRaces_view_pusher (s : State) (b : Nat) (l : Lane) : (s.setRaces b).pusher l = s.pusher l := rfl
@[simp] theorem setPending_view_pusher (s : State) (b : List Instr) (l : Lane) : (s.setPending b).pusher l = s.pusher l := rfl
@[simp] theorem setPos_view_counts (s : State) (b : PositionUnit) (l : Lane) : (s.setPos b).counts l = s.counts l := rfl
@[simp] theorem setReg_view_counts (s : State) (b : Registration) (l : Lane) : (s.setReg b).counts l = s.counts l := rfl
@[simp] theorem setCut_view_counts (s : State) (b : CutScheduler) (l : Lane) : (s.setCut b).counts l = s.counts l := rfl
@[simp] theorem setMap_view_counts (s : State) (b : TransitMap) (l : Lane) : (s.setMap b).counts l = s.counts l := rfl
@[simp] theorem setLanes_view_counts (s : State) (b : Vector LaneUnit 8) (l : Lane) : (s.setLanes b).counts l = s.counts l := rfl
@[simp] theorem setLog_view_counts (s : State) (b : StackLog) (l : Lane) : (s.setLog b).counts l = s.counts l := rfl
@[simp] theorem setAct_view_counts (s : State) (b : Actuators) (l : Lane) : (s.setAct b).counts l = s.counts l := rfl
@[simp] theorem setProf_view_counts (s : State) (b : ProfileUnit) (l : Lane) : (s.setProf b).counts l = s.counts l := rfl
@[simp] theorem setPins_view_counts (s : State) (b : Pins) (l : Lane) : (s.setPins b).counts l = s.counts l := rfl
@[simp] theorem setLinks_view_counts (s : State) (b : Links) (l : Lane) : (s.setLinks b).counts l = s.counts l := rfl
@[simp] theorem setRaces_view_counts (s : State) (b : Nat) (l : Lane) : (s.setRaces b).counts l = s.counts l := rfl
@[simp] theorem setPending_view_counts (s : State) (b : List Instr) (l : Lane) : (s.setPending b).counts l = s.counts l := rfl
@[simp] theorem setPos_view_link (s : State) (b : PositionUnit) (l : StationLink) : (s.setPos b).link l = s.link l := by cases l <;> rfl
@[simp] theorem setReg_view_link (s : State) (b : Registration) (l : StationLink) : (s.setReg b).link l = s.link l := by cases l <;> rfl
@[simp] theorem setCut_view_link (s : State) (b : CutScheduler) (l : StationLink) : (s.setCut b).link l = s.link l := by cases l <;> rfl
@[simp] theorem setMap_view_link (s : State) (b : TransitMap) (l : StationLink) : (s.setMap b).link l = s.link l := by cases l <;> rfl
@[simp] theorem setLanes_view_link (s : State) (b : Vector LaneUnit 8) (l : StationLink) : (s.setLanes b).link l = s.link l := by cases l <;> rfl
@[simp] theorem setLog_view_link (s : State) (b : StackLog) (l : StationLink) : (s.setLog b).link l = s.link l := by cases l <;> rfl
@[simp] theorem setAct_view_link (s : State) (b : Actuators) (l : StationLink) : (s.setAct b).link l = s.link l := by cases l <;> rfl
@[simp] theorem setProf_view_link (s : State) (b : ProfileUnit) (l : StationLink) : (s.setProf b).link l = s.link l := by cases l <;> rfl
@[simp] theorem setPins_view_link (s : State) (b : Pins) (l : StationLink) : (s.setPins b).link l = s.link l := by cases l <;> rfl
@[simp] theorem setCnt_view_link (s : State) (b : Counters) (l : StationLink) : (s.setCnt b).link l = s.link l := by cases l <;> rfl
@[simp] theorem setRaces_view_link (s : State) (b : Nat) (l : StationLink) : (s.setRaces b).link l = s.link l := by cases l <;> rfl
@[simp] theorem setPending_view_link (s : State) (b : List Instr) (l : StationLink) : (s.setPending b).link l = s.link l := by cases l <;> rfl
@[simp] theorem setPos_view_record (s : State) (b : PositionUnit) (l : RepeatNo) : (s.setPos b).record l = s.record l := rfl
@[simp] theorem setReg_view_record (s : State) (b : Registration) (l : RepeatNo) : (s.setReg b).record l = s.record l := rfl
@[simp] theorem setCut_view_record (s : State) (b : CutScheduler) (l : RepeatNo) : (s.setCut b).record l = s.record l := rfl
@[simp] theorem setLanes_view_record (s : State) (b : Vector LaneUnit 8) (l : RepeatNo) : (s.setLanes b).record l = s.record l := rfl
@[simp] theorem setLog_view_record (s : State) (b : StackLog) (l : RepeatNo) : (s.setLog b).record l = s.record l := rfl
@[simp] theorem setAct_view_record (s : State) (b : Actuators) (l : RepeatNo) : (s.setAct b).record l = s.record l := rfl
@[simp] theorem setProf_view_record (s : State) (b : ProfileUnit) (l : RepeatNo) : (s.setProf b).record l = s.record l := rfl
@[simp] theorem setPins_view_record (s : State) (b : Pins) (l : RepeatNo) : (s.setPins b).record l = s.record l := rfl
@[simp] theorem setCnt_view_record (s : State) (b : Counters) (l : RepeatNo) : (s.setCnt b).record l = s.record l := rfl
@[simp] theorem setLinks_view_record (s : State) (b : Links) (l : RepeatNo) : (s.setLinks b).record l = s.record l := rfl
@[simp] theorem setRaces_view_record (s : State) (b : Nat) (l : RepeatNo) : (s.setRaces b).record l = s.record l := rfl
@[simp] theorem setPending_view_record (s : State) (b : List Instr) (l : RepeatNo) : (s.setPending b).record l = s.record l := rfl

end Sys2Proof.Machine
end

