-- ==== Sys2Proof/Laws/Basics.lean ====
section
/-!
SUPPORT. What each small shared operation does, said once: the lists of lanes, slots and outputs, lane sets, the first
element of a list, the free order, operands, and the flags that an event sets.
-/

namespace Sys2Proof.Machine

/-! ## The lists of everything -/

theorem mem_allLanes (l : Lane) : l ∈ allLanes := by revert l; decide

theorem mem_allSlots (i : SlotIndex) : i ∈ allSlots := by revert i; decide

theorem mem_allOutputs (o : Output) : o ∈ allOutputs := by
  cases o with
  | knife => decide
  | gate l => revert l; decide
  | pusher l => revert l; decide

theorem allLanes_nodup : allLanes.Nodup := by decide

theorem allOutputs_nodup : allOutputs.Nodup := by decide

/-! ## Lanes -/

/-- Each entry is changed by its own lane's function. -/
@[simp] theorem perLane_getElem {α : Type} (f : Lane → α → α) (v : Vector α 8) (l : Lane) :
    (perLane f v)[l] = f l v[l] := by
  revert l; simp [Fin.forall_fin_succ, perLane]

@[simp] theorem countLanes_counts (s : State) (f : Lane → LaneCounts → LaneCounts) (l : Lane) :
    (s.countLanes f).counts l = f l (s.counts l) :=
  perLane_getElem f s.cnt.lanes l

theorem has_or_single (m : LaneSet) (k l : Lane) :
    LaneSet.has (m ||| (1#8 <<< k.val)) l = (LaneSet.has m l || decide (k = l)) := by
  have h : (1#8 <<< k.val).getLsbD l.val = decide (k = l) := by revert k l; decide
  rw [LaneSet.has, BitVec.getLsbD_or, h, LaneSet.has]

theorem has_foldl (p : Lane → Bool) (ls : List Lane) (m : LaneSet) (l : Lane) :
    LaneSet.has (ls.foldl (fun m k => if p k then m ||| (1#8 <<< k.val) else m) m) l =
      (LaneSet.has m l || (decide (l ∈ ls) && p l)) := by
  induction ls generalizing m with
  | nil => simp
  | cons k ls ih =>
    rw [List.foldl_cons, ih]
    by_cases h : k = l
    · subst h; cases hp : p k <;> simp [has_or_single]
    · have h' : l ≠ k := fun e => h e.symm
      cases hp : p k <;> simp [has_or_single, h, h']

/-- The set of the lanes that satisfy a test holds exactly those. -/
@[simp] theorem has_ofTest (p : Lane → Bool) (l : Lane) : LaneSet.has (LaneSet.ofTest p) l = p l := by
  rw [LaneSet.ofTest, has_foldl]
  simp [mem_allLanes, LaneSet.has]

/-! ## Lists -/

/-- Removing the first element that satisfies a test is the library's `eraseP`. -/
theorem removeFirst_eq_eraseP {α : Type} (p : α → Bool) (xs : List α) : removeFirst p xs = xs.eraseP p := by
  induction xs with
  | nil => rfl
  | cons x xs ih => by_cases h : p x <;> simp [removeFirst, h, ih]

@[simp] theorem updateFirst_length {α : Type} (p : α → Bool) (f : α → α) (xs : List α) :
    (updateFirst p f xs).length = xs.length := by
  induction xs with
  | nil => rfl
  | cons x xs ih => by_cases h : p x <;> simp [updateFirst, h, ih]

/-- The element found after a change that keeps the test is the change of the element found before. -/
theorem find?_updateFirst {α : Type} (p : α → Bool) (f : α → α) (h : ∀ x, p x = true → p (f x) = true) (xs : List α) :
    (updateFirst p f xs).find? p = (xs.find? p).map f := by
  induction xs with
  | nil => rfl
  | cons x xs ih => by_cases hx : p x <;> simp [updateFirst, hx, ih, h]

/-- Nothing changes where no element satisfies the test. -/
theorem updateFirst_of_none {α : Type} (p : α → Bool) (f : α → α) (xs : List α) (h : ∀ x ∈ xs, p x = false) :
    updateFirst p f xs = xs := by
  induction xs with
  | nil => rfl
  | cons x xs ih =>
    simp [updateFirst, h x (by simp), ih (fun y hy => h y (by simp [hy]))]

/-! ## The free order (Log 7) -/

/-- Whatever the order, it is a rearrangement. -/
theorem arrange_perm {α : Type} (key : α → Nat) (ks : List Nat) (xs : List α) : (arrange key ks xs).Perm xs := by
  induction ks generalizing xs with
  | nil => exact .refl _
  | cons k ks ih =>
    refine ((ih _).append_left _).trans ?_
    simpa [bne] using List.filter_append_perm (fun x => key x == k) xs

theorem drawOrder_perm {α : Type} (key : α → Nat) (xs : List α) (s : State) : (drawOrder key xs s).1.Perm xs := by
  match xs with
  | [] => exact .refl _
  | [_] => exact .refl _
  | x :: y :: rest => exact arrange_perm key _ (x :: y :: rest)

/-- Fewer than two contenders draw nothing. -/
theorem drawOrder_of_short {α : Type} (key : α → Nat) (xs : List α) (s : State) (h : xs.length < 2) :
    drawOrder key xs s = (xs, s) := by
  match xs with
  | [] => rfl
  | [_] => rfl
  | _ :: _ :: _ => simp at h

/-! ## Operands -/

@[simp] theorem laneOf_succ (l : Lane) : laneOf (l.val + 1) = some l := by
  simp [laneOf]

theorem laneOf_eq_none (n : Nat) : laneOf n = none ↔ n < 1 ∨ 8 < n := by
  simp only [laneOf]; split <;> simp <;> omega

@[simp] theorem slotOf_val (i : SlotIndex) : slotOf i.val = some i := by simp [slotOf]

theorem slotOf_eq_none (n : Nat) : slotOf n = none ↔ 31 < n := by
  simp only [slotOf]; split <;> simp <;> omega

/-! ## Flags (R195) -/

/-- An event sets its own flag on the links that carry it, and no other. -/
theorem raiseEvent_link (e : Event) (s : State) (k : StationLink) :
    (raiseEvent e s).link k = if e.carriedBy k then (s.link k).withFlag e else s.link k := by
  cases k <;> rfl

theorem raiseIf_link (b : Bool) (e : Event) (s : State) (k : StationLink) :
    (raiseIf b e s).link k = if b && e.carriedBy k then (s.link k).withFlag e else s.link k := by
  cases b <;> simp [raiseIf, raiseEvent_link]

end Sys2Proof.Machine
end

