-- ==== Sys2Proof/Laws/SignalFrames.lean ====
section
/-!
SUPPORT. What each shared operation leaves unchanged, block by block: events, the log, the drives.
-/

namespace Sys2Proof.Machine

/-- A fold whose every step leaves a view of the state unchanged leaves it unchanged. -/
theorem foldl_keep {σ α β : Type} (g : σ → β) (f : σ → α → σ) (h : ∀ s a, g (f s a) = g s) (l : List α) (s : σ) :
    g (l.foldl f s) = g s := by
  induction l generalizing s with
  | nil => rfl
  | cons a l ih => exact (ih (f s a)).trans (h s a)

@[simp] theorem drawOrder_frame {α : Type} (key : α → Nat) (xs : List α) (s : State) :
    (drawOrder key xs s).2.pos = s.pos ∧
    (drawOrder key xs s).2.reg = s.reg ∧
    (drawOrder key xs s).2.cut = s.cut ∧
    (drawOrder key xs s).2.map = s.map ∧
    (drawOrder key xs s).2.lanes = s.lanes ∧
    (drawOrder key xs s).2.log = s.log ∧
    (drawOrder key xs s).2.act = s.act ∧
    (drawOrder key xs s).2.prof = s.prof ∧
    (drawOrder key xs s).2.pins = s.pins ∧
    (drawOrder key xs s).2.cnt = s.cnt ∧
    (drawOrder key xs s).2.links = s.links ∧
    (drawOrder key xs s).2.pending = s.pending := by
  unfold drawOrder
  split <;> simp

@[simp] theorem raiseEvent_frame (e : Event) (s : State) :
    (raiseEvent e s).pos = s.pos ∧
    (raiseEvent e s).reg = s.reg ∧
    (raiseEvent e s).cut = s.cut ∧
    (raiseEvent e s).map = s.map ∧
    (raiseEvent e s).lanes = s.lanes ∧
    (raiseEvent e s).log = s.log ∧
    (raiseEvent e s).act = s.act ∧
    (raiseEvent e s).prof = s.prof ∧
    (raiseEvent e s).pins = s.pins ∧
    (raiseEvent e s).cnt = s.cnt ∧
    (raiseEvent e s).races = s.races ∧
    (raiseEvent e s).pending = s.pending := by
  unfold raiseEvent
  repeat' split
  all_goals simp

@[simp] theorem raiseEvents_frame (es : List Event) (s : State) :
    (raiseEvents es s).pos = s.pos ∧
    (raiseEvents es s).reg = s.reg ∧
    (raiseEvents es s).cut = s.cut ∧
    (raiseEvents es s).map = s.map ∧
    (raiseEvents es s).lanes = s.lanes ∧
    (raiseEvents es s).log = s.log ∧
    (raiseEvents es s).act = s.act ∧
    (raiseEvents es s).prof = s.prof ∧
    (raiseEvents es s).pins = s.pins ∧
    (raiseEvents es s).cnt = s.cnt ∧
    (raiseEvents es s).races = s.races ∧
    (raiseEvents es s).pending = s.pending :=
  ⟨foldl_keep (fun t : State => t.pos) _ (fun _ _ => by simp) _ _,
   foldl_keep (fun t : State => t.reg) _ (fun _ _ => by simp) _ _,
   foldl_keep (fun t : State => t.cut) _ (fun _ _ => by simp) _ _,
   foldl_keep (fun t : State => t.map) _ (fun _ _ => by simp) _ _,
   foldl_keep (fun t : State => t.lanes) _ (fun _ _ => by simp) _ _,
   foldl_keep (fun t : State => t.log) _ (fun _ _ => by simp) _ _,
   foldl_keep (fun t : State => t.act) _ (fun _ _ => by simp) _ _,
   foldl_keep (fun t : State => t.prof) _ (fun _ _ => by simp) _ _,
   foldl_keep (fun t : State => t.pins) _ (fun _ _ => by simp) _ _,
   foldl_keep (fun t : State => t.cnt) _ (fun _ _ => by simp) _ _,
   foldl_keep (fun t : State => t.races) _ (fun _ _ => by simp) _ _,
   foldl_keep (fun t : State => t.pending) _ (fun _ _ => by simp) _ _⟩

@[simp] theorem raiseIf_frame (b : Bool) (e : Event) (s : State) :
    (raiseIf b e s).pos = s.pos ∧
    (raiseIf b e s).reg = s.reg ∧
    (raiseIf b e s).cut = s.cut ∧
    (raiseIf b e s).map = s.map ∧
    (raiseIf b e s).lanes = s.lanes ∧
    (raiseIf b e s).log = s.log ∧
    (raiseIf b e s).act = s.act ∧
    (raiseIf b e s).prof = s.prof ∧
    (raiseIf b e s).pins = s.pins ∧
    (raiseIf b e s).cnt = s.cnt ∧
    (raiseIf b e s).races = s.races ∧
    (raiseIf b e s).pending = s.pending := by
  unfold raiseIf
  repeat' split
  all_goals simp

@[simp] theorem acknowledge_frame (k : StationLink) (m : EventSet) (s : State) :
    (acknowledge k m s).pos = s.pos ∧
    (acknowledge k m s).reg = s.reg ∧
    (acknowledge k m s).cut = s.cut ∧
    (acknowledge k m s).map = s.map ∧
    (acknowledge k m s).lanes = s.lanes ∧
    (acknowledge k m s).log = s.log ∧
    (acknowledge k m s).act = s.act ∧
    (acknowledge k m s).prof = s.prof ∧
    (acknowledge k m s).pins = s.pins ∧
    (acknowledge k m s).cnt = s.cnt ∧
    (acknowledge k m s).races = s.races ∧
    (acknowledge k m s).pending = s.pending := by
  simp [acknowledge]

@[simp] theorem joinReadyList_frame (i : SlotIndex) (s : State) :
    (joinReadyList i s).pos = s.pos ∧
    (joinReadyList i s).reg = s.reg ∧
    (joinReadyList i s).cut = s.cut ∧
    (joinReadyList i s).map = s.map ∧
    (joinReadyList i s).lanes = s.lanes ∧
    (joinReadyList i s).act = s.act ∧
    (joinReadyList i s).prof = s.prof ∧
    (joinReadyList i s).pins = s.pins ∧
    (joinReadyList i s).cnt = s.cnt ∧
    (joinReadyList i s).races = s.races ∧
    (joinReadyList i s).pending = s.pending := by
  simp [joinReadyList]

@[simp] theorem openSlot_frame (i : SlotIndex) (r : StackRecord) (s : State) :
    (openSlot i r s).pos = s.pos ∧
    (openSlot i r s).reg = s.reg ∧
    (openSlot i r s).cut = s.cut ∧
    (openSlot i r s).map = s.map ∧
    (openSlot i r s).lanes = s.lanes ∧
    (openSlot i r s).act = s.act ∧
    (openSlot i r s).prof = s.prof ∧
    (openSlot i r s).pins = s.pins ∧
    (openSlot i r s).cnt = s.cnt ∧
    (openSlot i r s).links = s.links ∧
    (openSlot i r s).races = s.races ∧
    (openSlot i r s).pending = s.pending := by
  unfold openSlot
  repeat' split
  all_goals simp

@[simp] theorem fillReadySlot_frame (i : SlotIndex) (r : StackRecord) (s : State) :
    (fillReadySlot i r s).pos = s.pos ∧
    (fillReadySlot i r s).reg = s.reg ∧
    (fillReadySlot i r s).cut = s.cut ∧
    (fillReadySlot i r s).map = s.map ∧
    (fillReadySlot i r s).lanes = s.lanes ∧
    (fillReadySlot i r s).act = s.act ∧
    (fillReadySlot i r s).prof = s.prof ∧
    (fillReadySlot i r s).pins = s.pins ∧
    (fillReadySlot i r s).cnt = s.cnt ∧
    (fillReadySlot i r s).races = s.races ∧
    (fillReadySlot i r s).pending = s.pending := by
  unfold fillReadySlot
  repeat' split
  all_goals simp

@[simp] theorem updateForming_frame (i : SlotIndex) (f : StackRecord → StackRecord) (s : State) :
    (updateForming i f s).pos = s.pos ∧
    (updateForming i f s).reg = s.reg ∧
    (updateForming i f s).cut = s.cut ∧
    (updateForming i f s).map = s.map ∧
    (updateForming i f s).lanes = s.lanes ∧
    (updateForming i f s).act = s.act ∧
    (updateForming i f s).prof = s.prof ∧
    (updateForming i f s).pins = s.pins ∧
    (updateForming i f s).cnt = s.cnt ∧
    (updateForming i f s).links = s.links ∧
    (updateForming i f s).races = s.races ∧
    (updateForming i f s).pending = s.pending := by
  unfold updateForming
  repeat' split
  all_goals simp

@[simp] theorem closeSlot_frame (i : SlotIndex) (kind : ClosingKind) (s : State) :
    (closeSlot i kind s).pos = s.pos ∧
    (closeSlot i kind s).reg = s.reg ∧
    (closeSlot i kind s).cut = s.cut ∧
    (closeSlot i kind s).map = s.map ∧
    (closeSlot i kind s).lanes = s.lanes ∧
    (closeSlot i kind s).act = s.act ∧
    (closeSlot i kind s).prof = s.prof ∧
    (closeSlot i kind s).pins = s.pins ∧
    (closeSlot i kind s).cnt = s.cnt ∧
    (closeSlot i kind s).links = s.links ∧
    (closeSlot i kind s).races = s.races ∧
    (closeSlot i kind s).pending = s.pending := by
  unfold closeSlot
  repeat' split
  all_goals simp

@[simp] theorem makeReady_frame (i : SlotIndex) (f : StackRecord → StackRecord) (s : State) :
    (makeReady i f s).pos = s.pos ∧
    (makeReady i f s).reg = s.reg ∧
    (makeReady i f s).cut = s.cut ∧
    (makeReady i f s).map = s.map ∧
    (makeReady i f s).lanes = s.lanes ∧
    (makeReady i f s).act = s.act ∧
    (makeReady i f s).prof = s.prof ∧
    (makeReady i f s).pins = s.pins ∧
    (makeReady i f s).cnt = s.cnt ∧
    (makeReady i f s).races = s.races ∧
    (makeReady i f s).pending = s.pending := by
  unfold makeReady
  repeat' split
  all_goals simp

@[simp] theorem releaseSlot_frame (i : SlotIndex) (s : State) :
    (releaseSlot i s).pos = s.pos ∧
    (releaseSlot i s).reg = s.reg ∧
    (releaseSlot i s).cut = s.cut ∧
    (releaseSlot i s).map = s.map ∧
    (releaseSlot i s).lanes = s.lanes ∧
    (releaseSlot i s).act = s.act ∧
    (releaseSlot i s).prof = s.prof ∧
    (releaseSlot i s).pins = s.pins ∧
    (releaseSlot i s).cnt = s.cnt ∧
    (releaseSlot i s).links = s.links ∧
    (releaseSlot i s).races = s.races ∧
    (releaseSlot i s).pending = s.pending := by
  unfold releaseSlot
  repeat' split
  all_goals simp

@[simp] theorem freeReadySlot_frame (i : SlotIndex) (s : State) :
    (freeReadySlot i s).pos = s.pos ∧
    (freeReadySlot i s).reg = s.reg ∧
    (freeReadySlot i s).cut = s.cut ∧
    (freeReadySlot i s).map = s.map ∧
    (freeReadySlot i s).lanes = s.lanes ∧
    (freeReadySlot i s).act = s.act ∧
    (freeReadySlot i s).prof = s.prof ∧
    (freeReadySlot i s).pins = s.pins ∧
    (freeReadySlot i s).cnt = s.cnt ∧
    (freeReadySlot i s).links = s.links ∧
    (freeReadySlot i s).races = s.races ∧
    (freeReadySlot i s).pending = s.pending := by
  unfold freeReadySlot
  repeat' split
  all_goals simp

@[simp] theorem flagReadyEjectFault_frame (i : SlotIndex) (l : Lane) (seq : Seq) (s : State) :
    (flagReadyEjectFault i l seq s).pos = s.pos ∧
    (flagReadyEjectFault i l seq s).reg = s.reg ∧
    (flagReadyEjectFault i l seq s).cut = s.cut ∧
    (flagReadyEjectFault i l seq s).map = s.map ∧
    (flagReadyEjectFault i l seq s).lanes = s.lanes ∧
    (flagReadyEjectFault i l seq s).act = s.act ∧
    (flagReadyEjectFault i l seq s).prof = s.prof ∧
    (flagReadyEjectFault i l seq s).pins = s.pins ∧
    (flagReadyEjectFault i l seq s).cnt = s.cnt ∧
    (flagReadyEjectFault i l seq s).links = s.links ∧
    (flagReadyEjectFault i l seq s).races = s.races ∧
    (flagReadyEjectFault i l seq s).pending = s.pending := by
  unfold flagReadyEjectFault
  repeat' split
  all_goals simp

@[simp] theorem setFilter_frame (s : State) (o : Output) (f : Filter) :
    (s.setFilter o f).pos = s.pos ∧
    (s.setFilter o f).reg = s.reg ∧
    (s.setFilter o f).cut = s.cut ∧
    (s.setFilter o f).map = s.map ∧
    (s.setFilter o f).lanes = s.lanes ∧
    (s.setFilter o f).log = s.log ∧
    (s.setFilter o f).prof = s.prof ∧
    (s.setFilter o f).pins = s.pins ∧
    (s.setFilter o f).cnt = s.cnt ∧
    (s.setFilter o f).links = s.links ∧
    (s.setFilter o f).races = s.races ∧
    (s.setFilter o f).pending = s.pending := by
  unfold State.setFilter
  repeat' split
  all_goals simp

@[simp] theorem requestKnifePulse_frame (s : State) :
    (requestKnifePulse s).pos = s.pos ∧
    (requestKnifePulse s).reg = s.reg ∧
    (requestKnifePulse s).cut = s.cut ∧
    (requestKnifePulse s).map = s.map ∧
    (requestKnifePulse s).lanes = s.lanes ∧
    (requestKnifePulse s).log = s.log ∧
    (requestKnifePulse s).prof = s.prof ∧
    (requestKnifePulse s).pins = s.pins ∧
    (requestKnifePulse s).cnt = s.cnt ∧
    (requestKnifePulse s).links = s.links ∧
    (requestKnifePulse s).races = s.races ∧
    (requestKnifePulse s).pending = s.pending := by
  unfold requestKnifePulse
  repeat' split
  all_goals simp

@[simp] theorem endKnifePulse_frame (s : State) :
    (endKnifePulse s).pos = s.pos ∧
    (endKnifePulse s).reg = s.reg ∧
    (endKnifePulse s).cut = s.cut ∧
    (endKnifePulse s).map = s.map ∧
    (endKnifePulse s).lanes = s.lanes ∧
    (endKnifePulse s).log = s.log ∧
    (endKnifePulse s).prof = s.prof ∧
    (endKnifePulse s).pins = s.pins ∧
    (endKnifePulse s).cnt = s.cnt ∧
    (endKnifePulse s).links = s.links ∧
    (endKnifePulse s).races = s.races ∧
    (endKnifePulse s).pending = s.pending := by
  unfold endKnifePulse
  repeat' split
  all_goals simp

@[simp] theorem startPusherPulse_frame (l : Lane) (s : State) :
    (startPusherPulse l s).pos = s.pos ∧
    (startPusherPulse l s).reg = s.reg ∧
    (startPusherPulse l s).cut = s.cut ∧
    (startPusherPulse l s).map = s.map ∧
    (startPusherPulse l s).lanes = s.lanes ∧
    (startPusherPulse l s).log = s.log ∧
    (startPusherPulse l s).prof = s.prof ∧
    (startPusherPulse l s).pins = s.pins ∧
    (startPusherPulse l s).cnt = s.cnt ∧
    (startPusherPulse l s).links = s.links ∧
    (startPusherPulse l s).races = s.races ∧
    (startPusherPulse l s).pending = s.pending := by
  simp [startPusherPulse]

@[simp] theorem requestPusherPulse_frame (l : Lane) (s : State) :
    (requestPusherPulse l s).pos = s.pos ∧
    (requestPusherPulse l s).reg = s.reg ∧
    (requestPusherPulse l s).cut = s.cut ∧
    (requestPusherPulse l s).map = s.map ∧
    (requestPusherPulse l s).lanes = s.lanes ∧
    (requestPusherPulse l s).log = s.log ∧
    (requestPusherPulse l s).prof = s.prof ∧
    (requestPusherPulse l s).pins = s.pins ∧
    (requestPusherPulse l s).cnt = s.cnt ∧
    (requestPusherPulse l s).links = s.links ∧
    (requestPusherPulse l s).races = s.races ∧
    (requestPusherPulse l s).pending = s.pending := by
  unfold requestPusherPulse
  repeat' split
  all_goals simp

@[simp] theorem endPusherPulse_frame (l : Lane) (s : State) :
    (endPusherPulse l s).pos = s.pos ∧
    (endPusherPulse l s).reg = s.reg ∧
    (endPusherPulse l s).cut = s.cut ∧
    (endPusherPulse l s).map = s.map ∧
    (endPusherPulse l s).log = s.log ∧
    (endPusherPulse l s).prof = s.prof ∧
    (endPusherPulse l s).pins = s.pins ∧
    (endPusherPulse l s).cnt = s.cnt ∧
    (endPusherPulse l s).links = s.links ∧
    (endPusherPulse l s).races = s.races ∧
    (endPusherPulse l s).pending = s.pending := by
  unfold endPusherPulse
  repeat' split
  all_goals simp

@[simp] theorem requestCameraPulse_frame (s : State) :
    (requestCameraPulse s).pos = s.pos ∧
    (requestCameraPulse s).reg = s.reg ∧
    (requestCameraPulse s).cut = s.cut ∧
    (requestCameraPulse s).map = s.map ∧
    (requestCameraPulse s).lanes = s.lanes ∧
    (requestCameraPulse s).log = s.log ∧
    (requestCameraPulse s).prof = s.prof ∧
    (requestCameraPulse s).pins = s.pins ∧
    (requestCameraPulse s).cnt = s.cnt ∧
    (requestCameraPulse s).links = s.links ∧
    (requestCameraPulse s).races = s.races ∧
    (requestCameraPulse s).pending = s.pending := by
  unfold requestCameraPulse
  repeat' split
  all_goals simp

@[simp] theorem takeInterval_frame (l : Lane) (a b : Pos) (s : State) :
    (takeInterval l a b s).pos = s.pos ∧
    (takeInterval l a b s).reg = s.reg ∧
    (takeInterval l a b s).cut = s.cut ∧
    (takeInterval l a b s).map = s.map ∧
    (takeInterval l a b s).lanes = s.lanes ∧
    (takeInterval l a b s).log = s.log ∧
    (takeInterval l a b s).prof = s.prof ∧
    (takeInterval l a b s).pins = s.pins ∧
    (takeInterval l a b s).cnt = s.cnt ∧
    (takeInterval l a b s).links = s.links ∧
    (takeInterval l a b s).races = s.races ∧
    (takeInterval l a b s).pending = s.pending := by
  unfold takeInterval
  repeat' split
  all_goals simp

@[simp] theorem removeHolds_frame (s : State) :
    (removeHolds s).pos = s.pos ∧
    (removeHolds s).reg = s.reg ∧
    (removeHolds s).cut = s.cut ∧
    (removeHolds s).map = s.map ∧
    (removeHolds s).lanes = s.lanes ∧
    (removeHolds s).log = s.log ∧
    (removeHolds s).prof = s.prof ∧
    (removeHolds s).pins = s.pins ∧
    (removeHolds s).cnt = s.cnt ∧
    (removeHolds s).links = s.links ∧
    (removeHolds s).races = s.races ∧
    (removeHolds s).pending = s.pending := by
  simp [removeHolds]

@[simp] theorem refreshFilters_frame (before after : State) :
    (refreshFilters before after).pos = after.pos ∧
    (refreshFilters before after).reg = after.reg ∧
    (refreshFilters before after).cut = after.cut ∧
    (refreshFilters before after).map = after.map ∧
    (refreshFilters before after).lanes = after.lanes ∧
    (refreshFilters before after).log = after.log ∧
    (refreshFilters before after).prof = after.prof ∧
    (refreshFilters before after).pins = after.pins ∧
    (refreshFilters before after).cnt = after.cnt ∧
    (refreshFilters before after).links = after.links ∧
    (refreshFilters before after).races = after.races ∧
    (refreshFilters before after).pending = after.pending :=
  ⟨foldl_keep (fun t : State => t.pos) _ (fun _ _ => by (repeat' split) <;> simp) _ _,
   foldl_keep (fun t : State => t.reg) _ (fun _ _ => by (repeat' split) <;> simp) _ _,
   foldl_keep (fun t : State => t.cut) _ (fun _ _ => by (repeat' split) <;> simp) _ _,
   foldl_keep (fun t : State => t.map) _ (fun _ _ => by (repeat' split) <;> simp) _ _,
   foldl_keep (fun t : State => t.lanes) _ (fun _ _ => by (repeat' split) <;> simp) _ _,
   foldl_keep (fun t : State => t.log) _ (fun _ _ => by (repeat' split) <;> simp) _ _,
   foldl_keep (fun t : State => t.prof) _ (fun _ _ => by (repeat' split) <;> simp) _ _,
   foldl_keep (fun t : State => t.pins) _ (fun _ _ => by (repeat' split) <;> simp) _ _,
   foldl_keep (fun t : State => t.cnt) _ (fun _ _ => by (repeat' split) <;> simp) _ _,
   foldl_keep (fun t : State => t.links) _ (fun _ _ => by (repeat' split) <;> simp) _ _,
   foldl_keep (fun t : State => t.races) _ (fun _ _ => by (repeat' split) <;> simp) _ _,
   foldl_keep (fun t : State => t.pending) _ (fun _ _ => by (repeat' split) <;> simp) _ _⟩

end Sys2Proof.Machine
end

