-- ==== Sys2Proof/Laws/LaneFrames.lean ====
section
/-!
SUPPORT. What each shared operation leaves unchanged, block by block: the lane sequencers and the mode changes.
-/

namespace Sys2Proof.Machine

@[simp] theorem setLaneState_frame (s : State) (l : Lane) (st : LaneState) :
    (s.setLaneState l st).pos = s.pos ∧
    (s.setLaneState l st).reg = s.reg ∧
    (s.setLaneState l st).cut = s.cut ∧
    (s.setLaneState l st).map = s.map ∧
    (s.setLaneState l st).log = s.log ∧
    (s.setLaneState l st).act = s.act ∧
    (s.setLaneState l st).prof = s.prof ∧
    (s.setLaneState l st).pins = s.pins ∧
    (s.setLaneState l st).cnt = s.cnt ∧
    (s.setLaneState l st).links = s.links ∧
    (s.setLaneState l st).races = s.races ∧
    (s.setLaneState l st).pending = s.pending := by
  simp [State.setLaneState]

@[simp] theorem armEjectHead_frame (l : Lane) (s : State) :
    (armEjectHead l s).pos = s.pos ∧
    (armEjectHead l s).reg = s.reg ∧
    (armEjectHead l s).cut = s.cut ∧
    (armEjectHead l s).map = s.map ∧
    (armEjectHead l s).log = s.log ∧
    (armEjectHead l s).act = s.act ∧
    (armEjectHead l s).prof = s.prof ∧
    (armEjectHead l s).pins = s.pins ∧
    (armEjectHead l s).cnt = s.cnt ∧
    (armEjectHead l s).links = s.links ∧
    (armEjectHead l s).races = s.races ∧
    (armEjectHead l s).pending = s.pending := by
  unfold armEjectHead
  repeat' split
  all_goals simp

@[simp] theorem releaseHead_frame (l : Lane) (f : StackRecord → StackRecord) (s : State) :
    (releaseHead l f s).pos = s.pos ∧
    (releaseHead l f s).reg = s.reg ∧
    (releaseHead l f s).cut = s.cut ∧
    (releaseHead l f s).map = s.map ∧
    (releaseHead l f s).act = s.act ∧
    (releaseHead l f s).prof = s.prof ∧
    (releaseHead l f s).pins = s.pins ∧
    (releaseHead l f s).cnt = s.cnt ∧
    (releaseHead l f s).races = s.races ∧
    (releaseHead l f s).pending = s.pending := by
  unfold releaseHead
  repeat' split
  all_goals simp

@[simp] theorem ejectHead_frame (l : Lane) (s : State) :
    (ejectHead l s).pos = s.pos ∧
    (ejectHead l s).reg = s.reg ∧
    (ejectHead l s).cut = s.cut ∧
    (ejectHead l s).map = s.map ∧
    (ejectHead l s).prof = s.prof ∧
    (ejectHead l s).pins = s.pins ∧
    (ejectHead l s).cnt = s.cnt ∧
    (ejectHead l s).races = s.races ∧
    (ejectHead l s).pending = s.pending := by
  unfold ejectHead
  repeat' split
  all_goals simp

@[simp] theorem ejectReached_frame (l : Lane) (j : Nat) (s : State) :
    (ejectReached l j s).pos = s.pos ∧
    (ejectReached l j s).reg = s.reg ∧
    (ejectReached l j s).cut = s.cut ∧
    (ejectReached l j s).map = s.map ∧
    (ejectReached l j s).prof = s.prof ∧
    (ejectReached l j s).pins = s.pins ∧
    (ejectReached l j s).cnt = s.cnt ∧
    (ejectReached l j s).races = s.races ∧
    (ejectReached l j s).pending = s.pending := by
  induction j generalizing s with
  | zero => simp [ejectReached]
  | succ j ih =>
    unfold ejectReached
    split
    · simp [ih]
    · simp

@[simp] theorem runEjects_frame (l : Lane) (s : State) :
    (runEjects l s).pos = s.pos ∧
    (runEjects l s).reg = s.reg ∧
    (runEjects l s).cut = s.cut ∧
    (runEjects l s).map = s.map ∧
    (runEjects l s).prof = s.prof ∧
    (runEjects l s).pins = s.pins ∧
    (runEjects l s).cnt = s.cnt ∧
    (runEjects l s).races = s.races ∧
    (runEjects l s).pending = s.pending := by
  simp [runEjects]

@[simp] theorem joinEjects_frame (l : Lane) (i : SlotIndex) (seq : Seq) (target : Pos) (s : State) :
    (joinEjects l i seq target s).pos = s.pos ∧
    (joinEjects l i seq target s).reg = s.reg ∧
    (joinEjects l i seq target s).cut = s.cut ∧
    (joinEjects l i seq target s).map = s.map ∧
    (joinEjects l i seq target s).prof = s.prof ∧
    (joinEjects l i seq target s).pins = s.pins ∧
    (joinEjects l i seq target s).cnt = s.cnt ∧
    (joinEjects l i seq target s).races = s.races ∧
    (joinEjects l i seq target s).pending = s.pending := by
  unfold joinEjects
  dsimp only
  repeat' split
  all_goals simp

@[simp] theorem releaseEjects_frame (l : Lane) (f : StackRecord → StackRecord) (s : State) :
    (releaseEjects l f s).pos = s.pos ∧
    (releaseEjects l f s).reg = s.reg ∧
    (releaseEjects l f s).cut = s.cut ∧
    (releaseEjects l f s).map = s.map ∧
    (releaseEjects l f s).act = s.act ∧
    (releaseEjects l f s).prof = s.prof ∧
    (releaseEjects l f s).pins = s.pins ∧
    (releaseEjects l f s).cnt = s.cnt ∧
    (releaseEjects l f s).races = s.races ∧
    (releaseEjects l f s).pending = s.pending :=
  ⟨(foldl_keep (fun t : State => t.pos) _ (fun _ _ => by simp) _ _).trans (by simp),
   (foldl_keep (fun t : State => t.reg) _ (fun _ _ => by simp) _ _).trans (by simp),
   (foldl_keep (fun t : State => t.cut) _ (fun _ _ => by simp) _ _).trans (by simp),
   (foldl_keep (fun t : State => t.map) _ (fun _ _ => by simp) _ _).trans (by simp),
   (foldl_keep (fun t : State => t.act) _ (fun _ _ => by simp) _ _).trans (by simp),
   (foldl_keep (fun t : State => t.prof) _ (fun _ _ => by simp) _ _).trans (by simp),
   (foldl_keep (fun t : State => t.pins) _ (fun _ _ => by simp) _ _).trans (by simp),
   (foldl_keep (fun t : State => t.cnt) _ (fun _ _ => by simp) _ _).trans (by simp),
   (foldl_keep (fun t : State => t.races) _ (fun _ _ => by simp) _ _).trans (by simp),
   (foldl_keep (fun t : State => t.pending) _ (fun _ _ => by simp) _ _).trans (by simp)⟩

@[simp] theorem closeIntoEjects_frame (l : Lane) (o : OpenStack) (seq : Seq) (kind : ClosingKind) (s : State) :
    (closeIntoEjects l o seq kind s).pos = s.pos ∧
    (closeIntoEjects l o seq kind s).reg = s.reg ∧
    (closeIntoEjects l o seq kind s).cut = s.cut ∧
    (closeIntoEjects l o seq kind s).map = s.map ∧
    (closeIntoEjects l o seq kind s).prof = s.prof ∧
    (closeIntoEjects l o seq kind s).pins = s.pins ∧
    (closeIntoEjects l o seq kind s).cnt = s.cnt ∧
    (closeIntoEjects l o seq kind s).races = s.races ∧
    (closeIntoEjects l o seq kind s).pending = s.pending := by
  simp [closeIntoEjects]

@[simp] theorem shortClose_frame (l : Lane) (kind : ClosingKind) (s : State) :
    (shortClose l kind s).pos = s.pos ∧
    (shortClose l kind s).reg = s.reg ∧
    (shortClose l kind s).cut = s.cut ∧
    (shortClose l kind s).map = s.map ∧
    (shortClose l kind s).prof = s.prof ∧
    (shortClose l kind s).pins = s.pins ∧
    (shortClose l kind s).cnt = s.cnt ∧
    (shortClose l kind s).races = s.races ∧
    (shortClose l kind s).pending = s.pending := by
  unfold shortClose
  repeat' split
  all_goals simp

@[simp] theorem afterClose_frame (l : Lane) (nogap final : Bool) (s : State) :
    (afterClose l nogap final s).pos = s.pos ∧
    (afterClose l nogap final s).reg = s.reg ∧
    (afterClose l nogap final s).cut = s.cut ∧
    (afterClose l nogap final s).map = s.map ∧
    (afterClose l nogap final s).log = s.log ∧
    (afterClose l nogap final s).act = s.act ∧
    (afterClose l nogap final s).prof = s.prof ∧
    (afterClose l nogap final s).pins = s.pins ∧
    (afterClose l nogap final s).cnt = s.cnt ∧
    (afterClose l nogap final s).links = s.links ∧
    (afterClose l nogap final s).races = s.races ∧
    (afterClose l nogap final s).pending = s.pending := by
  unfold afterClose
  repeat' split
  all_goals simp

@[simp] theorem startEmptyQuarantine_frame (l : Lane) (s : State) :
    (startEmptyQuarantine l s).pos = s.pos ∧
    (startEmptyQuarantine l s).reg = s.reg ∧
    (startEmptyQuarantine l s).cut = s.cut ∧
    (startEmptyQuarantine l s).map = s.map ∧
    (startEmptyQuarantine l s).log = s.log ∧
    (startEmptyQuarantine l s).act = s.act ∧
    (startEmptyQuarantine l s).prof = s.prof ∧
    (startEmptyQuarantine l s).pins = s.pins ∧
    (startEmptyQuarantine l s).cnt = s.cnt ∧
    (startEmptyQuarantine l s).links = s.links ∧
    (startEmptyQuarantine l s).races = s.races ∧
    (startEmptyQuarantine l s).pending = s.pending := by
  simp [startEmptyQuarantine]

@[simp] theorem openStackToQuarantine_frame (l : Lane) (s : State) :
    (openStackToQuarantine l s).pos = s.pos ∧
    (openStackToQuarantine l s).reg = s.reg ∧
    (openStackToQuarantine l s).cut = s.cut ∧
    (openStackToQuarantine l s).map = s.map ∧
    (openStackToQuarantine l s).act = s.act ∧
    (openStackToQuarantine l s).prof = s.prof ∧
    (openStackToQuarantine l s).pins = s.pins ∧
    (openStackToQuarantine l s).cnt = s.cnt ∧
    (openStackToQuarantine l s).links = s.links ∧
    (openStackToQuarantine l s).races = s.races ∧
    (openStackToQuarantine l s).pending = s.pending := by
  unfold openStackToQuarantine
  repeat' split
  all_goals simp

@[simp] theorem enterFault_frame (l : Lane) (s : State) :
    (enterFault l s).pos = s.pos ∧
    (enterFault l s).reg = s.reg ∧
    (enterFault l s).cut = s.cut ∧
    (enterFault l s).map = s.map ∧
    (enterFault l s).act = s.act ∧
    (enterFault l s).prof = s.prof ∧
    (enterFault l s).pins = s.pins ∧
    (enterFault l s).cnt = s.cnt ∧
    (enterFault l s).races = s.races ∧
    (enterFault l s).pending = s.pending := by
  simp [enterFault]

@[simp] theorem faultLane_frame (l : Lane) (s : State) :
    (faultLane l s).pos = s.pos ∧
    (faultLane l s).reg = s.reg ∧
    (faultLane l s).cut = s.cut ∧
    (faultLane l s).map = s.map ∧
    (faultLane l s).act = s.act ∧
    (faultLane l s).prof = s.prof ∧
    (faultLane l s).pins = s.pins ∧
    (faultLane l s).cnt = s.cnt ∧
    (faultLane l s).races = s.races ∧
    (faultLane l s).pending = s.pending := by
  unfold faultLane
  dsimp only
  repeat' split
  all_goals simp

@[simp] theorem leaveMask_frame (l : Lane) (s : State) :
    (leaveMask l s).pos = s.pos ∧
    (leaveMask l s).reg = s.reg ∧
    (leaveMask l s).cut = s.cut ∧
    (leaveMask l s).map = s.map ∧
    (leaveMask l s).prof = s.prof ∧
    (leaveMask l s).pins = s.pins ∧
    (leaveMask l s).cnt = s.cnt ∧
    (leaveMask l s).races = s.races ∧
    (leaveMask l s).pending = s.pending := by
  unfold leaveMask
  repeat' split
  all_goals simp

@[simp] theorem joinMask_frame (l : Lane) (s : State) :
    (joinMask l s).pos = s.pos ∧
    (joinMask l s).reg = s.reg ∧
    (joinMask l s).cut = s.cut ∧
    (joinMask l s).map = s.map ∧
    (joinMask l s).act = s.act ∧
    (joinMask l s).prof = s.prof ∧
    (joinMask l s).pins = s.pins ∧
    (joinMask l s).cnt = s.cnt ∧
    (joinMask l s).races = s.races ∧
    (joinMask l s).pending = s.pending := by
  unfold joinMask
  dsimp only
  repeat' split
  all_goals simp

@[simp] theorem changeMask_frame (old new : LaneSet) (l : Lane) (s : State) :
    (changeMask old new l s).pos = s.pos ∧
    (changeMask old new l s).reg = s.reg ∧
    (changeMask old new l s).cut = s.cut ∧
    (changeMask old new l s).map = s.map ∧
    (changeMask old new l s).prof = s.prof ∧
    (changeMask old new l s).pins = s.pins ∧
    (changeMask old new l s).cnt = s.cnt ∧
    (changeMask old new l s).races = s.races ∧
    (changeMask old new l s).pending = s.pending := by
  unfold changeMask
  repeat' split
  all_goals simp

@[simp] theorem changeMasks_frame (old new : LaneSet) (s : State) :
    (changeMasks old new s).pos = s.pos ∧
    (changeMasks old new s).reg = s.reg ∧
    (changeMasks old new s).cut = s.cut ∧
    (changeMasks old new s).map = s.map ∧
    (changeMasks old new s).prof = s.prof ∧
    (changeMasks old new s).pins = s.pins ∧
    (changeMasks old new s).cnt = s.cnt ∧
    (changeMasks old new s).pending = s.pending :=
  ⟨(foldl_keep (fun t : State => t.pos) _ (fun _ _ => by simp) _ _).trans (by simp only [drawOrder_frame]; exact foldl_keep (fun t : State => t.pos) _ (fun _ _ => by simp) _ _),
   (foldl_keep (fun t : State => t.reg) _ (fun _ _ => by simp) _ _).trans (by simp only [drawOrder_frame]; exact foldl_keep (fun t : State => t.reg) _ (fun _ _ => by simp) _ _),
   (foldl_keep (fun t : State => t.cut) _ (fun _ _ => by simp) _ _).trans (by simp only [drawOrder_frame]; exact foldl_keep (fun t : State => t.cut) _ (fun _ _ => by simp) _ _),
   (foldl_keep (fun t : State => t.map) _ (fun _ _ => by simp) _ _).trans (by simp only [drawOrder_frame]; exact foldl_keep (fun t : State => t.map) _ (fun _ _ => by simp) _ _),
   (foldl_keep (fun t : State => t.prof) _ (fun _ _ => by simp) _ _).trans (by simp only [drawOrder_frame]; exact foldl_keep (fun t : State => t.prof) _ (fun _ _ => by simp) _ _),
   (foldl_keep (fun t : State => t.pins) _ (fun _ _ => by simp) _ _).trans (by simp only [drawOrder_frame]; exact foldl_keep (fun t : State => t.pins) _ (fun _ _ => by simp) _ _),
   (foldl_keep (fun t : State => t.cnt) _ (fun _ _ => by simp) _ _).trans (by simp only [drawOrder_frame]; exact foldl_keep (fun t : State => t.cnt) _ (fun _ _ => by simp) _ _),
   (foldl_keep (fun t : State => t.pending) _ (fun _ _ => by simp) _ _).trans (by simp only [drawOrder_frame]; exact foldl_keep (fun t : State => t.pending) _ (fun _ _ => by simp) _ _)⟩

@[simp] theorem enterIdle_frame (m : Mode) (s : State) :
    (enterIdle m s).map = s.map ∧
    (enterIdle m s).lanes = s.lanes ∧
    (enterIdle m s).log = s.log ∧
    (enterIdle m s).pins = s.pins ∧
    (enterIdle m s).cnt = s.cnt ∧
    (enterIdle m s).links = s.links ∧
    (enterIdle m s).races = s.races ∧
    (enterIdle m s).pending = s.pending := by
  simp [enterIdle]

@[simp] theorem enterSetup_frame (s : State) :
    (enterSetup s).map = s.map ∧
    (enterSetup s).lanes = s.lanes ∧
    (enterSetup s).log = s.log ∧
    (enterSetup s).pins = s.pins ∧
    (enterSetup s).cnt = s.cnt ∧
    (enterSetup s).links = s.links ∧
    (enterSetup s).races = s.races ∧
    (enterSetup s).pending = s.pending := by
  simp [enterSetup]

@[simp] theorem haltPushers_frame (s : State) :
    (haltPushers s).pos = s.pos ∧
    (haltPushers s).reg = s.reg ∧
    (haltPushers s).cut = s.cut ∧
    (haltPushers s).map = s.map ∧
    (haltPushers s).log = s.log ∧
    (haltPushers s).prof = s.prof ∧
    (haltPushers s).pins = s.pins ∧
    (haltPushers s).cnt = s.cnt ∧
    (haltPushers s).links = s.links ∧
    (haltPushers s).races = s.races ∧
    (haltPushers s).pending = s.pending :=
  ⟨foldl_keep (fun t : State => t.pos) _ (fun _ _ => by simp) _ _,
   foldl_keep (fun t : State => t.reg) _ (fun _ _ => by simp) _ _,
   foldl_keep (fun t : State => t.cut) _ (fun _ _ => by simp) _ _,
   foldl_keep (fun t : State => t.map) _ (fun _ _ => by simp) _ _,
   foldl_keep (fun t : State => t.log) _ (fun _ _ => by simp) _ _,
   foldl_keep (fun t : State => t.prof) _ (fun _ _ => by simp) _ _,
   foldl_keep (fun t : State => t.pins) _ (fun _ _ => by simp) _ _,
   foldl_keep (fun t : State => t.cnt) _ (fun _ _ => by simp) _ _,
   foldl_keep (fun t : State => t.links) _ (fun _ _ => by simp) _ _,
   foldl_keep (fun t : State => t.races) _ (fun _ _ => by simp) _ _,
   foldl_keep (fun t : State => t.pending) _ (fun _ _ => by simp) _ _⟩

@[simp] theorem withdrawCommit_frame (s : State) :
    (withdrawCommit s).pos = s.pos ∧
    (withdrawCommit s).reg = s.reg ∧
    (withdrawCommit s).cut = s.cut ∧
    (withdrawCommit s).map = s.map ∧
    (withdrawCommit s).lanes = s.lanes ∧
    (withdrawCommit s).log = s.log ∧
    (withdrawCommit s).act = s.act ∧
    (withdrawCommit s).pins = s.pins ∧
    (withdrawCommit s).cnt = s.cnt ∧
    (withdrawCommit s).links = s.links ∧
    (withdrawCommit s).races = s.races ∧
    (withdrawCommit s).pending = s.pending := by
  simp [withdrawCommit]

@[simp] theorem enterHalt_frame (cause : HaltCause) (s : State) :
    (enterHalt cause s).map = s.map ∧
    (enterHalt cause s).log = s.log ∧
    (enterHalt cause s).pins = s.pins ∧
    (enterHalt cause s).cnt = s.cnt ∧
    (enterHalt cause s).races = s.races ∧
    (enterHalt cause s).pending = s.pending := by
  unfold enterHalt
  repeat' split
  all_goals simp

@[simp] theorem latchKnife_frame (kind : Latch) (s : State) :
    (latchKnife kind s).map = s.map ∧
    (latchKnife kind s).log = s.log ∧
    (latchKnife kind s).pins = s.pins ∧
    (latchKnife kind s).cnt = s.cnt ∧
    (latchKnife kind s).races = s.races ∧
    (latchKnife kind s).pending = s.pending := by
  simp [latchKnife]

@[simp] theorem latchGate_frame (l : Lane) (kind : Latch) (s : State) :
    (latchGate l kind s).pos = s.pos ∧
    (latchGate l kind s).reg = s.reg ∧
    (latchGate l kind s).cut = s.cut ∧
    (latchGate l kind s).map = s.map ∧
    (latchGate l kind s).prof = s.prof ∧
    (latchGate l kind s).pins = s.pins ∧
    (latchGate l kind s).cnt = s.cnt ∧
    (latchGate l kind s).races = s.races ∧
    (latchGate l kind s).pending = s.pending := by
  simp [latchGate]

@[simp] theorem spoilPulseStack_frame (l : Lane) (s : State) :
    (spoilPulseStack l s).pos = s.pos ∧
    (spoilPulseStack l s).reg = s.reg ∧
    (spoilPulseStack l s).cut = s.cut ∧
    (spoilPulseStack l s).map = s.map ∧
    (spoilPulseStack l s).act = s.act ∧
    (spoilPulseStack l s).prof = s.prof ∧
    (spoilPulseStack l s).pins = s.pins ∧
    (spoilPulseStack l s).cnt = s.cnt ∧
    (spoilPulseStack l s).links = s.links ∧
    (spoilPulseStack l s).races = s.races ∧
    (spoilPulseStack l s).pending = s.pending := by
  unfold spoilPulseStack
  repeat' split
  all_goals simp

@[simp] theorem latchPusher_frame (l : Lane) (kind : Latch) (s : State) :
    (latchPusher l kind s).pos = s.pos ∧
    (latchPusher l kind s).reg = s.reg ∧
    (latchPusher l kind s).cut = s.cut ∧
    (latchPusher l kind s).map = s.map ∧
    (latchPusher l kind s).prof = s.prof ∧
    (latchPusher l kind s).pins = s.pins ∧
    (latchPusher l kind s).cnt = s.cnt ∧
    (latchPusher l kind s).races = s.races ∧
    (latchPusher l kind s).pending = s.pending := by
  unfold latchPusher
  dsimp only
  repeat' split
  all_goals simp

@[simp] theorem latchOutput_frame (o : Output) (kind : Latch) (s : State) :
    (latchOutput o kind s).map = s.map ∧
    (latchOutput o kind s).pins = s.pins ∧
    (latchOutput o kind s).cnt = s.cnt ∧
    (latchOutput o kind s).races = s.races ∧
    (latchOutput o kind s).pending = s.pending := by
  unfold latchOutput
  repeat' split
  all_goals simp

@[simp] theorem latchIfOverloaded_frame (o : Output) (s : State) :
    (latchIfOverloaded o s).map = s.map ∧
    (latchIfOverloaded o s).pins = s.pins ∧
    (latchIfOverloaded o s).cnt = s.cnt ∧
    (latchIfOverloaded o s).races = s.races ∧
    (latchIfOverloaded o s).pending = s.pending := by
  unfold latchIfOverloaded
  repeat' split
  all_goals simp

@[simp] theorem finishDrive_frame (before after : State) :
    (finishDrive before after).map = after.map ∧
    (finishDrive before after).pins = after.pins ∧
    (finishDrive before after).cnt = after.cnt ∧
    (finishDrive before after).pending = after.pending :=
  ⟨(foldl_keep (fun t : State => t.map) _ (fun _ _ => by simp) _ _).trans (by simp),
   (foldl_keep (fun t : State => t.pins) _ (fun _ _ => by simp) _ _).trans (by simp),
   (foldl_keep (fun t : State => t.cnt) _ (fun _ _ => by simp) _ _).trans (by simp),
   (foldl_keep (fun t : State => t.pending) _ (fun _ _ => by simp) _ _).trans (by simp)⟩

@[simp] theorem haltFor_frame (cause : HaltCause) (s : State) :
    (haltFor cause s).map = s.map ∧
    (haltFor cause s).pins = s.pins ∧
    (haltFor cause s).cnt = s.cnt ∧
    (haltFor cause s).pending = s.pending := by
  unfold haltFor
  repeat' split
  all_goals simp

@[simp] theorem endDraining_frame (s : State) :
    (endDraining s).map = s.map ∧
    (endDraining s).lanes = s.lanes ∧
    (endDraining s).log = s.log ∧
    (endDraining s).pins = s.pins ∧
    (endDraining s).cnt = s.cnt ∧
    (endDraining s).races = s.races ∧
    (endDraining s).pending = s.pending := by
  unfold endDraining
  repeat' split
  all_goals simp

@[simp] theorem reportDrained_frame (s : State) :
    (reportDrained s).map = s.map ∧
    (reportDrained s).pins = s.pins ∧
    (reportDrained s).cnt = s.cnt ∧
    (reportDrained s).pending = s.pending := by
  unfold reportDrained
  repeat' split
  all_goals simp

end Sys2Proof.Machine
end

