-- ==== Sys2Proof/Laws/TrackFrames.lean ====
section
/-!
SUPPORT. What each shared operation leaves unchanged, block by block: the map, the cut scheduler, the decision, the profile, the registration unit and the counters of position.
-/

namespace Sys2Proof.Machine

@[simp] theorem extendPurge_frame (t : Pos) (s : State) :
    (extendPurge t s).pos = s.pos ∧
    (extendPurge t s).reg = s.reg ∧
    (extendPurge t s).cut = s.cut ∧
    (extendPurge t s).lanes = s.lanes ∧
    (extendPurge t s).log = s.log ∧
    (extendPurge t s).act = s.act ∧
    (extendPurge t s).prof = s.prof ∧
    (extendPurge t s).pins = s.pins ∧
    (extendPurge t s).cnt = s.cnt ∧
    (extendPurge t s).races = s.races ∧
    (extendPurge t s).pending = s.pending := by
  unfold extendPurge
  dsimp only
  repeat' split
  all_goals simp

@[simp] theorem normalEntry_frame (s : State) :
    (normalEntry s).pos = s.pos ∧
    (normalEntry s).reg = s.reg ∧
    (normalEntry s).cut = s.cut ∧
    (normalEntry s).lanes = s.lanes ∧
    (normalEntry s).log = s.log ∧
    (normalEntry s).act = s.act ∧
    (normalEntry s).prof = s.prof ∧
    (normalEntry s).pins = s.pins ∧
    (normalEntry s).cnt = s.cnt ∧
    (normalEntry s).races = s.races ∧
    (normalEntry s).pending = s.pending := by
  unfold normalEntry
  dsimp only
  repeat' split
  all_goals simp

@[simp] theorem breakRun_frame (s : State) :
    (breakRun s).pos = s.pos ∧
    (breakRun s).reg = s.reg ∧
    (breakRun s).cut = s.cut ∧
    (breakRun s).lanes = s.lanes ∧
    (breakRun s).log = s.log ∧
    (breakRun s).act = s.act ∧
    (breakRun s).prof = s.prof ∧
    (breakRun s).pins = s.pins ∧
    (breakRun s).cnt = s.cnt ∧
    (breakRun s).links = s.links ∧
    (breakRun s).races = s.races ∧
    (breakRun s).pending = s.pending := by
  simp [breakRun]

@[simp] theorem applySpacing_frame (c : Spacing) (t : Pos) (s : State) :
    (applySpacing c t s).pos = s.pos ∧
    (applySpacing c t s).reg = s.reg ∧
    (applySpacing c t s).cut = s.cut ∧
    (applySpacing c t s).lanes = s.lanes ∧
    (applySpacing c t s).log = s.log ∧
    (applySpacing c t s).act = s.act ∧
    (applySpacing c t s).prof = s.prof ∧
    (applySpacing c t s).pins = s.pins ∧
    (applySpacing c t s).cnt = s.cnt ∧
    (applySpacing c t s).races = s.races ∧
    (applySpacing c t s).pending = s.pending := by
  unfold applySpacing
  repeat' split
  all_goals simp

@[simp] theorem setLastStamp_frame (t : Pos) (s : State) :
    (setLastStamp t s).pos = s.pos ∧
    (setLastStamp t s).reg = s.reg ∧
    (setLastStamp t s).cut = s.cut ∧
    (setLastStamp t s).lanes = s.lanes ∧
    (setLastStamp t s).log = s.log ∧
    (setLastStamp t s).act = s.act ∧
    (setLastStamp t s).prof = s.prof ∧
    (setLastStamp t s).pins = s.pins ∧
    (setLastStamp t s).cnt = s.cnt ∧
    (setLastStamp t s).links = s.links ∧
    (setLastStamp t s).races = s.races ∧
    (setLastStamp t s).pending = s.pending := by
  simp [setLastStamp]

@[simp] theorem enterRecord_frame (cut : Cut) (t : Pos) (s : State) :
    (enterRecord cut t s).pos = s.pos ∧
    (enterRecord cut t s).reg = s.reg ∧
    (enterRecord cut t s).cut = s.cut ∧
    (enterRecord cut t s).lanes = s.lanes ∧
    (enterRecord cut t s).log = s.log ∧
    (enterRecord cut t s).act = s.act ∧
    (enterRecord cut t s).prof = s.prof ∧
    (enterRecord cut t s).pins = s.pins ∧
    (enterRecord cut t s).races = s.races ∧
    (enterRecord cut t s).pending = s.pending := by
  unfold enterRecord
  dsimp only
  simp

@[simp] theorem untrackedRepeat_frame (t : Pos) (s : State) :
    (untrackedRepeat t s).pos = s.pos ∧
    (untrackedRepeat t s).reg = s.reg ∧
    (untrackedRepeat t s).cut = s.cut ∧
    (untrackedRepeat t s).lanes = s.lanes ∧
    (untrackedRepeat t s).log = s.log ∧
    (untrackedRepeat t s).act = s.act ∧
    (untrackedRepeat t s).prof = s.prof ∧
    (untrackedRepeat t s).pins = s.pins ∧
    (untrackedRepeat t s).races = s.races ∧
    (untrackedRepeat t s).pending = s.pending := by
  simp [untrackedRepeat]

@[simp] theorem enterMap_frame (cut : Cut) (t : Pos) (s : State) :
    (enterMap cut t s).pos = s.pos ∧
    (enterMap cut t s).reg = s.reg ∧
    (enterMap cut t s).cut = s.cut ∧
    (enterMap cut t s).lanes = s.lanes ∧
    (enterMap cut t s).log = s.log ∧
    (enterMap cut t s).act = s.act ∧
    (enterMap cut t s).prof = s.prof ∧
    (enterMap cut t s).pins = s.pins ∧
    (enterMap cut t s).races = s.races ∧
    (enterMap cut t s).pending = s.pending := by
  unfold enterMap
  repeat' split
  all_goals simp

@[simp] theorem pushNotice_frame (n : Notice) (s : State) :
    (pushNotice n s).pos = s.pos ∧
    (pushNotice n s).reg = s.reg ∧
    (pushNotice n s).cut = s.cut ∧
    (pushNotice n s).lanes = s.lanes ∧
    (pushNotice n s).log = s.log ∧
    (pushNotice n s).act = s.act ∧
    (pushNotice n s).prof = s.prof ∧
    (pushNotice n s).pins = s.pins ∧
    (pushNotice n s).races = s.races ∧
    (pushNotice n s).pending = s.pending := by
  unfold pushNotice
  repeat' split
  all_goals simp

@[simp] theorem missStrike_frame (w : ConfirmWindow) (s : State) :
    (missStrike w s).pos = s.pos ∧
    (missStrike w s).reg = s.reg ∧
    (missStrike w s).lanes = s.lanes ∧
    (missStrike w s).log = s.log ∧
    (missStrike w s).act = s.act ∧
    (missStrike w s).prof = s.prof ∧
    (missStrike w s).pins = s.pins ∧
    (missStrike w s).cnt = s.cnt ∧
    (missStrike w s).links = s.links ∧
    (missStrike w s).races = s.races ∧
    (missStrike w s).pending = s.pending := by
  simp [missStrike]

@[simp] theorem closeConfirm_frame (s : State) :
    (closeConfirm s).pos = s.pos ∧
    (closeConfirm s).reg = s.reg ∧
    (closeConfirm s).lanes = s.lanes ∧
    (closeConfirm s).log = s.log ∧
    (closeConfirm s).act = s.act ∧
    (closeConfirm s).prof = s.prof ∧
    (closeConfirm s).pins = s.pins ∧
    (closeConfirm s).cnt = s.cnt ∧
    (closeConfirm s).links = s.links ∧
    (closeConfirm s).races = s.races ∧
    (closeConfirm s).pending = s.pending := by
  unfold closeConfirm
  repeat' split
  all_goals simp

@[simp] theorem openConfirm_frame (n : RepeatNo) (s : State) :
    (openConfirm n s).pos = s.pos ∧
    (openConfirm n s).reg = s.reg ∧
    (openConfirm n s).map = s.map ∧
    (openConfirm n s).lanes = s.lanes ∧
    (openConfirm n s).log = s.log ∧
    (openConfirm n s).act = s.act ∧
    (openConfirm n s).prof = s.prof ∧
    (openConfirm n s).pins = s.pins ∧
    (openConfirm n s).cnt = s.cnt ∧
    (openConfirm n s).links = s.links ∧
    (openConfirm n s).races = s.races ∧
    (openConfirm n s).pending = s.pending := by
  unfold openConfirm
  repeat' split
  all_goals simp

@[simp] theorem handOver_frame (c : Cut) (s : State) :
    (handOver c s).pos = s.pos ∧
    (handOver c s).reg = s.reg ∧
    (handOver c s).lanes = s.lanes ∧
    (handOver c s).log = s.log ∧
    (handOver c s).act = s.act ∧
    (handOver c s).prof = s.prof ∧
    (handOver c s).pins = s.pins ∧
    (handOver c s).races = s.races ∧
    (handOver c s).pending = s.pending := by
  simp [handOver]

@[simp] theorem strike_frame (c : Cut) (s : State) :
    (strike c s).pos = s.pos ∧
    (strike c s).reg = s.reg ∧
    (strike c s).lanes = s.lanes ∧
    (strike c s).log = s.log ∧
    (strike c s).prof = s.prof ∧
    (strike c s).pins = s.pins ∧
    (strike c s).races = s.races ∧
    (strike c s).pending = s.pending := by
  unfold strike
  repeat' split
  all_goals simp

@[simp] theorem strikeOldest_frame (s : State) :
    (strikeOldest s).pos = s.pos ∧
    (strikeOldest s).reg = s.reg ∧
    (strikeOldest s).lanes = s.lanes ∧
    (strikeOldest s).log = s.log ∧
    (strikeOldest s).prof = s.prof ∧
    (strikeOldest s).pins = s.pins ∧
    (strikeOldest s).races = s.races ∧
    (strikeOldest s).pending = s.pending := by
  unfold strikeOldest
  repeat' split
  all_goals simp

@[simp] theorem spliceTest_frame (c : Cut) (s : State) :
    (spliceTest c s).2.pos = s.pos ∧
    (spliceTest c s).2.reg = s.reg ∧
    (spliceTest c s).2.map = s.map ∧
    (spliceTest c s).2.lanes = s.lanes ∧
    (spliceTest c s).2.log = s.log ∧
    (spliceTest c s).2.act = s.act ∧
    (spliceTest c s).2.prof = s.prof ∧
    (spliceTest c s).2.pins = s.pins ∧
    (spliceTest c s).2.cnt = s.cnt ∧
    (spliceTest c s).2.links = s.links ∧
    (spliceTest c s).2.races = s.races ∧
    (spliceTest c s).2.pending = s.pending := by
  simp [spliceTest]

@[simp] theorem fireCut_frame (c : Cut) (s : State) :
    (fireCut c s).pos = s.pos ∧
    (fireCut c s).reg = s.reg ∧
    (fireCut c s).lanes = s.lanes ∧
    (fireCut c s).log = s.log ∧
    (fireCut c s).prof = s.prof ∧
    (fireCut c s).pins = s.pins ∧
    (fireCut c s).races = s.races ∧
    (fireCut c s).pending = s.pending := by
  unfold fireCut
  dsimp only
  repeat' split
  all_goals simp

@[simp] theorem fireHead_frame (s : State) :
    (fireHead s).pos = s.pos ∧
    (fireHead s).reg = s.reg ∧
    (fireHead s).lanes = s.lanes ∧
    (fireHead s).log = s.log ∧
    (fireHead s).prof = s.prof ∧
    (fireHead s).pins = s.pins ∧
    (fireHead s).races = s.races ∧
    (fireHead s).pending = s.pending := by
  unfold fireHead
  repeat' split
  all_goals simp

@[simp] theorem fireReached_frame (j : Nat) (s : State) :
    (fireReached j s).pos = s.pos ∧
    (fireReached j s).reg = s.reg ∧
    (fireReached j s).lanes = s.lanes ∧
    (fireReached j s).log = s.log ∧
    (fireReached j s).prof = s.prof ∧
    (fireReached j s).pins = s.pins ∧
    (fireReached j s).races = s.races ∧
    (fireReached j s).pending = s.pending := by
  induction j generalizing s with
  | zero => simp [fireReached]
  | succ j ih =>
    unfold fireReached
    split
    · simp [ih]
    · simp

@[simp] theorem overrun_frame (s : State) :
    (overrun s).pos = s.pos ∧
    (overrun s).reg = s.reg ∧
    (overrun s).map = s.map ∧
    (overrun s).lanes = s.lanes ∧
    (overrun s).log = s.log ∧
    (overrun s).act = s.act ∧
    (overrun s).prof = s.prof ∧
    (overrun s).pins = s.pins ∧
    (overrun s).races = s.races ∧
    (overrun s).pending = s.pending := by
  simp [overrun]

@[simp] theorem joinSchedule_frame (c : Cut) (s : State) :
    (joinSchedule c s).pos = s.pos ∧
    (joinSchedule c s).reg = s.reg ∧
    (joinSchedule c s).map = s.map ∧
    (joinSchedule c s).lanes = s.lanes ∧
    (joinSchedule c s).log = s.log ∧
    (joinSchedule c s).act = s.act ∧
    (joinSchedule c s).prof = s.prof ∧
    (joinSchedule c s).pins = s.pins ∧
    (joinSchedule c s).cnt = s.cnt ∧
    (joinSchedule c s).links = s.links ∧
    (joinSchedule c s).races = s.races ∧
    (joinSchedule c s).pending = s.pending := by
  unfold joinSchedule
  repeat' split
  all_goals simp

@[simp] theorem placeCut_frame (m : MarkRecord) (lanes : LaneSet) (s : State) :
    (placeCut m lanes s).pos = s.pos ∧
    (placeCut m lanes s).reg = s.reg ∧
    (placeCut m lanes s).lanes = s.lanes ∧
    (placeCut m lanes s).log = s.log ∧
    (placeCut m lanes s).prof = s.prof ∧
    (placeCut m lanes s).pins = s.pins ∧
    (placeCut m lanes s).races = s.races ∧
    (placeCut m lanes s).pending = s.pending := by
  unfold placeCut
  dsimp only
  repeat' split
  all_goals simp

@[simp] theorem receiveMark_frame (m : MarkRecord) (s : State) :
    (receiveMark m s).pos = s.pos ∧
    (receiveMark m s).reg = s.reg ∧
    (receiveMark m s).lanes = s.lanes ∧
    (receiveMark m s).log = s.log ∧
    (receiveMark m s).prof = s.prof ∧
    (receiveMark m s).pins = s.pins ∧
    (receiveMark m s).races = s.races ∧
    (receiveMark m s).pending = s.pending := by
  unfold receiveMark
  dsimp only
  repeat' split
  all_goals simp

@[simp] theorem openStack_frame (l : Lane) (i : SlotIndex) (o : Order) (rest : List Order) (s : State) :
    (openStack l i o rest s).pos = s.pos ∧
    (openStack l i o rest s).reg = s.reg ∧
    (openStack l i o rest s).cut = s.cut ∧
    (openStack l i o rest s).map = s.map ∧
    (openStack l i o rest s).act = s.act ∧
    (openStack l i o rest s).prof = s.prof ∧
    (openStack l i o rest s).pins = s.pins ∧
    (openStack l i o rest s).cnt = s.cnt ∧
    (openStack l i o rest s).links = s.links ∧
    (openStack l i o rest s).races = s.races ∧
    (openStack l i o rest s).pending = s.pending := by
  simp [openStack]

@[simp] theorem tryOpen_frame (l : Lane) (s : State) :
    (tryOpen l s).1.pos = s.pos ∧
    (tryOpen l s).1.reg = s.reg ∧
    (tryOpen l s).1.cut = s.cut ∧
    (tryOpen l s).1.map = s.map ∧
    (tryOpen l s).1.act = s.act ∧
    (tryOpen l s).1.prof = s.prof ∧
    (tryOpen l s).1.pins = s.pins ∧
    (tryOpen l s).1.cnt = s.cnt ∧
    (tryOpen l s).1.races = s.races ∧
    (tryOpen l s).1.pending = s.pending := by
  unfold tryOpen
  repeat' split
  all_goals simp

@[simp] theorem rejectInSpan_frame (l : Lane) (s : State) :
    (rejectInSpan l s).pos = s.pos ∧
    (rejectInSpan l s).reg = s.reg ∧
    (rejectInSpan l s).cut = s.cut ∧
    (rejectInSpan l s).map = s.map ∧
    (rejectInSpan l s).act = s.act ∧
    (rejectInSpan l s).prof = s.prof ∧
    (rejectInSpan l s).pins = s.pins ∧
    (rejectInSpan l s).cnt = s.cnt ∧
    (rejectInSpan l s).links = s.links ∧
    (rejectInSpan l s).races = s.races ∧
    (rejectInSpan l s).pending = s.pending := by
  unfold rejectInSpan
  repeat' split
  all_goals simp

@[simp] theorem stackLabel_frame (r : RepeatRecord) (l : Lane) (s : State) :
    (stackLabel r l s).1.pos = s.pos ∧
    (stackLabel r l s).1.reg = s.reg ∧
    (stackLabel r l s).1.cut = s.cut ∧
    (stackLabel r l s).1.map = s.map ∧
    (stackLabel r l s).1.prof = s.prof ∧
    (stackLabel r l s).1.pins = s.pins ∧
    (stackLabel r l s).1.cnt = s.cnt ∧
    (stackLabel r l s).1.races = s.races ∧
    (stackLabel r l s).1.pending = s.pending := by
  unfold stackLabel
  dsimp only
  repeat' split
  all_goals simp

@[simp] theorem quarantineLabel_frame (r : RepeatRecord) (l : Lane) (s : State) :
    (quarantineLabel r l s).pos = s.pos ∧
    (quarantineLabel r l s).reg = s.reg ∧
    (quarantineLabel r l s).cut = s.cut ∧
    (quarantineLabel r l s).map = s.map ∧
    (quarantineLabel r l s).log = s.log ∧
    (quarantineLabel r l s).act = s.act ∧
    (quarantineLabel r l s).prof = s.prof ∧
    (quarantineLabel r l s).pins = s.pins ∧
    (quarantineLabel r l s).cnt = s.cnt ∧
    (quarantineLabel r l s).links = s.links ∧
    (quarantineLabel r l s).races = s.races ∧
    (quarantineLabel r l s).pending = s.pending := by
  simp [quarantineLabel]

@[simp] theorem judge_frame (r : RepeatRecord) (l : Lane) (s : State) :
    (judge r l s).1.pos = s.pos ∧
    (judge r l s).1.reg = s.reg ∧
    (judge r l s).1.cut = s.cut ∧
    (judge r l s).1.map = s.map ∧
    (judge r l s).1.prof = s.prof ∧
    (judge r l s).1.pins = s.pins ∧
    (judge r l s).1.cnt = s.cnt ∧
    (judge r l s).1.races = s.races ∧
    (judge r l s).1.pending = s.pending := by
  unfold judge
  repeat' split
  all_goals simp

@[simp] theorem openAndJudge_frame (r : RepeatRecord) (l : Lane) (s : State) :
    (openAndJudge r l s).1.pos = s.pos ∧
    (openAndJudge r l s).1.reg = s.reg ∧
    (openAndJudge r l s).1.cut = s.cut ∧
    (openAndJudge r l s).1.map = s.map ∧
    (openAndJudge r l s).1.prof = s.prof ∧
    (openAndJudge r l s).1.pins = s.pins ∧
    (openAndJudge r l s).1.cnt = s.cnt ∧
    (openAndJudge r l s).1.races = s.races ∧
    (openAndJudge r l s).1.pending = s.pending := by
  have h := tryOpen_frame l s
  unfold openAndJudge
  split <;> simp_all

@[simp] theorem gateChecks_frame (r : RepeatRecord) (l : Lane) (s : State) :
    (gateChecks r l s).1.pos = s.pos ∧
    (gateChecks r l s).1.reg = s.reg ∧
    (gateChecks r l s).1.cut = s.cut ∧
    (gateChecks r l s).1.map = s.map ∧
    (gateChecks r l s).1.prof = s.prof ∧
    (gateChecks r l s).1.pins = s.pins ∧
    (gateChecks r l s).1.cnt = s.cnt ∧
    (gateChecks r l s).1.races = s.races ∧
    (gateChecks r l s).1.pending = s.pending := by
  unfold gateChecks
  repeat' split
  all_goals simp

@[simp] theorem rejectInterval_frame (r : RepeatRecord) (l : Lane) (s : State) :
    (rejectInterval r l s).pos = s.pos ∧
    (rejectInterval r l s).reg = s.reg ∧
    (rejectInterval r l s).cut = s.cut ∧
    (rejectInterval r l s).map = s.map ∧
    (rejectInterval r l s).log = s.log ∧
    (rejectInterval r l s).prof = s.prof ∧
    (rejectInterval r l s).pins = s.pins ∧
    (rejectInterval r l s).cnt = s.cnt ∧
    (rejectInterval r l s).links = s.links ∧
    (rejectInterval r l s).races = s.races ∧
    (rejectInterval r l s).pending = s.pending := by
  simp [rejectInterval]

@[simp] theorem dispose_frame (r : RepeatRecord) (l : Lane) (d : Disposition) (s : State) :
    (dispose r l d s).pos = s.pos ∧
    (dispose r l d s).reg = s.reg ∧
    (dispose r l d s).cut = s.cut ∧
    (dispose r l d s).log = s.log ∧
    (dispose r l d s).prof = s.prof ∧
    (dispose r l d s).pins = s.pins ∧
    (dispose r l d s).links = s.links ∧
    (dispose r l d s).races = s.races ∧
    (dispose r l d s).pending = s.pending := by
  unfold dispose
  dsimp only
  repeat' split
  all_goals simp

@[simp] theorem decideLane_frame (n : RepeatNo) (l : Lane) (s : State) :
    (decideLane n l s).pos = s.pos ∧
    (decideLane n l s).reg = s.reg ∧
    (decideLane n l s).cut = s.cut ∧
    (decideLane n l s).prof = s.prof ∧
    (decideLane n l s).pins = s.pins ∧
    (decideLane n l s).races = s.races ∧
    (decideLane n l s).pending = s.pending := by
  unfold decideLane
  dsimp only
  repeat' split
  all_goals simp

@[simp] theorem applyToRepeatLength_frame (old : Profile) (s : State) :
    (applyToRepeatLength old s).pos = s.pos ∧
    (applyToRepeatLength old s).cut = s.cut ∧
    (applyToRepeatLength old s).map = s.map ∧
    (applyToRepeatLength old s).lanes = s.lanes ∧
    (applyToRepeatLength old s).log = s.log ∧
    (applyToRepeatLength old s).act = s.act ∧
    (applyToRepeatLength old s).prof = s.prof ∧
    (applyToRepeatLength old s).pins = s.pins ∧
    (applyToRepeatLength old s).cnt = s.cnt ∧
    (applyToRepeatLength old s).races = s.races ∧
    (applyToRepeatLength old s).pending = s.pending := by
  unfold applyToRepeatLength
  repeat' split
  all_goals simp

@[simp] theorem applyToCandidate_frame (old : Profile) (s : State) :
    (applyToCandidate old s).pos = s.pos ∧
    (applyToCandidate old s).cut = s.cut ∧
    (applyToCandidate old s).map = s.map ∧
    (applyToCandidate old s).lanes = s.lanes ∧
    (applyToCandidate old s).log = s.log ∧
    (applyToCandidate old s).act = s.act ∧
    (applyToCandidate old s).prof = s.prof ∧
    (applyToCandidate old s).pins = s.pins ∧
    (applyToCandidate old s).cnt = s.cnt ∧
    (applyToCandidate old s).links = s.links ∧
    (applyToCandidate old s).races = s.races ∧
    (applyToCandidate old s).pending = s.pending := by
  unfold applyToCandidate
  repeat' split
  all_goals simp

@[simp] theorem applyCommit_frame (s : State) :
    (applyCommit s).pos = s.pos ∧
    (applyCommit s).cut = s.cut ∧
    (applyCommit s).map = s.map ∧
    (applyCommit s).pins = s.pins ∧
    (applyCommit s).cnt = s.cnt ∧
    (applyCommit s).pending = s.pending := by
  simp [applyCommit]

@[simp] theorem testDeficits_frame (s : State) :
    (testDeficits s).map = s.map ∧
    (testDeficits s).log = s.log ∧
    (testDeficits s).pins = s.pins ∧
    (testDeficits s).cnt = s.cnt ∧
    (testDeficits s).races = s.races ∧
    (testDeficits s).pending = s.pending := by
  unfold testDeficits
  repeat' split
  all_goals simp

@[simp] theorem classifyAndNumber_frame (m : MarkEvent) (s : State) :
    (classifyAndNumber m s).pos = s.pos ∧
    (classifyAndNumber m s).cut = s.cut ∧
    (classifyAndNumber m s).map = s.map ∧
    (classifyAndNumber m s).lanes = s.lanes ∧
    (classifyAndNumber m s).log = s.log ∧
    (classifyAndNumber m s).act = s.act ∧
    (classifyAndNumber m s).prof = s.prof ∧
    (classifyAndNumber m s).pins = s.pins ∧
    (classifyAndNumber m s).races = s.races ∧
    (classifyAndNumber m s).pending = s.pending := by
  unfold classifyAndNumber
  dsimp only
  repeat' split
  all_goals simp

@[simp] theorem commitAtMark_frame (s : State) :
    (commitAtMark s).pos = s.pos ∧
    (commitAtMark s).cut = s.cut ∧
    (commitAtMark s).map = s.map ∧
    (commitAtMark s).pins = s.pins ∧
    (commitAtMark s).cnt = s.cnt ∧
    (commitAtMark s).pending = s.pending := by
  unfold commitAtMark
  dsimp only
  repeat' split
  all_goals simp

@[simp] theorem filterStage_frame (m : MarkEvent) (s : State) :
    (filterStage m s).pos = s.pos ∧
    (filterStage m s).cut = s.cut ∧
    (filterStage m s).map = s.map ∧
    (filterStage m s).lanes = s.lanes ∧
    (filterStage m s).log = s.log ∧
    (filterStage m s).act = s.act ∧
    (filterStage m s).prof = s.prof ∧
    (filterStage m s).pins = s.pins ∧
    (filterStage m s).cnt = s.cnt ∧
    (filterStage m s).races = s.races ∧
    (filterStage m s).pending = s.pending := by
  unfold filterStage
  dsimp only
  repeat' split
  all_goals simp

@[simp] theorem armNext_frame (m : Pos) (s : State) :
    (armNext m s).pos = s.pos ∧
    (armNext m s).cut = s.cut ∧
    (armNext m s).map = s.map ∧
    (armNext m s).lanes = s.lanes ∧
    (armNext m s).log = s.log ∧
    (armNext m s).act = s.act ∧
    (armNext m s).prof = s.prof ∧
    (armNext m s).pins = s.pins ∧
    (armNext m s).cnt = s.cnt ∧
    (armNext m s).links = s.links ∧
    (armNext m s).races = s.races ∧
    (armNext m s).pending = s.pending := by
  unfold armNext
  repeat' split
  all_goals simp

@[simp] theorem recordMark_frame (m : MarkEvent) (n : RepeatNo) (s : State) :
    (recordMark m n s).pos = s.pos ∧
    (recordMark m n s).cut = s.cut ∧
    (recordMark m n s).map = s.map ∧
    (recordMark m n s).lanes = s.lanes ∧
    (recordMark m n s).log = s.log ∧
    (recordMark m n s).act = s.act ∧
    (recordMark m n s).prof = s.prof ∧
    (recordMark m n s).pins = s.pins ∧
    (recordMark m n s).cnt = s.cnt ∧
    (recordMark m n s).links = s.links ∧
    (recordMark m n s).races = s.races ∧
    (recordMark m n s).pending = s.pending := by
  unfold recordMark
  repeat' split
  all_goals simp

@[simp] theorem takeMark_frame (m : MarkEvent) (s : State) :
    (takeMark m s).pins = s.pins ∧
    (takeMark m s).pending = s.pending := by
  unfold takeMark
  dsimp only
  repeat' split
  all_goals simp

@[simp] theorem openWindow_frame (w : MarkWindow) (s : State) :
    (openWindow w s).pos = s.pos ∧
    (openWindow w s).cut = s.cut ∧
    (openWindow w s).map = s.map ∧
    (openWindow w s).lanes = s.lanes ∧
    (openWindow w s).log = s.log ∧
    (openWindow w s).act = s.act ∧
    (openWindow w s).prof = s.prof ∧
    (openWindow w s).pins = s.pins ∧
    (openWindow w s).cnt = s.cnt ∧
    (openWindow w s).links = s.links ∧
    (openWindow w s).races = s.races ∧
    (openWindow w s).pending = s.pending := by
  simp [openWindow]

@[simp] theorem expireNow_frame (w : MarkWindow) (s : State) :
    (expireNow w s).pins = s.pins ∧
    (expireNow w s).pending = s.pending := by
  simp [expireNow]

@[simp] theorem holdWindow_frame (w : MarkWindow) (s : State) :
    (holdWindow w s).pos = s.pos ∧
    (holdWindow w s).cut = s.cut ∧
    (holdWindow w s).map = s.map ∧
    (holdWindow w s).lanes = s.lanes ∧
    (holdWindow w s).log = s.log ∧
    (holdWindow w s).act = s.act ∧
    (holdWindow w s).prof = s.prof ∧
    (holdWindow w s).pins = s.pins ∧
    (holdWindow w s).cnt = s.cnt ∧
    (holdWindow w s).links = s.links ∧
    (holdWindow w s).races = s.races ∧
    (holdWindow w s).pending = s.pending := by
  simp [holdWindow]

@[simp] theorem takeExpiry_frame (w : MarkWindow) (s : State) :
    (takeExpiry w s).pins = s.pins ∧
    (takeExpiry w s).pending = s.pending := by
  unfold takeExpiry
  repeat' split
  all_goals simp

@[simp] theorem takeVirtual_frame (e : PosEvent) (s : State) :
    (takeVirtual e s).pins = s.pins ∧
    (takeVirtual e s).pending = s.pending := by
  simp [takeVirtual]

/-- What a reached event of the registration unit leaves unchanged when it is taken. -/
theorem nextReached_frame (s : State) (take : State → State) (h : nextReached s = some take) :
    (take s).pins = s.pins ∧ (take s).pending = s.pending := by
  unfold nextReached at h
  repeat' split at h
  all_goals first
    | (cases h; simp)
    | simp at h

@[simp] theorem takePassed_frame (j : Nat) (s : State) :
    (takePassed j s).pins = s.pins ∧ (takePassed j s).pending = s.pending := by
  induction j generalizing s with
  | zero => simp [takePassed]
  | succ j ih =>
    unfold takePassed
    split
    · split
      · rename_i take h
        exact ⟨(ih _).1.trans (nextReached_frame s take h).1, (ih _).2.trans (nextReached_frame s take h).2⟩
      · simp
    · simp

@[simp] theorem afterMark_frame (s : State) :
    (afterMark s).pins = s.pins ∧
    (afterMark s).pending = s.pending := by
  simp [afterMark]

@[simp] theorem setEncoder_frame (s : State) (a : Axis) (e : EncoderState) :
    (s.setEncoder a e).reg = s.reg ∧
    (s.setEncoder a e).cut = s.cut ∧
    (s.setEncoder a e).map = s.map ∧
    (s.setEncoder a e).lanes = s.lanes ∧
    (s.setEncoder a e).log = s.log ∧
    (s.setEncoder a e).act = s.act ∧
    (s.setEncoder a e).prof = s.prof ∧
    (s.setEncoder a e).pins = s.pins ∧
    (s.setEncoder a e).cnt = s.cnt ∧
    (s.setEncoder a e).links = s.links ∧
    (s.setEncoder a e).races = s.races ∧
    (s.setEncoder a e).pending = s.pending := by
  unfold State.setEncoder
  repeat' split
  all_goals simp

@[simp] theorem markReached_frame (a : Axis) (now : Pos) (s : State) :
    (markReached a now s).pos = s.pos ∧
    (markReached a now s).log = s.log ∧
    (markReached a now s).prof = s.prof ∧
    (markReached a now s).pins = s.pins ∧
    (markReached a now s).cnt = s.cnt ∧
    (markReached a now s).links = s.links ∧
    (markReached a now s).races = s.races ∧
    (markReached a now s).pending = s.pending := by
  unfold markReached
  repeat' split
  all_goals simp

@[simp] theorem runWindow_frame (a : Axis) (d : Direction) (s : State) :
    (runWindow a d s).pos = s.pos ∧
    (runWindow a d s).cut = s.cut ∧
    (runWindow a d s).map = s.map ∧
    (runWindow a d s).lanes = s.lanes ∧
    (runWindow a d s).log = s.log ∧
    (runWindow a d s).act = s.act ∧
    (runWindow a d s).prof = s.prof ∧
    (runWindow a d s).pins = s.pins ∧
    (runWindow a d s).cnt = s.cnt ∧
    (runWindow a d s).links = s.links ∧
    (runWindow a d s).races = s.races ∧
    (runWindow a d s).pending = s.pending := by
  unfold runWindow
  repeat' split
  all_goals simp

@[simp] theorem countForward_frame (a : Axis) (s : State) :
    (countForward a s).log = s.log ∧
    (countForward a s).prof = s.prof ∧
    (countForward a s).pins = s.pins ∧
    (countForward a s).cnt = s.cnt ∧
    (countForward a s).links = s.links ∧
    (countForward a s).races = s.races ∧
    (countForward a s).pending = s.pending := by
  unfold countForward
  dsimp only
  repeat' split
  all_goals simp

@[simp] theorem countBack_frame (a : Axis) (s : State) :
    (countBack a s).cut = s.cut ∧
    (countBack a s).map = s.map ∧
    (countBack a s).lanes = s.lanes ∧
    (countBack a s).log = s.log ∧
    (countBack a s).act = s.act ∧
    (countBack a s).prof = s.prof ∧
    (countBack a s).pins = s.pins ∧
    (countBack a s).cnt = s.cnt ∧
    (countBack a s).links = s.links ∧
    (countBack a s).races = s.races ∧
    (countBack a s).pending = s.pending := by
  simp [countBack]

@[simp] theorem countReverse_frame (a : Axis) (s : State) :
    (countReverse a s).map = s.map ∧
    (countReverse a s).pins = s.pins ∧
    (countReverse a s).cnt = s.cnt ∧
    (countReverse a s).pending = s.pending := by
  unfold countReverse
  repeat' split
  all_goals simp

end Sys2Proof.Machine
end

