-- ==== Sys2Proof/Laws/CommandFrames.lean ====
section
/-!
SUPPORT. What each shared operation leaves unchanged, block by block: the commands.
-/

namespace Sys2Proof.Machine

@[simp] theorem answer_frame (s : State) (k : StationLink) (r : Response) :
    (s.answer k r).pos = s.pos ∧
    (s.answer k r).reg = s.reg ∧
    (s.answer k r).cut = s.cut ∧
    (s.answer k r).map = s.map ∧
    (s.answer k r).lanes = s.lanes ∧
    (s.answer k r).log = s.log ∧
    (s.answer k r).act = s.act ∧
    (s.answer k r).prof = s.prof ∧
    (s.answer k r).pins = s.pins ∧
    (s.answer k r).cnt = s.cnt ∧
    (s.answer k r).races = s.races ∧
    (s.answer k r).pending = s.pending := by
  simp [State.answer]

@[simp] theorem reply_frame (s : State) (k : StationLink) (q : Request) (res : Result) (p : Payload) :
    (s.reply k q res p).pos = s.pos ∧
    (s.reply k q res p).reg = s.reg ∧
    (s.reply k q res p).cut = s.cut ∧
    (s.reply k q res p).map = s.map ∧
    (s.reply k q res p).lanes = s.lanes ∧
    (s.reply k q res p).log = s.log ∧
    (s.reply k q res p).act = s.act ∧
    (s.reply k q res p).prof = s.prof ∧
    (s.reply k q res p).pins = s.pins ∧
    (s.reply k q res p).cnt = s.cnt ∧
    (s.reply k q res p).races = s.races ∧
    (s.reply k q res p).pending = s.pending := by
  simp [State.reply]

@[simp] theorem refuse_frame (s : State) (k : StationLink) (q : Request) (res : Result) :
    (s.refuse k q res).pos = s.pos ∧
    (s.refuse k q res).reg = s.reg ∧
    (s.refuse k q res).cut = s.cut ∧
    (s.refuse k q res).map = s.map ∧
    (s.refuse k q res).lanes = s.lanes ∧
    (s.refuse k q res).log = s.log ∧
    (s.refuse k q res).act = s.act ∧
    (s.refuse k q res).prof = s.prof ∧
    (s.refuse k q res).pins = s.pins ∧
    (s.refuse k q res).cnt = s.cnt ∧
    (s.refuse k q res).races = s.races ∧
    (s.refuse k q res).pending = s.pending := by
  simp [State.refuse]

@[simp] theorem leadingEdge_frame (s : State) :
    (leadingEdge s).pos = s.pos ∧
    (leadingEdge s).cut = s.cut ∧
    (leadingEdge s).map = s.map ∧
    (leadingEdge s).lanes = s.lanes ∧
    (leadingEdge s).log = s.log ∧
    (leadingEdge s).act = s.act ∧
    (leadingEdge s).prof = s.prof ∧
    (leadingEdge s).cnt = s.cnt ∧
    (leadingEdge s).links = s.links ∧
    (leadingEdge s).races = s.races ∧
    (leadingEdge s).pending = s.pending := by
  unfold leadingEdge
  dsimp only
  repeat' split
  all_goals simp

@[simp] theorem expireIfHeld_frame (s : State) :
    (expireIfHeld s).pins = s.pins ∧
    (expireIfHeld s).pending = s.pending := by
  unfold expireIfHeld
  repeat' split
  all_goals simp

@[simp] theorem shortMark_frame (s : State) :
    (shortMark s).pins = s.pins ∧
    (shortMark s).pending = s.pending := by
  unfold shortMark
  repeat' split
  all_goals simp

@[simp] theorem strayMark_frame (s : State) :
    (strayMark s).pos = s.pos ∧
    (strayMark s).reg = s.reg ∧
    (strayMark s).cut = s.cut ∧
    (strayMark s).map = s.map ∧
    (strayMark s).lanes = s.lanes ∧
    (strayMark s).log = s.log ∧
    (strayMark s).act = s.act ∧
    (strayMark s).prof = s.prof ∧
    (strayMark s).pins = s.pins ∧
    (strayMark s).links = s.links ∧
    (strayMark s).races = s.races ∧
    (strayMark s).pending = s.pending := by
  simp [strayMark]

@[simp] theorem qualifiedMark_frame (m : Pos) (s : State) :
    (qualifiedMark m s).pins = s.pins ∧
    (qualifiedMark m s).pending = s.pending := by
  unfold qualifiedMark
  repeat' split
  all_goals simp

@[simp] theorem confirmStrike_frame (w : ConfirmWindow) (s : State) :
    (confirmStrike w s).pos = s.pos ∧
    (confirmStrike w s).reg = s.reg ∧
    (confirmStrike w s).lanes = s.lanes ∧
    (confirmStrike w s).log = s.log ∧
    (confirmStrike w s).act = s.act ∧
    (confirmStrike w s).prof = s.prof ∧
    (confirmStrike w s).pins = s.pins ∧
    (confirmStrike w s).cnt = s.cnt ∧
    (confirmStrike w s).links = s.links ∧
    (confirmStrike w s).races = s.races ∧
    (confirmStrike w s).pending = s.pending := by
  simp [confirmStrike]

@[simp] theorem strayConfirm_frame (s : State) :
    (strayConfirm s).pos = s.pos ∧
    (strayConfirm s).reg = s.reg ∧
    (strayConfirm s).cut = s.cut ∧
    (strayConfirm s).map = s.map ∧
    (strayConfirm s).lanes = s.lanes ∧
    (strayConfirm s).log = s.log ∧
    (strayConfirm s).act = s.act ∧
    (strayConfirm s).prof = s.prof ∧
    (strayConfirm s).pins = s.pins ∧
    (strayConfirm s).links = s.links ∧
    (strayConfirm s).races = s.races ∧
    (strayConfirm s).pending = s.pending := by
  simp [strayConfirm]

@[simp] theorem knifeTo_frame (d : Drive) (s : State) :
    (knifeTo d s).pos = s.pos ∧
    (knifeTo d s).reg = s.reg ∧
    (knifeTo d s).lanes = s.lanes ∧
    (knifeTo d s).log = s.log ∧
    (knifeTo d s).prof = s.prof ∧
    (knifeTo d s).pins = s.pins ∧
    (knifeTo d s).races = s.races ∧
    (knifeTo d s).pending = s.pending := by
  unfold knifeTo
  dsimp only
  repeat' split
  all_goals simp

@[simp] theorem spliceSeen_frame (s : State) :
    (spliceSeen s).pos = s.pos ∧
    (spliceSeen s).reg = s.reg ∧
    (spliceSeen s).map = s.map ∧
    (spliceSeen s).lanes = s.lanes ∧
    (spliceSeen s).log = s.log ∧
    (spliceSeen s).act = s.act ∧
    (spliceSeen s).pins = s.pins ∧
    (spliceSeen s).cnt = s.cnt ∧
    (spliceSeen s).races = s.races ∧
    (spliceSeen s).pending = s.pending := by
  simp [spliceSeen]

@[simp] theorem cameraEvent_frame (r : RepeatRecord) (s : State) :
    (cameraEvent r s).pos = s.pos ∧
    (cameraEvent r s).reg = s.reg ∧
    (cameraEvent r s).cut = s.cut ∧
    (cameraEvent r s).lanes = s.lanes ∧
    (cameraEvent r s).log = s.log ∧
    (cameraEvent r s).prof = s.prof ∧
    (cameraEvent r s).pins = s.pins ∧
    (cameraEvent r s).races = s.races ∧
    (cameraEvent r s).pending = s.pending := by
  simp [cameraEvent]

@[simp] theorem testPurge_frame (n : RepeatNo) (s : State) :
    (testPurge n s).pos = s.pos ∧
    (testPurge n s).reg = s.reg ∧
    (testPurge n s).cut = s.cut ∧
    (testPurge n s).lanes = s.lanes ∧
    (testPurge n s).log = s.log ∧
    (testPurge n s).act = s.act ∧
    (testPurge n s).prof = s.prof ∧
    (testPurge n s).pins = s.pins ∧
    (testPurge n s).cnt = s.cnt ∧
    (testPurge n s).links = s.links ∧
    (testPurge n s).races = s.races ∧
    (testPurge n s).pending = s.pending := by
  unfold testPurge
  simp

@[simp] theorem markDecided_frame (n : RepeatNo) (s : State) :
    (markDecided n s).pos = s.pos ∧
    (markDecided n s).reg = s.reg ∧
    (markDecided n s).cut = s.cut ∧
    (markDecided n s).lanes = s.lanes ∧
    (markDecided n s).log = s.log ∧
    (markDecided n s).act = s.act ∧
    (markDecided n s).prof = s.prof ∧
    (markDecided n s).pins = s.pins ∧
    (markDecided n s).cnt = s.cnt ∧
    (markDecided n s).links = s.links ∧
    (markDecided n s).races = s.races ∧
    (markDecided n s).pending = s.pending := by
  unfold markDecided
  simp

@[simp] theorem decisionEvent_frame (n : RepeatNo) (lanes : List Lane) (s : State) :
    (decisionEvent n lanes s).pos = s.pos ∧
    (decisionEvent n lanes s).reg = s.reg ∧
    (decisionEvent n lanes s).cut = s.cut ∧
    (decisionEvent n lanes s).prof = s.prof ∧
    (decisionEvent n lanes s).pins = s.pins ∧
    (decisionEvent n lanes s).races = s.races ∧
    (decisionEvent n lanes s).pending = s.pending :=
  ⟨by simp only [decisionEvent, markDecided_frame]; exact (foldl_keep (fun t : State => t.pos) _ (fun _ _ => by simp) _ _).trans (by simp),
   by simp only [decisionEvent, markDecided_frame]; exact (foldl_keep (fun t : State => t.reg) _ (fun _ _ => by simp) _ _).trans (by simp),
   by simp only [decisionEvent, markDecided_frame]; exact (foldl_keep (fun t : State => t.cut) _ (fun _ _ => by simp) _ _).trans (by simp),
   by simp only [decisionEvent, markDecided_frame]; exact (foldl_keep (fun t : State => t.prof) _ (fun _ _ => by simp) _ _).trans (by simp),
   by simp only [decisionEvent, markDecided_frame]; exact (foldl_keep (fun t : State => t.pins) _ (fun _ _ => by simp) _ _).trans (by simp),
   by simp only [decisionEvent, markDecided_frame]; exact (foldl_keep (fun t : State => t.races) _ (fun _ _ => by simp) _ _).trans (by simp),
   by simp only [decisionEvent, markDecided_frame]; exact (foldl_keep (fun t : State => t.pending) _ (fun _ _ => by simp) _ _).trans (by simp)⟩

@[simp] theorem exitRecord_frame (n : RepeatNo) (s : State) :
    (exitRecord n s).pins = s.pins ∧
    (exitRecord n s).cnt = s.cnt ∧
    (exitRecord n s).pending = s.pending := by
  simp [exitRecord]

@[simp] theorem freePusher_frame (l : Lane) (s : State) :
    (freePusher l s).pos = s.pos ∧
    (freePusher l s).reg = s.reg ∧
    (freePusher l s).cut = s.cut ∧
    (freePusher l s).map = s.map ∧
    (freePusher l s).prof = s.prof ∧
    (freePusher l s).pins = s.pins ∧
    (freePusher l s).cnt = s.cnt ∧
    (freePusher l s).races = s.races ∧
    (freePusher l s).pending = s.pending := by
  unfold freePusher
  dsimp only
  repeat' split
  all_goals simp

@[simp] theorem endPusherOffTime_frame (l : Lane) (s : State) :
    (endPusherOffTime l s).pos = s.pos ∧
    (endPusherOffTime l s).reg = s.reg ∧
    (endPusherOffTime l s).cut = s.cut ∧
    (endPusherOffTime l s).map = s.map ∧
    (endPusherOffTime l s).prof = s.prof ∧
    (endPusherOffTime l s).pins = s.pins ∧
    (endPusherOffTime l s).cnt = s.cnt ∧
    (endPusherOffTime l s).races = s.races ∧
    (endPusherOffTime l s).pending = s.pending := by
  unfold endPusherOffTime
  repeat' split
  all_goals simp

@[simp] theorem senseChange_frame (o : Output) (atFault : Bool) (s : State) :
    (senseChange o atFault s).pos = s.pos ∧
    (senseChange o atFault s).reg = s.reg ∧
    (senseChange o atFault s).cut = s.cut ∧
    (senseChange o atFault s).map = s.map ∧
    (senseChange o atFault s).lanes = s.lanes ∧
    (senseChange o atFault s).log = s.log ∧
    (senseChange o atFault s).prof = s.prof ∧
    (senseChange o atFault s).cnt = s.cnt ∧
    (senseChange o atFault s).links = s.links ∧
    (senseChange o atFault s).races = s.races ∧
    (senseChange o atFault s).pending = s.pending := by
  unfold senseChange
  dsimp only
  repeat' split
  all_goals simp

@[simp] theorem takeSnapshot_frame (k : StationLink) (s : State) :
    (takeSnapshot k s).pos = s.pos ∧
    (takeSnapshot k s).reg = s.reg ∧
    (takeSnapshot k s).cut = s.cut ∧
    (takeSnapshot k s).map = s.map ∧
    (takeSnapshot k s).lanes = s.lanes ∧
    (takeSnapshot k s).log = s.log ∧
    (takeSnapshot k s).act = s.act ∧
    (takeSnapshot k s).prof = s.prof ∧
    (takeSnapshot k s).pins = s.pins ∧
    (takeSnapshot k s).cnt = s.cnt ∧
    (takeSnapshot k s).races = s.races ∧
    (takeSnapshot k s).pending = s.pending := by
  simp [takeSnapshot]

@[simp] theorem pageReply_frame (k : StationLink) (page : Nat) (s : State) :
    (pageReply k page s).pos = s.pos ∧
    (pageReply k page s).reg = s.reg ∧
    (pageReply k page s).cut = s.cut ∧
    (pageReply k page s).map = s.map ∧
    (pageReply k page s).lanes = s.lanes ∧
    (pageReply k page s).log = s.log ∧
    (pageReply k page s).act = s.act ∧
    (pageReply k page s).prof = s.prof ∧
    (pageReply k page s).pins = s.pins ∧
    (pageReply k page s).cnt = s.cnt ∧
    (pageReply k page s).races = s.races ∧
    (pageReply k page s).pending = s.pending := by
  unfold pageReply
  repeat' split
  all_goals simp

@[simp] theorem readStatus_frame (k : StationLink) (page : Nat) (s : State) :
    (readStatus k page s).pos = s.pos ∧
    (readStatus k page s).reg = s.reg ∧
    (readStatus k page s).cut = s.cut ∧
    (readStatus k page s).map = s.map ∧
    (readStatus k page s).lanes = s.lanes ∧
    (readStatus k page s).log = s.log ∧
    (readStatus k page s).act = s.act ∧
    (readStatus k page s).prof = s.prof ∧
    (readStatus k page s).pins = s.pins ∧
    (readStatus k page s).cnt = s.cnt ∧
    (readStatus k page s).races = s.races ∧
    (readStatus k page s).pending = s.pending := by
  unfold readStatus
  repeat' split
  all_goals simp

@[simp] theorem setMask_frame (k : StationLink) (m : EventSet) (s : State) :
    (setMask k m s).pos = s.pos ∧
    (setMask k m s).reg = s.reg ∧
    (setMask k m s).cut = s.cut ∧
    (setMask k m s).map = s.map ∧
    (setMask k m s).lanes = s.lanes ∧
    (setMask k m s).log = s.log ∧
    (setMask k m s).act = s.act ∧
    (setMask k m s).prof = s.prof ∧
    (setMask k m s).pins = s.pins ∧
    (setMask k m s).cnt = s.cnt ∧
    (setMask k m s).races = s.races ∧
    (setMask k m s).pending = s.pending := by
  simp [setMask]

@[simp] theorem setCopy_frame (s : State) (k : StationLink) (c : Option RepeatCopy) :
    (s.setCopy k c).pos = s.pos ∧
    (s.setCopy k c).reg = s.reg ∧
    (s.setCopy k c).cut = s.cut ∧
    (s.setCopy k c).map = s.map ∧
    (s.setCopy k c).lanes = s.lanes ∧
    (s.setCopy k c).log = s.log ∧
    (s.setCopy k c).act = s.act ∧
    (s.setCopy k c).prof = s.prof ∧
    (s.setCopy k c).pins = s.pins ∧
    (s.setCopy k c).cnt = s.cnt ∧
    (s.setCopy k c).races = s.races ∧
    (s.setCopy k c).pending = s.pending := by
  simp [State.setCopy]

@[simp] theorem readIdentity_frame (k : StationLink) (n : RepeatNo) (s : State) :
    (readIdentity k n s).pos = s.pos ∧
    (readIdentity k n s).reg = s.reg ∧
    (readIdentity k n s).cut = s.cut ∧
    (readIdentity k n s).map = s.map ∧
    (readIdentity k n s).lanes = s.lanes ∧
    (readIdentity k n s).log = s.log ∧
    (readIdentity k n s).act = s.act ∧
    (readIdentity k n s).prof = s.prof ∧
    (readIdentity k n s).pins = s.pins ∧
    (readIdentity k n s).cnt = s.cnt ∧
    (readIdentity k n s).races = s.races ∧
    (readIdentity k n s).pending = s.pending := by
  unfold readIdentity
  repeat' split
  all_goals simp

@[simp] theorem readPart_frame (k : StationLink) (n : RepeatNo) (part : Nat) (s : State) :
    (readPart k n part s).pos = s.pos ∧
    (readPart k n part s).reg = s.reg ∧
    (readPart k n part s).cut = s.cut ∧
    (readPart k n part s).map = s.map ∧
    (readPart k n part s).lanes = s.lanes ∧
    (readPart k n part s).log = s.log ∧
    (readPart k n part s).act = s.act ∧
    (readPart k n part s).prof = s.prof ∧
    (readPart k n part s).pins = s.pins ∧
    (readPart k n part s).cnt = s.cnt ∧
    (readPart k n part s).races = s.races ∧
    (readPart k n part s).pending = s.pending := by
  unfold readPart
  repeat' split
  all_goals simp

@[simp] theorem readRepeat_frame (k : StationLink) (n : RepeatNo) (part : Nat) (s : State) :
    (readRepeat k n part s).pos = s.pos ∧
    (readRepeat k n part s).reg = s.reg ∧
    (readRepeat k n part s).cut = s.cut ∧
    (readRepeat k n part s).map = s.map ∧
    (readRepeat k n part s).lanes = s.lanes ∧
    (readRepeat k n part s).log = s.log ∧
    (readRepeat k n part s).act = s.act ∧
    (readRepeat k n part s).prof = s.prof ∧
    (readRepeat k n part s).pins = s.pins ∧
    (readRepeat k n part s).cnt = s.cnt ∧
    (readRepeat k n part s).races = s.races ∧
    (readRepeat k n part s).pending = s.pending := by
  unfold readRepeat
  repeat' split
  all_goals simp

@[simp] theorem setProfileField_frame (k : StationLink) (field value : Nat) (s : State) :
    (setProfileField k field value s).pos = s.pos ∧
    (setProfileField k field value s).reg = s.reg ∧
    (setProfileField k field value s).cut = s.cut ∧
    (setProfileField k field value s).map = s.map ∧
    (setProfileField k field value s).lanes = s.lanes ∧
    (setProfileField k field value s).log = s.log ∧
    (setProfileField k field value s).act = s.act ∧
    (setProfileField k field value s).pins = s.pins ∧
    (setProfileField k field value s).cnt = s.cnt ∧
    (setProfileField k field value s).races = s.races ∧
    (setProfileField k field value s).pending = s.pending := by
  unfold setProfileField
  repeat' split
  all_goals simp

@[simp] theorem readProfile_frame (k : StationLink) (selector field : Nat) (s : State) :
    (readProfile k selector field s).pos = s.pos ∧
    (readProfile k selector field s).reg = s.reg ∧
    (readProfile k selector field s).cut = s.cut ∧
    (readProfile k selector field s).map = s.map ∧
    (readProfile k selector field s).lanes = s.lanes ∧
    (readProfile k selector field s).log = s.log ∧
    (readProfile k selector field s).act = s.act ∧
    (readProfile k selector field s).prof = s.prof ∧
    (readProfile k selector field s).pins = s.pins ∧
    (readProfile k selector field s).cnt = s.cnt ∧
    (readProfile k selector field s).races = s.races ∧
    (readProfile k selector field s).pending = s.pending := by
  unfold readProfile
  repeat' split
  all_goals simp

@[simp] theorem expireAtCommit_frame (s : State) :
    (expireAtCommit s).pins = s.pins ∧
    (expireAtCommit s).pending = s.pending := by
  unfold expireAtCommit
  repeat' split
  all_goals simp

@[simp] theorem immediateRegistration_frame (old : Profile) (s : State) :
    (immediateRegistration old s).pins = s.pins ∧
    (immediateRegistration old s).pending = s.pending := by
  unfold immediateRegistration
  repeat' split
  all_goals simp

@[simp] theorem commitNow_frame (s : State) :
    (commitNow s).pins = s.pins ∧
    (commitNow s).pending = s.pending := by
  simp [commitNow]

@[simp] theorem acceptCommit_frame (k : StationLink) (source : SourceOperand) (s : State) :
    (acceptCommit k source s).pins = s.pins ∧
    (acceptCommit k source s).pending = s.pending := by
  unfold acceptCommit
  repeat' split
  all_goals simp

@[simp] theorem commitProfile_frame (k : StationLink) (source : Nat) (n : RepeatNo) (s : State) :
    (commitProfile k source n s).pins = s.pins ∧
    (commitProfile k source n s).pending = s.pending := by
  unfold commitProfile
  repeat' split
  all_goals simp

@[simp] theorem startRun_frame (m : Mode) (s : State) :
    (startRun m s).cut = s.cut ∧
    (startRun m s).map = s.map ∧
    (startRun m s).lanes = s.lanes ∧
    (startRun m s).log = s.log ∧
    (startRun m s).act = s.act ∧
    (startRun m s).pins = s.pins ∧
    (startRun m s).cnt = s.cnt ∧
    (startRun m s).links = s.links ∧
    (startRun m s).races = s.races ∧
    (startRun m s).pending = s.pending := by
  simp [startRun]

@[simp] theorem haltIfLatched_frame (s : State) :
    (haltIfLatched s).map = s.map ∧
    (haltIfLatched s).log = s.log ∧
    (haltIfLatched s).pins = s.pins ∧
    (haltIfLatched s).cnt = s.cnt ∧
    (haltIfLatched s).races = s.races ∧
    (haltIfLatched s).pending = s.pending := by
  unfold haltIfLatched
  repeat' split
  all_goals simp

@[simp] theorem startDraining_frame (isDry : Bool) (s : State) :
    (startDraining isDry s).map = s.map ∧
    (startDraining isDry s).log = s.log ∧
    (startDraining isDry s).pins = s.pins ∧
    (startDraining isDry s).cnt = s.cnt ∧
    (startDraining isDry s).races = s.races ∧
    (startDraining isDry s).pending = s.pending := by
  unfold startDraining
  dsimp only
  repeat' split
  all_goals simp

/-- What an accepted change of mode leaves unchanged. -/
theorem modeAfter_frame (target : Nat) (s t : State) (h : modeAfter target s = some t) :
    t.map = s.map ∧ t.pins = s.pins ∧ t.cnt = s.cnt ∧ t.pending = s.pending ∧ t.races = s.races ∧ t.log = s.log := by
  unfold modeAfter at h
  repeat' split at h
  all_goals first
    | (cases h; simp)
    | simp at h

@[simp] theorem changeMode_frame (k : StationLink) (target : Nat) (s : State) :
    (changeMode k target s).map = s.map ∧
    (changeMode k target s).pins = s.pins ∧
    (changeMode k target s).cnt = s.cnt ∧
    (changeMode k target s).pending = s.pending := by
  unfold changeMode
  repeat' split
  · simp
  · simp
  · rename_i t h
    have := modeAfter_frame target s t h
    simp [this]

@[simp] theorem resetMap_frame (s : State) :
    (resetMap s).pos = s.pos ∧
    (resetMap s).reg = s.reg ∧
    (resetMap s).cut = s.cut ∧
    (resetMap s).lanes = s.lanes ∧
    (resetMap s).log = s.log ∧
    (resetMap s).act = s.act ∧
    (resetMap s).prof = s.prof ∧
    (resetMap s).pins = s.pins ∧
    (resetMap s).links = s.links ∧
    (resetMap s).races = s.races ∧
    (resetMap s).pending = s.pending := by
  simp [resetMap]

@[simp] theorem abortOpenStack_frame (l : Lane) (s : State) :
    (abortOpenStack l s).pos = s.pos ∧
    (abortOpenStack l s).reg = s.reg ∧
    (abortOpenStack l s).cut = s.cut ∧
    (abortOpenStack l s).map = s.map ∧
    (abortOpenStack l s).act = s.act ∧
    (abortOpenStack l s).prof = s.prof ∧
    (abortOpenStack l s).pins = s.pins ∧
    (abortOpenStack l s).cnt = s.cnt ∧
    (abortOpenStack l s).races = s.races ∧
    (abortOpenStack l s).pending = s.pending := by
  unfold abortOpenStack
  repeat' split
  all_goals simp

@[simp] theorem resetLane_frame (l : Lane) (s : State) :
    (resetLane l s).pos = s.pos ∧
    (resetLane l s).reg = s.reg ∧
    (resetLane l s).cut = s.cut ∧
    (resetLane l s).map = s.map ∧
    (resetLane l s).act = s.act ∧
    (resetLane l s).prof = s.prof ∧
    (resetLane l s).pins = s.pins ∧
    (resetLane l s).cnt = s.cnt ∧
    (resetLane l s).races = s.races ∧
    (resetLane l s).pending = s.pending := by
  simp [resetLane]

@[simp] theorem clearKnifeLatch_frame (s : State) :
    (clearKnifeLatch s).pos = s.pos ∧
    (clearKnifeLatch s).reg = s.reg ∧
    (clearKnifeLatch s).cut = s.cut ∧
    (clearKnifeLatch s).map = s.map ∧
    (clearKnifeLatch s).lanes = s.lanes ∧
    (clearKnifeLatch s).log = s.log ∧
    (clearKnifeLatch s).prof = s.prof ∧
    (clearKnifeLatch s).pins = s.pins ∧
    (clearKnifeLatch s).cnt = s.cnt ∧
    (clearKnifeLatch s).links = s.links ∧
    (clearKnifeLatch s).races = s.races ∧
    (clearKnifeLatch s).pending = s.pending := by
  unfold clearKnifeLatch
  repeat' split
  all_goals simp

@[simp] theorem emptyRange_frame (s : State) :
    (emptyRange s).pos = s.pos ∧
    (emptyRange s).reg = s.reg ∧
    (emptyRange s).map = s.map ∧
    (emptyRange s).lanes = s.lanes ∧
    (emptyRange s).log = s.log ∧
    (emptyRange s).act = s.act ∧
    (emptyRange s).prof = s.prof ∧
    (emptyRange s).pins = s.pins ∧
    (emptyRange s).cnt = s.cnt ∧
    (emptyRange s).links = s.links ∧
    (emptyRange s).races = s.races ∧
    (emptyRange s).pending = s.pending := by
  simp [emptyRange]

@[simp] theorem resetTrack_frame (s : State) :
    (resetTrack s).pins = s.pins ∧
    (resetTrack s).races = s.races ∧
    (resetTrack s).pending = s.pending :=
  ⟨by simp only [resetTrack, enterSetup_frame, removeHolds_frame, clearKnifeLatch_frame, emptyRange_frame]; exact (foldl_keep (fun t : State => t.pins) _ (fun _ _ => by simp) _ _).trans (by simp),
   by simp only [resetTrack, enterSetup_frame, removeHolds_frame, clearKnifeLatch_frame, emptyRange_frame]; exact (foldl_keep (fun t : State => t.races) _ (fun _ _ => by simp) _ _).trans (by simp),
   by simp only [resetTrack, enterSetup_frame, removeHolds_frame, clearKnifeLatch_frame, emptyRange_frame]; exact (foldl_keep (fun t : State => t.pending) _ (fun _ _ => by simp) _ _).trans (by simp)⟩

@[simp] theorem answerResetTrack_frame (k : StationLink) (s : State) :
    (answerResetTrack k s).pins = s.pins ∧
    (answerResetTrack k s).pending = s.pending := by
  unfold answerResetTrack
  dsimp only
  repeat' split
  all_goals simp

@[simp] theorem setDiagEnable_frame (d : DiagEnable) (s : State) :
    (setDiagEnable d s).pos = s.pos ∧
    (setDiagEnable d s).reg = s.reg ∧
    (setDiagEnable d s).cut = s.cut ∧
    (setDiagEnable d s).map = s.map ∧
    (setDiagEnable d s).lanes = s.lanes ∧
    (setDiagEnable d s).log = s.log ∧
    (setDiagEnable d s).prof = s.prof ∧
    (setDiagEnable d s).pins = s.pins ∧
    (setDiagEnable d s).cnt = s.cnt ∧
    (setDiagEnable d s).links = s.links ∧
    (setDiagEnable d s).races = s.races ∧
    (setDiagEnable d s).pending = s.pending :=
  ⟨(foldl_keep (fun t : State => t.pos) _ (fun _ _ => by (repeat' split) <;> simp) _ _).trans (by simp),
   (foldl_keep (fun t : State => t.reg) _ (fun _ _ => by (repeat' split) <;> simp) _ _).trans (by simp),
   (foldl_keep (fun t : State => t.cut) _ (fun _ _ => by (repeat' split) <;> simp) _ _).trans (by simp),
   (foldl_keep (fun t : State => t.map) _ (fun _ _ => by (repeat' split) <;> simp) _ _).trans (by simp),
   (foldl_keep (fun t : State => t.lanes) _ (fun _ _ => by (repeat' split) <;> simp) _ _).trans (by simp),
   (foldl_keep (fun t : State => t.log) _ (fun _ _ => by (repeat' split) <;> simp) _ _).trans (by simp),
   (foldl_keep (fun t : State => t.prof) _ (fun _ _ => by (repeat' split) <;> simp) _ _).trans (by simp),
   (foldl_keep (fun t : State => t.pins) _ (fun _ _ => by (repeat' split) <;> simp) _ _).trans (by simp),
   (foldl_keep (fun t : State => t.cnt) _ (fun _ _ => by (repeat' split) <;> simp) _ _).trans (by simp),
   (foldl_keep (fun t : State => t.links) _ (fun _ _ => by (repeat' split) <;> simp) _ _).trans (by simp),
   (foldl_keep (fun t : State => t.races) _ (fun _ _ => by (repeat' split) <;> simp) _ _).trans (by simp),
   (foldl_keep (fun t : State => t.pending) _ (fun _ _ => by (repeat' split) <;> simp) _ _).trans (by simp)⟩

@[simp] theorem queueOrderOn_frame (k : StationLink) (l : Lane) (o : Order) (s : State) :
    (queueOrderOn k l o s).pos = s.pos ∧
    (queueOrderOn k l o s).reg = s.reg ∧
    (queueOrderOn k l o s).cut = s.cut ∧
    (queueOrderOn k l o s).map = s.map ∧
    (queueOrderOn k l o s).log = s.log ∧
    (queueOrderOn k l o s).act = s.act ∧
    (queueOrderOn k l o s).prof = s.prof ∧
    (queueOrderOn k l o s).pins = s.pins ∧
    (queueOrderOn k l o s).cnt = s.cnt ∧
    (queueOrderOn k l o s).races = s.races ∧
    (queueOrderOn k l o s).pending = s.pending := by
  unfold queueOrderOn
  repeat' split
  all_goals simp

@[simp] theorem queueOrder_frame (k : StationLink) (lane : Nat) (tag : BitVec 8) (job target : Nat) (nogap final : Bool) (s : State) :
    (queueOrder k lane tag job target nogap final s).pos = s.pos ∧
    (queueOrder k lane tag job target nogap final s).reg = s.reg ∧
    (queueOrder k lane tag job target nogap final s).cut = s.cut ∧
    (queueOrder k lane tag job target nogap final s).map = s.map ∧
    (queueOrder k lane tag job target nogap final s).log = s.log ∧
    (queueOrder k lane tag job target nogap final s).act = s.act ∧
    (queueOrder k lane tag job target nogap final s).prof = s.prof ∧
    (queueOrder k lane tag job target nogap final s).pins = s.pins ∧
    (queueOrder k lane tag job target nogap final s).cnt = s.cnt ∧
    (queueOrder k lane tag job target nogap final s).races = s.races ∧
    (queueOrder k lane tag job target nogap final s).pending = s.pending := by
  unfold queueOrder
  repeat' split
  all_goals simp

@[simp] theorem cancelOpenStack_frame (l : Lane) (s : State) :
    (cancelOpenStack l s).pos = s.pos ∧
    (cancelOpenStack l s).reg = s.reg ∧
    (cancelOpenStack l s).cut = s.cut ∧
    (cancelOpenStack l s).map = s.map ∧
    (cancelOpenStack l s).prof = s.prof ∧
    (cancelOpenStack l s).pins = s.pins ∧
    (cancelOpenStack l s).cnt = s.cnt ∧
    (cancelOpenStack l s).races = s.races ∧
    (cancelOpenStack l s).pending = s.pending := by
  simp [cancelOpenStack]

@[simp] theorem cancelQueued_frame (k : StationLink) (l : Lane) (tag : BitVec 8) (s : State) :
    (cancelQueued k l tag s).pos = s.pos ∧
    (cancelQueued k l tag s).reg = s.reg ∧
    (cancelQueued k l tag s).cut = s.cut ∧
    (cancelQueued k l tag s).map = s.map ∧
    (cancelQueued k l tag s).log = s.log ∧
    (cancelQueued k l tag s).act = s.act ∧
    (cancelQueued k l tag s).prof = s.prof ∧
    (cancelQueued k l tag s).pins = s.pins ∧
    (cancelQueued k l tag s).cnt = s.cnt ∧
    (cancelQueued k l tag s).races = s.races ∧
    (cancelQueued k l tag s).pending = s.pending := by
  unfold cancelQueued
  repeat' split
  all_goals simp

@[simp] theorem cancelOn_frame (k : StationLink) (l : Lane) (tag : BitVec 8) (s : State) :
    (cancelOn k l tag s).map = s.map ∧
    (cancelOn k l tag s).pins = s.pins ∧
    (cancelOn k l tag s).cnt = s.cnt ∧
    (cancelOn k l tag s).pending = s.pending := by
  unfold cancelOn
  repeat' split
  all_goals simp

@[simp] theorem clearLatches_frame (l : Lane) (s : State) :
    (clearLatches l s).pos = s.pos ∧
    (clearLatches l s).reg = s.reg ∧
    (clearLatches l s).cut = s.cut ∧
    (clearLatches l s).map = s.map ∧
    (clearLatches l s).lanes = s.lanes ∧
    (clearLatches l s).log = s.log ∧
    (clearLatches l s).prof = s.prof ∧
    (clearLatches l s).pins = s.pins ∧
    (clearLatches l s).cnt = s.cnt ∧
    (clearLatches l s).links = s.links ∧
    (clearLatches l s).races = s.races ∧
    (clearLatches l s).pending = s.pending := by
  simp [clearLatches]

@[simp] theorem clearingPulse_frame (l : Lane) (s : State) :
    (clearingPulse l s).pos = s.pos ∧
    (clearingPulse l s).reg = s.reg ∧
    (clearingPulse l s).cut = s.cut ∧
    (clearingPulse l s).map = s.map ∧
    (clearingPulse l s).lanes = s.lanes ∧
    (clearingPulse l s).log = s.log ∧
    (clearingPulse l s).prof = s.prof ∧
    (clearingPulse l s).pins = s.pins ∧
    (clearingPulse l s).cnt = s.cnt ∧
    (clearingPulse l s).links = s.links ∧
    (clearingPulse l s).races = s.races ∧
    (clearingPulse l s).pending = s.pending := by
  unfold clearingPulse
  repeat' split
  all_goals simp

@[simp] theorem clearLane_frame (l : Lane) (i : SlotIndex) (s : State) :
    (clearLane l i s).pos = s.pos ∧
    (clearLane l i s).reg = s.reg ∧
    (clearLane l i s).cut = s.cut ∧
    (clearLane l i s).map = s.map ∧
    (clearLane l i s).prof = s.prof ∧
    (clearLane l i s).pins = s.pins ∧
    (clearLane l i s).cnt = s.cnt ∧
    (clearLane l i s).races = s.races ∧
    (clearLane l i s).pending = s.pending := by
  simp [clearLane]

@[simp] theorem laneClear_frame (k : StationLink) (l : Lane) (s : State) :
    (laneClear k l s).map = s.map ∧
    (laneClear k l s).pins = s.pins ∧
    (laneClear k l s).cnt = s.cnt ∧
    (laneClear k l s).pending = s.pending := by
  unfold laneClear
  repeat' split
  all_goals simp

@[simp] theorem condemnCut_frame (n : RepeatNo) (m : LaneSet) (s : State) :
    (condemnCut n m s).pos = s.pos ∧
    (condemnCut n m s).reg = s.reg ∧
    (condemnCut n m s).map = s.map ∧
    (condemnCut n m s).lanes = s.lanes ∧
    (condemnCut n m s).log = s.log ∧
    (condemnCut n m s).act = s.act ∧
    (condemnCut n m s).prof = s.prof ∧
    (condemnCut n m s).pins = s.pins ∧
    (condemnCut n m s).cnt = s.cnt ∧
    (condemnCut n m s).links = s.links ∧
    (condemnCut n m s).races = s.races ∧
    (condemnCut n m s).pending = s.pending := by
  simp [condemnCut]

@[simp] theorem takeFuture_frame (future : List RepeatNo) (m : LaneSet) (s : State) :
    (takeFuture future m s).pos = s.pos ∧
    (takeFuture future m s).reg = s.reg ∧
    (takeFuture future m s).map = s.map ∧
    (takeFuture future m s).lanes = s.lanes ∧
    (takeFuture future m s).log = s.log ∧
    (takeFuture future m s).act = s.act ∧
    (takeFuture future m s).prof = s.prof ∧
    (takeFuture future m s).pins = s.pins ∧
    (takeFuture future m s).cnt = s.cnt ∧
    (takeFuture future m s).links = s.links ∧
    (takeFuture future m s).races = s.races ∧
    (takeFuture future m s).pending = s.pending := by
  unfold takeFuture
  repeat' split
  all_goals simp

@[simp] theorem rejectRepeat_frame (m : LaneSet) (n : RepeatNo) (p : State × RejectTally) :
    (rejectRepeat m n p).1.pos = p.1.pos ∧
    (rejectRepeat m n p).1.reg = p.1.reg ∧
    (rejectRepeat m n p).1.lanes = p.1.lanes ∧
    (rejectRepeat m n p).1.log = p.1.log ∧
    (rejectRepeat m n p).1.act = p.1.act ∧
    (rejectRepeat m n p).1.prof = p.1.prof ∧
    (rejectRepeat m n p).1.pins = p.1.pins ∧
    (rejectRepeat m n p).1.cnt = p.1.cnt ∧
    (rejectRepeat m n p).1.links = p.1.links ∧
    (rejectRepeat m n p).1.races = p.1.races ∧
    (rejectRepeat m n p).1.pending = p.1.pending := by
  unfold rejectRepeat
  repeat' split
  all_goals simp

@[simp] theorem applyLineReject_frame (k : StationLink) (run : List RepeatNo) (m : LaneSet) (s : State) :
    (applyLineReject k run m s).pos = s.pos ∧
    (applyLineReject k run m s).reg = s.reg ∧
    (applyLineReject k run m s).lanes = s.lanes ∧
    (applyLineReject k run m s).log = s.log ∧
    (applyLineReject k run m s).act = s.act ∧
    (applyLineReject k run m s).prof = s.prof ∧
    (applyLineReject k run m s).pins = s.pins ∧
    (applyLineReject k run m s).cnt = s.cnt ∧
    (applyLineReject k run m s).races = s.races ∧
    (applyLineReject k run m s).pending = s.pending := by
  have keep : ∀ {β : Type} (g : State → β) (_ : ∀ n p, g (rejectRepeat m n p).1 = g p.1),
      g (run.foldl (fun p n => rejectRepeat m n p) (s, (⟨0, 0⟩ : RejectTally))).1 = g s :=
    fun g h => foldl_keep (fun p : State × RejectTally => g p.1) _ (fun p n => h n p) run _
  unfold applyLineReject
  refine ⟨?_, ?_, ?_, ?_, ?_, ?_, ?_, ?_, ?_, ?_⟩ <;> simp
  · exact keep (·.pos) (fun n p => by simp)
  · exact keep (·.reg) (fun n p => by simp)
  · exact keep (·.lanes) (fun n p => by simp)
  · exact keep (·.log) (fun n p => by simp)
  · exact keep (·.act) (fun n p => by simp)
  · exact keep (·.prof) (fun n p => by simp)
  · exact keep (·.pins) (fun n p => by simp)
  · exact keep (·.cnt) (fun n p => by simp)
  · exact keep (·.races) (fun n p => by simp)
  · exact keep (·.pending) (fun n p => by simp)

@[simp] theorem lineReject_frame (k : StationLink) (first : RepeatNo) (count : Nat) (m : LaneSet) (s : State) :
    (lineReject k first count m s).pos = s.pos ∧
    (lineReject k first count m s).reg = s.reg ∧
    (lineReject k first count m s).lanes = s.lanes ∧
    (lineReject k first count m s).log = s.log ∧
    (lineReject k first count m s).act = s.act ∧
    (lineReject k first count m s).prof = s.prof ∧
    (lineReject k first count m s).pins = s.pins ∧
    (lineReject k first count m s).cnt = s.cnt ∧
    (lineReject k first count m s).races = s.races ∧
    (lineReject k first count m s).pending = s.pending := by
  unfold lineReject
  repeat' split
  all_goals simp

@[simp] theorem lateVerdict_frame (s : State) :
    (lateVerdict s).pos = s.pos ∧
    (lateVerdict s).reg = s.reg ∧
    (lateVerdict s).cut = s.cut ∧
    (lateVerdict s).map = s.map ∧
    (lateVerdict s).lanes = s.lanes ∧
    (lateVerdict s).log = s.log ∧
    (lateVerdict s).act = s.act ∧
    (lateVerdict s).prof = s.prof ∧
    (lateVerdict s).pins = s.pins ∧
    (lateVerdict s).races = s.races ∧
    (lateVerdict s).pending = s.pending := by
  simp [lateVerdict]

@[simp] theorem verdictInMap_frame (k : StationLink) (r : RepeatRecord) (m : LaneSet) (c : Nat) (s : State) :
    (verdictInMap k r m c s).pos = s.pos ∧
    (verdictInMap k r m c s).reg = s.reg ∧
    (verdictInMap k r m c s).cut = s.cut ∧
    (verdictInMap k r m c s).lanes = s.lanes ∧
    (verdictInMap k r m c s).log = s.log ∧
    (verdictInMap k r m c s).act = s.act ∧
    (verdictInMap k r m c s).prof = s.prof ∧
    (verdictInMap k r m c s).pins = s.pins ∧
    (verdictInMap k r m c s).races = s.races ∧
    (verdictInMap k r m c s).pending = s.pending := by
  unfold verdictInMap
  dsimp only
  repeat' split
  all_goals simp

@[simp] theorem verdict_frame (k : StationLink) (n : RepeatNo) (m : LaneSet) (c : BitVec 8) (s : State) :
    (verdict k n m c s).pos = s.pos ∧
    (verdict k n m c s).reg = s.reg ∧
    (verdict k n m c s).cut = s.cut ∧
    (verdict k n m c s).lanes = s.lanes ∧
    (verdict k n m c s).log = s.log ∧
    (verdict k n m c s).act = s.act ∧
    (verdict k n m c s).prof = s.prof ∧
    (verdict k n m c s).pins = s.pins ∧
    (verdict k n m c s).races = s.races ∧
    (verdict k n m c s).pending = s.pending := by
  unfold verdict
  repeat' split
  all_goals simp

@[simp] theorem acknowledgeSlot_frame (i : SlotIndex) (seq : Seq) (s : State) :
    (acknowledgeSlot i seq s).pos = s.pos ∧
    (acknowledgeSlot i seq s).reg = s.reg ∧
    (acknowledgeSlot i seq s).cut = s.cut ∧
    (acknowledgeSlot i seq s).map = s.map ∧
    (acknowledgeSlot i seq s).lanes = s.lanes ∧
    (acknowledgeSlot i seq s).act = s.act ∧
    (acknowledgeSlot i seq s).prof = s.prof ∧
    (acknowledgeSlot i seq s).pins = s.pins ∧
    (acknowledgeSlot i seq s).cnt = s.cnt ∧
    (acknowledgeSlot i seq s).links = s.links ∧
    (acknowledgeSlot i seq s).races = s.races ∧
    (acknowledgeSlot i seq s).pending = s.pending := by
  unfold acknowledgeSlot
  repeat' split
  all_goals simp

@[simp] theorem closeOpenStack_frame (l : Lane) (o : OpenStack) (s : State) :
    (closeOpenStack l o s).pos = s.pos ∧
    (closeOpenStack l o s).reg = s.reg ∧
    (closeOpenStack l o s).cut = s.cut ∧
    (closeOpenStack l o s).map = s.map ∧
    (closeOpenStack l o s).prof = s.prof ∧
    (closeOpenStack l o s).pins = s.pins ∧
    (closeOpenStack l o s).cnt = s.cnt ∧
    (closeOpenStack l o s).races = s.races ∧
    (closeOpenStack l o s).pending = s.pending := by
  simp [closeOpenStack]

@[simp] theorem closeNow_frame (k : StationLink) (l : Lane) (s : State) :
    (closeNow k l s).map = s.map ∧
    (closeNow k l s).pins = s.pins ∧
    (closeNow k l s).cnt = s.cnt ∧
    (closeNow k l s).pending = s.pending := by
  unfold closeNow
  repeat' split
  all_goals simp

end Sys2Proof.Machine
end

