-- ==== Sys2Proof/Tests/Slice0.lean ====
section
/-!
SUPPORT. Tests. Ill-formed commands are refused; single steps give the numbers of the manual's worked cases and
sequences; and for every obligation with hypotheses a `witness_<Name>` shows concrete states and operands that meet
them, each clause at the bounds of its range.
-/

namespace Sys2Proof.Tests

open Sys2Proof Sys2Proof.Machine

-- One thread: each thread of a parallel elaboration reserves its own stack.
set_option Elab.async false

/-! ## Well-formedness: one ill-formed command for every check -/

theorem test_wf_twice_a_lane : (Instr.decisionPosition 1 [0, 3, 0]).wellFormed = false := by decide
theorem test_wf_frame_that_passes :
    (Instr.brokenFrame .line ⟨16, [0x0000]⟩).wellFormed = false ∧
    (Instr.brokenFrame .line ⟨31, [0x0000, 0x0000]⟩).wellFormed = false ∧
    (Instr.brokenFrame .delivery ⟨32, [0x3102, 0x0003]⟩).wellFormed = true := by decide
theorem test_wf_reads :
    (Instr.readStatus .line 65536).wellFormed = false ∧ (Instr.readRepeat .line 0 65536).wellFormed = false ∧
    (Instr.readRecord .line 65536).wellFormed = false ∧ (Instr.readCounters .line 65536).wellFormed = false ∧
    (Instr.fetchRecord .delivery 65536).wellFormed = false ∧
    (Instr.ackRecord .delivery 65536 0).wellFormed = false := by decide
theorem test_wf_profile :
    (Instr.setProfileField .line 65536 0).wellFormed = false ∧
    (Instr.setProfileField .line 1 4294967296).wellFormed = false ∧
    (Instr.setProfileField .line 65535 4294967295).wellFormed = true ∧
    (Instr.readProfile .line 65536 1).wellFormed = false ∧ (Instr.readProfile .line 0 65536).wellFormed = false ∧
    (Instr.commitProfile .line 65536 0).wellFormed = false ∧ (Instr.setMode .line 65536).wellFormed = false := by decide
theorem test_wf_lanes :
    (Instr.queueOrder .line 256 0 0 1 false false).wellFormed = false ∧
    (Instr.queueOrder .line 1 0 65536 1 false false).wellFormed = false ∧
    (Instr.queueOrder .line 1 0 0 65536 false false).wellFormed = false ∧
    (Instr.cancelOrder .line 65536 0).wellFormed = false ∧ (Instr.laneResume .line 65536).wellFormed = false ∧
    (Instr.laneClear .line 65536).wellFormed = false ∧ (Instr.closeNow .delivery 65536).wellFormed = false ∧
    (Instr.lineReject .line 0 65536 1).wellFormed = false := by decide

/-! ## States to start from -/

/-- Lanes 1 to 4 active, and a confirm window that validation accepts. -/
def profile : Profile := { Profile.default with confirmWindow := 800, laneMask := 0x0F }

def onFresh (m : Mode) : State :=
  { State.reset with
    prof := { active := profile, pending := profile, commit := none, mode := m }
    lanes := Vector.ofFn (fun l => { LaneUnit.reset with state := if l.val < 4 then .idle else .off }) }

/-- A state with its web, its belt. -/
def atWeb (n : Nat) (s : State) : State :=
  s.setPos { s.pos with web := { s.pos.web with counter := dist n, highWater := dist n } }
def atBelt (n : Nat) (s : State) : State :=
  s.setPos { s.pos with belt := { s.pos.belt with counter := dist n, highWater := dist n } }

def withActive (p : Profile) (s : State) : State := s.setProf { s.prof with active := p, pending := p }

def cutAt (n : RepeatNo) (fire : Nat) : Cut :=
  { repeatNo := n, kind := .real, regError := some 0, fire := dist fire, postponed := false, late := false,
    uncutCarry := false, reg := false, lineLanes := 0, splice := false }

/-- The record of a repeat struck at a belt stamp, the belt now standing at `belt`. -/
def struck (n : RepeatNo) (stamp belt : Nat) : RepeatRecord := makeRecord profile (dist belt) false .normal (cutAt n 0) (dist stamp)

def stackOf (l : Lane) (seq : Seq) (count : Nat) (closing : Option ClosingKind) : StackRecord :=
  { lane := l, tag := 11, job := 500, seq := seq, target := 1000, count := count, first := some 4096, last := some 4097,
    rejectsInSpan := 6, shouldReject := 0, closing := closing, dry := false, suspect := false, ejectFault := false,
    notEjected := false }

def order (tag : BitVec 8) : Order := { tag := tag, job := 501, target := 3, nogap := false, final := true }

/-- A part at work in RUN: the web in register between two marks, two cuts scheduled, records 2310 (its decision
reached) and 2311 in the map, lane 1 STACKING, lane 2 BLOCKED, lane 3 in FAULT on its gate, lane 4 CHANGING with a
closed stack to eject, slot 5 READY. -/
def busy : State :=
  { atBelt 5060000 (atWeb 1000000 (onFresh .run)) with
    reg :=
      { Registration.reset with
        state := .locked
        window := some (windowAbout 1000000 1000002 500)
        lastEvent := some ⟨.real, 974990, 1202⟩
        lastReal := some 974990
        lastError := some 2
        pEff := 6403072
        number := 1203
        newest := some 1202 }
    cut := { CutScheduler.reset with schedule := [cutAt 1201 1010406, cutAt 1202 1035420], lastFire := some 985390 }
    map :=
      { TransitMap.reset with
        records := [struck 2310 5000000 5060000, struck 2311 5015000 5060000]
        lastStamp := some (Fading.start 5060000 5015000)
        notices := [⟨2310, 0x0F⟩] }
    lanes := #v[
      { LaneUnit.reset with state := .stacking, openStack := some ⟨0, false, false, some 4985000⟩, orders := [order 12], nextSeq := 41 },
      { LaneUnit.reset with state := .blocked, orders := [order 30] },
      { LaneUnit.reset with state := .fault, quarantine := some (stackOf 2 17 2 none), nextSeq := 18 },
      { LaneUnit.reset with
        state := .changing, gap := 2, nextSeq := 8
        ejects := [⟨1, 7, ⟨5100000, false⟩, false⟩] },
      LaneUnit.reset, LaneUnit.reset, LaneUnit.reset, LaneUnit.reset]
    log :=
      { slots := (((Vector.replicate 32 Slot.free).set 0 (.held .forming (stackOf 0 40 998 none))).set 1
          (.held .closed (stackOf 3 7 1000 (some .target)))).set 5 (.held .ready (stackOf 1 212 1000 (some .target)))
        ready := [5] }
    act := { Actuators.reset with gates := Actuators.reset.gates.set 2 { hold := none, latch := some .overload, filter := .settling } }
    cnt := { Counters.zero with lanes := Vector.ofFn (fun l => { LaneCounts.zero with cut := if l.val < 4 then 2 else 0 }) } }

/-- Everything an invariant asks. -/
abbrev Sound (s : State) : Prop :=
  (PEffInBand s ∧ WithinCapacity s ∧ ReadyListExact s ∧ LabelsBalance s ∧ CondemnedNeverStacked s ∧ RecordsDistinct s) ∧
  (IdleIsQuiet s ∧ HaltIsStill s ∧ StopMeansHalt s ∧ LatchesHold s ∧ WaitingCommitValid s ∧ DrainingHasWork s) ∧
  (WindowMatchesState s ∧ EventsCarried s ∧ LaneStatesMean s ∧ LanesOwnTheirSlots s ∧ SlotsHaveOwners s ∧ SensesClear s) ∧
  FramesWhole s ∧ NumbersApart s

theorem test_reset_is_sound : Sound State.reset :=
  ⟨⟨by decide +kernel, by decide +kernel, by decide +kernel, by decide +kernel, by decide +kernel, by decide +kernel⟩,
    ⟨by decide +kernel, by decide +kernel, by decide +kernel, by decide +kernel, by decide +kernel, by decide +kernel⟩,
    ⟨by decide +kernel, by decide +kernel, by decide +kernel, by decide +kernel, by decide +kernel, by decide +kernel⟩,
    by decide +kernel, by decide +kernel⟩
theorem test_busy_is_sound : Sound busy :=
  ⟨⟨by decide +kernel, by decide +kernel, by decide +kernel, by decide +kernel, by decide +kernel, by decide +kernel⟩,
    ⟨by decide +kernel, by decide +kernel, by decide +kernel, by decide +kernel, by decide +kernel, by decide +kernel⟩,
    ⟨by decide +kernel, by decide +kernel, by decide +kernel, by decide +kernel, by decide +kernel, by decide +kernel⟩,
    by decide +kernel, by decide +kernel⟩

/-! ## Witnesses: the machine, position (01) -/

theorem witness_StepRunsTheFrontCommand : State.reset.pending = [] := by decide

theorem witness_EveryCommandAnswersAState : (Instr.nop .line).movesPins = false := by decide

theorem witness_DeviceResetRestoresTheStatedValues :
    busy.pins.stop = false ∧ (busy.setPins { busy.pins with stop := true }).pins.stop = true := by decide

/-- A link in the middle of a frame; a link whose frame a device reset has discarded. -/
def inFrame (p : FramePhase) : State := busy.setLink .line { busy.link .line with phase := p }

theorem test_reset_in_mid_frame :
    exec .deviceReset (inFrame .shifting) =
      .next (State.reset.setLink .line { State.reset.link .line with phase := .discarded }) := rfl

theorem witness_CountersMoveOnlyByCounts :
    (∀ a d, Instr.nop .line ≠ .countArrival a d) ∧ Instr.nop .line ≠ .deviceReset := by
  constructor
  · intro a d h; cases h
  · decide

theorem witness_ForwardWebCountReachesItsTargets : busy.mode.isHalt = false := by decide
theorem witness_ForwardBeltCountReachesItsTargets : (busy.setMode .setup).mode.isHalt = false := by decide

/-- A part whose web and belt stand `n` counts behind their high-water marks. -/
def back (n : Nat) : State :=
  busy.setPos
    { web := { busy.pos.web with counter := Machine.dist (1000000 - n) }
      belt := { busy.pos.belt with counter := Machine.dist (5060000 - n) } }

/-- The last count that is tolerated, and the first that is not (R_rev 400). -/
theorem witness_ReverseCountIsTestedAgainstTheLimit :
    (∀ a : Axis, a = .web ∨ a = .belt →
      ¬(¬((back 399).mode = .setup ∨ (back 399).mode.isHalt = true) ∧
        (back 399).profile.reverseLimit < (((back 399).encoder a).highWater - (((back 399).encoder a).counter - 1)).toNat) ∧
      ¬((back 400).mode = .setup ∨ (back 400).mode.isHalt = true) ∧
      (back 400).profile.reverseLimit < (((back 400).encoder a).highWater - (((back 400).encoder a).counter - 1)).toNat) ∧
    ((back 400).setMode .setup).mode = .setup := by
  refine ⟨fun a h => ?_, by decide⟩
  rcases h with rfl | rfl <;> decide +kernel

theorem witness_SkippedTransitionsAreCounted : FramesWhole busy := by decide

def halted : State := (busy.setMode (.halt .stopInput)).setReg { busy.reg with window := none }

theorem witness_EventsAreTakenAtTheirRowsAndNeverInHalt :
    (halted.mode.isHalt = true ∧ halted.reg.window = none) ∧
    (halted.eventReached (.decisionPosition 2310 [0]) = some true ∧ halted.mode.isHalt = true) ∧
    busy.eventReached (.decisionPosition 2311 [0]) = some false ∧ busy.eventReached .firePosition = some false := by
  decide +kernel

/-! ## Witnesses: registration (02) -/

def pinsAt (v : Level) (s : State) : State := s.setPins { s.pins with mark := v }

theorem witness_LeadingEdgeMakesTheCandidate :
    (busy.pins.mark ≠ busy.profile.markLevel ∧ (busy.mode = .run ∨ busy.mode = .dry) ∧ 0 < busy.profile.mMin ∧
      busy.profile.mMin < 2 ^ 31) ∧
    (let s := busy.setMode (.draining false)
     s.pins.mark ≠ s.profile.markLevel ∧ s.mode ≠ .run ∧ s.mode ≠ .dry) ∧
    (pinsAt .high busy).pins.mark = (pinsAt .high busy).profile.markLevel := by decide +kernel

/-- A candidate at `m`, qualified when `q`. -/
def candidateAt (m : Nat) (q : Bool) : Option Candidate := some ⟨Machine.dist m, ⟨Machine.dist (m + 8), q⟩⟩

def withCandidate (m : Nat) (q : Bool) (s : State) : State := s.setReg { s.reg with candidate := candidateAt m q }

theorem witness_TrailingEdgeMakesTheMarkShort :
    (let s := pinsAt .high busy
     (∀ w ∈ s.reg.window, w.status ≠ .held) ∧ s.pins.mark = s.profile.markLevel ∧ s.reg.candidate = none) ∧
    (let s := withCandidate 1000000 false (pinsAt .high busy)
     (∀ w ∈ s.reg.window, w.status ≠ .held) ∧ s.pins.mark = s.profile.markLevel ∧ s.reg.candidate ≠ none) ∧
    (∀ w ∈ busy.reg.window, w.status ≠ .held) ∧ busy.pins.mark ≠ busy.profile.markLevel := by decide +kernel

/-- SEARCH with its virtual target reached, and a mark 8 counts behind the web. -/
def searching : State :=
  withCandidate 999992 true (busy.setReg { Registration.reset with virtualTarget := some ⟨1000000, true⟩ })

theorem witness_SearchTakesMarksAndVirtualMarks :
    ((searching.mode = .run ∨ searching.mode = .dry) ∧ searching.reg.state = .search ∧
      searching.commitDue searching.reg.number = false) ∧ SensesClear searching ∧
    (∃ c, searching.reg.candidate = some c ∧ c.qualification.reached = true ∧
      NextAhead searching.web ((searching.setReg { searching.reg with candidate := none }).withMarkEvent .real c.position
        none (markRow searching.profile searching.reg 0)).reg) ∧
    ∃ e, searching.reg.virtualTarget = some e ∧ e.reached = true ∧
      NextAhead searching.web (searching.withMarkEvent .virtual e.target none (virtualRow searching.reg)).reg :=
  ⟨by decide +kernel, by decide +kernel, ⟨_, rfl, by decide, by decide +kernel⟩, ⟨_, rfl, by decide, by decide +kernel⟩⟩

/-- The worked edge of the window: E 425,000, the window of 424,500 to 425,500 in a status, a candidate at `m`. -/
def inWindow (status : WindowStatus) (m web : Nat) : State :=
  withCandidate m true ((atWeb web busy).setReg
    { busy.reg with window := some ⟨status, 425000, ⟨424500, true⟩, ⟨425500, status != .opened⟩⟩ })

/-- The hypotheses under which the mark of a state is accepted. -/
abbrev Accepts (s : State) : Prop :=
  (s.mode = .run ∨ s.mode = .dry) ∧ s.reg.state ≠ .search ∧ s.commitDue s.reg.number = false ∧
  ∃ c ∈ s.reg.candidate, c.qualification.reached = true ∧ ∃ w ∈ s.reg.window, w.status ≠ .armed ∧
    atOrBeyond c.position w.opening.target = true ∧ atOrBeyond w.expiry.target c.position = true ∧
    NextAhead s.web ((s.setReg { s.reg with candidate := none }).withMarkEvent .real c.position
      (some (c.position - w.expected).toInt) (markRow s.profile s.reg (c.position - w.expected).toInt)).reg

/-- The hypotheses under which it is stray. -/
abbrev Strays (s : State) : Prop :=
  (s.mode = .run ∨ s.mode = .dry) ∧ s.reg.state ≠ .search ∧ ∃ c ∈ s.reg.candidate, c.qualification.reached = true ∧
    ∀ w ∈ s.reg.window, ¬(w.status ≠ .armed ∧ atOrBeyond c.position w.opening.target = true ∧
      atOrBeyond w.expiry.target c.position = true)

/-- The two bounds, the first positions outside them, an ARMED window, and no window. -/
theorem witness_QualifiedMarkMeetsItsWindow :
    (Accepts (inWindow .opened 424500 424508) ∧ SensesClear (inWindow .opened 424500 424508)) ∧
    (Accepts (inWindow .held 425500 425508) ∧ SensesClear (inWindow .held 425500 425508)) ∧
    Strays (inWindow .opened 424499 424507) ∧ Strays (inWindow .held 425501 425509) ∧
    Strays (inWindow .armed 424500 424508) ∧ Strays ((inWindow .opened 425000 425008).setReg
      { (inWindow .opened 425000 425008).reg with window := none }) := by
  refine ⟨⟨?_, ?_⟩, ⟨?_, ?_⟩, ?_, ?_, ?_, ?_⟩ <;> decide +kernel

/-- The narrowest window and the widest. -/
def armedWindow (h : Nat) : State :=
  busy.setReg { busy.reg with window := some ⟨.armed, 500000, ⟨Machine.dist (500000 - h), true⟩, ⟨Machine.dist (500000 + h), false⟩⟩ }

theorem witness_WindowOpensWithItsCounterLoaded :
    ∀ h ∈ [0, 1, 25000], ((armedWindow h).mode = .run ∨ (armedWindow h).mode = .dry) ∧ h ≤ 25000 ∧
      ∃ w ∈ (armedWindow h).reg.window, w.status = .armed ∧ w.opening.reached = true ∧
        w.opening.target = w.expected - BitVec.ofNat 32 h ∧ w.expiry.target = w.expected + BitVec.ofNat 32 h := by
  decide +kernel

/-- The window of 424,500 to 425,500 at its expiry, in a registration state, with a candidate or none. -/
def expiring (state : RegState) (miss : Nat) (candidate : Option Candidate) : State :=
  (atWeb 425500 busy).setReg
    { busy.reg with
      state := state
      miss := miss
      candidate := candidate
      window := some ⟨.opened, 425000, ⟨424500, true⟩, ⟨425500, true⟩⟩ }

abbrev Expires (s : State) : Prop :=
  (s.mode = .run ∨ s.mode = .dry) ∧ ∃ w ∈ s.reg.window, w.status = .opened ∧ w.expiry.reached = true

abbrev HoldsFor (s : State) : Prop :=
  Expires s ∧ ∃ w ∈ s.reg.window, ∃ c ∈ s.reg.candidate,
    atOrBeyond c.position w.opening.target = true ∧ atOrBeyond w.expiry.target c.position = true

abbrev Coasts (s : State) : Prop :=
  Expires s ∧ s.reg.state ≠ .search ∧ s.commitDue s.reg.number = false ∧ ∃ w ∈ s.reg.window,
    (¬∃ c ∈ s.reg.candidate, atOrBeyond c.position w.opening.target = true ∧
      atOrBeyond w.expiry.target c.position = true) ∧
    NextAhead s.web (s.withMarkEvent .coasted w.expected none (expiryRow s.profile s.reg)).reg

theorem witness_ExpiryIsHeldOrCoasts :
    (∀ m ∈ [424500, 425500], HoldsFor (expiring .locked 0 (candidateAt m false))) ∧
    (∀ m ∈ [424499, 425501], Coasts (expiring .locked 0 (candidateAt m false))) ∧
    (Coasts (expiring .locked 0 none) ∧ SensesClear (expiring .locked 0 none)) ∧
    (Coasts (expiring .locking 0 none) ∧ SensesClear (expiring .locking 0 none)) ∧
    (Coasts (expiring .coasting 4 none) ∧ SensesClear (expiring .coasting 4 none)) ∧
    Coasts (expiring .coasting 5 none) := by
  refine ⟨?_, ?_, ⟨?_, ?_⟩, ⟨?_, ?_⟩, ⟨?_, ?_⟩, ?_⟩ <;> decide +kernel

/-- The worked case 2: the input falls at 425,502 with the window HELD. -/
def heldShort : State := pinsAt .high (inWindow .held 425496 425502)

theorem witness_ShortMarkReleasesTheHeldExpiry :
    (heldShort.mode = .run ∨ heldShort.mode = .dry) ∧ heldShort.reg.state ≠ .search ∧
    heldShort.pins.mark = heldShort.profile.markLevel ∧ heldShort.reg.candidate ≠ none ∧
    (∃ w ∈ heldShort.reg.window, w.status = .held ∧
      NextAhead heldShort.web (heldShort.withMarkEvent .coasted w.expected none
        (expiryRow heldShort.profile heldShort.reg)).reg) ∧
    heldShort.commitDue heldShort.reg.number = false ∧ SensesClear heldShort := by decide +kernel

/-- The high-water marks ahead of their counters. -/
def behind (web belt : Nat) (s : State) : State :=
  s.setPos
    { web := { s.pos.web with highWater := s.web + BitVec.ofNat 32 web }
      belt := { s.pos.belt with highWater := s.belt + BitVec.ofNat 32 belt } }

/-- A commit waiting for the next mark event. -/
def committing (s : State) : State :=
  s.setProf { s.prof with commit := some ⟨.nextMark, false⟩, pending := { profile with pNom := 24000 } }

/-- Every row that brings a mark event, the commit due; the deficits at the new R_rev 400 and beyond it. -/
theorem witness_DueCommitIsAppliedAtTheMarkEvent :
    (∀ x ∈ [(Instr.virtualMarkTarget, searching), (.qualificationPoint, searching),
        (.qualificationPoint, inWindow .opened 424500 424508), (.qualificationPoint, inWindow .held 425500 425508),
        (.windowExpiry, expiring .locked 0 none), (.windowExpiry, expiring .locked 0 (candidateAt 425501 false)),
        (.markTrailingEdge, heldShort)],
      let s := committing x.2
      s.marksAt x.1 = true ∧ s.commitDue s.reg.number = true ∧ s.prof.pending.pNom ≠ s.prof.active.pNom ∧
      SensesClear s ∧ DeficitsWithin s 400) ∧
    (∀ x ∈ [(400, 400), (401, 0), (400, 401)],
      let s := behind x.1 x.2 (committing searching)
      s.marksAt .virtualMarkTarget = true ∧ SensesClear s ∧ s.webDeficit = x.1 ∧ s.beltDeficit = x.2 ∧
      s.prof.pending.reverseLimit = 400) := by
  refine ⟨?_, ?_⟩ <;> decide +kernel

/-! ## Witnesses: arithmetic, cuts and knife (03, 04) -/

/-- A half, both signs; the smallest P_nom; P_eff at P_nom × 256. -/
theorem witness_FilterAndScaleRoundHalvesAsStated :
    (1 ≤ 1 ∧ (0 : Int) ≤ 0 ∧ (-1 : Int) < 0) ∧
    2 * |2 ^ 1 * filterStep 1 1 - 1| = 2 ^ 1 ∧ 2 * |2 ^ 3 * filterStep (-4) 3 - (-4)| = 2 ^ 3 ∧
    0 < 1 ∧ (6400000 : Nat) = 25000 * 256 := by decide +kernel

/-- Distances of 0, 2^31 − 1, 2^31 and 2^31 + 1; a fire position at the reference and one count short of it. -/
theorem witness_PositionsCompareAndCutsKeepTheirSpacing :
    ((0 : Pos) - 0 ≠ 2147483648#32 ∧ (2147483647 : Pos) - 0 ≠ 2147483648#32 ∧
      (2147483649 : Pos) - 0 ≠ 2147483648#32 ∧ (2147483648 : Pos) - 0 = 2147483648#32 ∧
      (2147483647 : Pos).toNat < 2 ^ 31) ∧
    atOrBeyond 571401 ((559401 : Pos) + BitVec.ofNat 32 12000) = true ∧
    atOrBeyond 571400 ((559401 : Pos) + BitVec.ofNat 32 12000) = false := by decide +kernel

/-- A part with n cuts scheduled and k queued. -/
def pendingOf (n k : Nat) : State :=
  busy.setCut { busy.cut with
    schedule := (List.range n).map (fun i => cutAt (BitVec.ofNat 16 i) (1010000 + 1000 * i))
    queue := (List.range k).map (fun i => cutAt (BitVec.ofNat 16 (1000 + i)) (900000 + 1000 * i)) }

theorem witness_MarkRecordPlacesItsCut :
    (pendingOf 12 3).cut.schedule.length + (pendingOf 12 3).cut.queue.length < 16 ∧
    16 ≤ (pendingOf 12 4).cut.schedule.length + (pendingOf 12 4).cut.queue.length := by decide +kernel

/-- The web at the head's fire position. -/
def firing : State := (atWeb 1010406 busy).setCut { busy.cut with headReached := true }

theorem witness_FiredCutIsStruckOrWaits :
    firing.cut.schedule = cutAt 1201 1010406 :: [cutAt 1202 1035420] ∧ firing.mode.isHalt = false ∧
    firing.cut.headReached = true ∧ (∀ d ∈ [cutAt 1202 1035420].head?, atOrBeyond firing.web d.fire = false) ∧
    SensesClear firing := by decide +kernel

theorem witness_StrikeFollowsItsSteps :
    (busy.setMode .dry).mode.isDryKind = true ∧ (busy.setMode (.draining true)).mode.isDryKind = true ∧
    busy.mode.isDryKind = false := by decide

/-- A confirm window of repeat 2310, its expiry reached. -/
def confirming (s : State) : State := s.setCut { s.cut with confirm := some ⟨2310, ⟨1000000, true⟩⟩ }

/-- The same as the last work of a drain. -/
def lastConfirm : State :=
  confirming (((busy.setMode (.draining false)).setCut { busy.cut with schedule := [] }).setMap { busy.map with records := [] })

theorem witness_ConfirmWindowEndsConfirmedOrMissed :
    busy.cut.confirm = none ∧
    (∃ w ∈ (confirming busy).cut.confirm, (confirming busy).mode.isDraining = false ∧
      (confirming busy).mode.isHalt = false ∧ w.expiry.reached = true) ∧
    (∃ w ∈ lastConfirm.cut.confirm, lastConfirm.mode.isDraining = true ∧ lastConfirm.cut.schedule = [] ∧
      lastConfirm.cut.queue = [] ∧ lastConfirm.map.records = [] ∧ lastConfirm.mode.isHalt = false ∧
      w.expiry.reached = true) := by decide +kernel

def knifeAt (d : Drive) (off : Nat) (s : State) : State :=
  withActive { profile with knifeOff := off } (s.setKnife { s.act.knife with drive := d })

theorem witness_KnifeTimersFreeTheKnife :
    SensesClear busy ∧
    (SensesClear (knifeAt (.pulse 400) 2 busy) ∧ (knifeAt (.pulse 400) 2 busy).act.knife.drive = .pulse 400 ∧
      (knifeAt (.pulse 400) 2 busy).profile.knifeOff ≠ 0) ∧
    (SensesClear (knifeAt (.pulse 400) 0 busy) ∧ (knifeAt (.pulse 400) 0 busy).profile.knifeOff = 0 ∧
      (knifeAt (.pulse 400) 0 busy).cut.queue = []) ∧
    (SensesClear (knifeAt (.pulse 400) 0 (pendingOf 1 1)) ∧
      (knifeAt (.pulse 400) 0 (pendingOf 1 1)).cut.queue = [cutAt 1000 900000]) ∧
    (knifeAt (.offTime 2) 2 busy).act.knife.drive = .offTime 2 ∧
    (knifeAt (.offTime 2) 2 (pendingOf 1 1)).cut.queue = [cutAt 1000 900000] ∧
    (busy.act.knife.drive.isPulse = false ∧ busy.act.knife.drive.isBusy = false) ∧
    (knifeAt (.pulse 400) 2 busy).act.knife.drive.isPulse = true := by decide +kernel

def zonesOf (n : Nat) : State :=
  busy.setCut { busy.cut with splices := (List.range n).map (fun i => ⟨Machine.dist (2025000 + 4000 * i), Machine.dist (2055000 + 4000 * i)⟩) }

theorem witness_SpliceDetectionFormsAZone :
    (busy.setMode .setup).mode = .setup ∧ halted.mode.isHalt = true ∧
    ((zonesOf 3).mode ≠ .setup ∧ (zonesOf 3).mode.isHalt = false ∧ (zonesOf 3).cut.splices.length < 4) ∧
    4 ≤ (zonesOf 4).cut.splices.length ∧ (zonesOf 4).cut.splices.getLast? = some ⟨2037000, 2067000⟩ := by decide +kernel

/-! ## Witnesses: the map and the decisions (05, 06) -/

def recordsOf (n : Nat) : State :=
  busy.setMap { busy.map with records := (List.range n).map (fun i => struck (BitVec.ofNat 16 i) 5000000 5000000) }

theorem witness_StrikesEnterTheMap :
    (recordsOf 0).map.records.length < 48 ∧ (recordsOf 47).map.records.length < 48 ∧
    48 ≤ (recordsOf 48).map.records.length := by decide +kernel

def noticesOf (n : Nat) : State := busy.setMap { busy.map with notices := List.replicate n ⟨2309, 0x0F⟩ }

theorem witness_CameraEventTriggersAndNotifies :
    (∃ r ∈ (noticesOf 15).record 2310, (noticesOf 15).mode.isHalt = false ∧
      r.camera.any (fun e => e.reached) = true ∧ r.cameraTaken = false ∧ (noticesOf 15).map.notices.length < 16) ∧
    (∃ r ∈ (noticesOf 16).record 2310, r.camera.any (fun e => e.reached) = true ∧
      r.cameraTaken = false ∧ 16 ≤ (noticesOf 16).map.notices.length) := by decide +kernel

/-- The decision of repeat 2310 is to be taken, and the lane's label is UNDECIDED. -/
abbrev Deciding (s : State) (l : Lane) : Prop :=
  s.mode.isHalt = false ∧ ∃ r ∈ s.record 2310, r.decision.reached = true ∧ r.decisionTaken = false ∧ r.undecided l = true

/-- The disposition that the table gives the lane's label. -/
def tableOf (s : State) (l : Lane) : Option Disposition := (s.record 2310).map (fun r => s.tableDisposition r l)

theorem witness_DecisionTestsPurgeAndDecidesOnce :
    Deciding busy 0 ∧ (7 : Lane) ∉ ([0, 1] : List Lane) ∧ (0 : Lane) ∈ ([0, 1] : List Lane) ∧
    ∃ r ∈ busy.record 2310, r.undecided 7 = false := by decide +kernel

/-- Every event of the belt reached, the record decided or not, with more work or none. -/
def leaving (taken : Bool) (m : Mode) (more : List Cut) : State :=
  ((((busy.setMode m).setMap
        { records := [{ struck 2310 5000000 5060000 with exit := ⟨5060000, true⟩, decisionTaken := taken }]
          lastStamp := some ⟨5060000 - 1073741824, ⟨5060000, true⟩⟩
          normalRun := 0
          purge := some ⟨5060000, true⟩
          notices := [] }).setCut { busy.cut with schedule := more }).setLane 0
      { busy.lane 0 with rejectEnd := some ⟨5060000 - 1073741824, ⟨5060000, true⟩⟩ }).setGate 0
    { busy.gate 0 with hold := some ⟨5060000, true⟩ }

theorem witness_TakenEventsRemoveWhatTheyEnd :
    (let s := leaving false .run []
     s.mode.isHalt = false ∧ SensesClear s ∧ (∃ f ∈ s.map.lastStamp, f.expiry.reached = true) ∧
     (∃ e ∈ s.map.purge, e.reached = true) ∧ (∃ f ∈ (s.lane 0).rejectEnd, f.expiry.reached = true) ∧
     (∃ e ∈ (s.gate 0).hold, e.reached = true) ∧
     ∃ r ∈ s.record 2310, r.exit.reached = true ∧ r.decisionTaken = false) ∧
    (let s := leaving true (.draining false) [cutAt 1 1010000]
     s.mode.isDraining = true ∧ s.cut.schedule ≠ [] ∧ ∃ r ∈ s.record 2310, r.exit.reached = true ∧ r.decisionTaken = true) ∧
    (let s := leaving true (.draining false) []
     s.mode.isDraining = true ∧ s.cut.schedule = [] ∧ s.cut.queue = [] ∧ s.cut.confirm = none ∧
     s.map.records.eraseP (fun q => q.repeatNo == 2310) = [] ∧
     ∃ r ∈ s.record 2310, r.exit.reached = true ∧ r.decisionTaken = true) := by decide +kernel

/-- Lane 2 with n orders queued, of tags 0, 1, and so on, in a state. -/
def ordersOf (n : Nat) (state : LaneState) : State :=
  busy.setLane 1 { busy.lane 1 with orders := (List.range n).map (fun i => order (BitVec.ofNat 8 i)), state := state }

/-- Lane 2 about to open a stack for repeat 2310: its order's target, its eject list, the label fit to stack or not. -/
def opening (target : Nat) (ejects : List Eject) (fit : Bool) : State :=
  (busy.updateRecord 2310 (fun r => { r with verdict := if fit then .received else r.verdict })).setLane 1
    { busy.lane 1 with orders := [{ order 30 with target := target }], ejects := ejects }

/-- The log with the slots from 0 below n READY, the rest FREE. -/
def readyOf (n : Nat) (s : State) : State :=
  s.setLog
    { slots := Vector.ofFn (fun i => if i.val < n then .held .ready (stackOf 1 212 1000 (some .target)) else .free)
      ready := allSlots.take n }

def fourEjects : List Eject := List.replicate 4 ⟨9, 39, ⟨5100000, false⟩, false⟩

/-- A STACKING lane, one that opens a stack first, one in FAULT, one in its gap. Then lane 2 with no order, no free slot, a
full eject list; opening for a rejected label and, with targets 1 and 2, for a stacked one. -/
theorem witness_GateDecisionFollowsTheTable :
    (LaneStatesMean busy ∧ LanesOwnTheirSlots busy) ∧
    (∀ l ∈ ([0, 1, 2, 3] : List Lane), Deciding busy l) ∧
    ((busy.lane 0).opens = false ∧ (busy.lane 1).opens = true ∧ ([1, 0] : List Lane).head? = some 1) ∧
    ((busy.lane 2).opens = false ∧ (busy.lane 3).opens = false) ∧
    (SensesClear busy ∧ (busy.lane 3).state = .changing ∧ (busy.lane 3).gap ≠ 0) ∧
    (let s := ordersOf 0 .blocked
     Deciding s 1 ∧ SensesClear s ∧ (s.lane 1).opens = true ∧ (s.lane 1).orders = []) ∧
    (let s := readyOf 32 busy
     Deciding s 1 ∧ SensesClear s ∧ (s.lane 1).opens = true ∧ (s.lane 1).orders ≠ [] ∧ ∀ i, s.slot i ≠ .free) ∧
    (let s := opening 2 fourEjects true
     Deciding s 1 ∧ SensesClear s ∧ (s.lane 1).opens = true ∧ (s.lane 1).orders ≠ [] ∧ s.slot 2 = .free ∧
     4 ≤ (s.lane 1).ejects.length) ∧
    ∀ x ∈ [(2, [], false), (1, [], true), (1, fourEjects.tail, true), (2, fourEjects.tail, true)],
      let s := opening x.1 x.2.1 x.2.2
      Deciding s 1 ∧ SensesClear s ∧ (s.lane 1).opens = true ∧ (s.lane 1).ejects.length < 4 ∧
      (s.lane 1).orders = [{ order 30 with target := x.1 }] ∧ s.slot 2 = .free ∧ (∀ j < (2 : SlotIndex), s.slot j ≠ .free) ∧
      tableOf s 1 = some (if x.2.2 then .stacked (s.lane 1).nextSeq else .rejected .noVerdict) ∧
      atOrBeyond s.belt ((5000000 : Pos) + BitVec.ofNat 32 (90000 + 12000 + 1000)) = false := by
  refine ⟨⟨?_, ?_⟩, ?_, ?_, ?_, ?_, ?_, ?_, ?_, ?_⟩ <;> decide +kernel

/-- Lane 1 with a stack of `count`, with closed stacks or none before it, its label fit to stack. -/
def stackingAt (count : Nat) (before : List Eject) : State :=
  ((busy.setSlot 0 (.held .forming (stackOf 0 40 count none))).updateRecord 2310
      (fun r => { r with verdict := .received })).setLane 0 { busy.lane 0 with ejects := before }

theorem witness_StackedLabelIsCountedAndClosesAtTheTarget :
    (∀ s ∈ [stackingAt 998 [], stackingAt 999 [], stackingAt 999 [⟨9, 39, ⟨5100000, false⟩, false⟩]],
      Deciding s 0 ∧ (s.lane 0).state = .stacking ∧ SensesClear s ∧ tableOf s 0 = some (.stacked 40) ∧
      ∃ x ∈ s.formingStack 0, x.2.seq = 40) ∧
    (∃ x ∈ (stackingAt 998 []).formingStack 0, x.2.count + 1 < x.2.target) ∧
    (∃ x ∈ (stackingAt 999 []).formingStack 0, x.2.target ≤ x.2.count + 1) ∧
    ((stackingAt 999 [⟨9, 39, ⟨5100000, false⟩, false⟩]).lane 0).ejects ≠ [] ∧
    atOrBeyond (stackingAt 999 []).belt ((5000000 : Pos) + BitVec.ofNat 32 (90000 + 12000 + 1000)) = false := by
  decide +kernel

/-- No verdict in a STACKING lane (lane 1), a change gap (lane 4), both with no hold and no earlier interval. -/
theorem witness_RejectDrivesTheGateAndIsCounted :
    (SensesClear busy ∧ LaneStatesMean busy ∧ LanesOwnTheirSlots busy) ∧
    (Deciding busy 0 ∧ tableOf busy 0 = some (.rejected .noVerdict) ∧ (busy.lane 0).state = .stacking ∧
      (busy.formingStack 0).isSome = true) ∧
    (Deciding busy 3 ∧ tableOf busy 3 = some (.rejected .changeGap)) := by
  refine ⟨⟨?_, ?_, ?_⟩, ?_, ?_⟩ <;> decide +kernel

theorem witness_FaultedLaneQuarantinesItsLabels :
    Deciding busy 2 ∧ SensesClear busy ∧ (busy.lane 2).state = .fault ∧
    (busy.lane 2).quarantine = some (stackOf 2 17 2 none) := by decide +kernel

/-! ## Witnesses: lanes, stacks and the log (07, 08) -/

theorem witness_OrdersJoinAndLeaveTheQueue :
    (∀ n ∈ [0, 7, 8], FramesWhole (ordersOf n .idle)) ∧ FramesWhole (ordersOf 3 .blocked) ∧
    (FramesWhole (ordersOf 0 .held) ∧ FramesWhole (ordersOf 2 .held)) ∧
    (StationLink.inspection ≠ .line) ∧ ((0 : Nat) < 1 ∧ 8 < 9) ∧ ((1 : Nat) = (0 : Lane).val + 1 ∧ 8 = (7 : Lane).val + 1) ∧
    ((0 : Nat) < 1 ∧ 4000 < 4001 ∧ 65535 < 65536) ∧
    (((ordersOf 7 .idle).lane 1).orders.length < 8 ∧ 8 ≤ ((ordersOf 8 .idle).lane 1).orders.length) ∧
    (((ordersOf 0 .held).lane 1).state = .held ∧ ((ordersOf 0 .held).lane 1).orders = [] ∧
      ((ordersOf 2 .held).lane 1).state = .held) ∧
    ((ordersOf 2 .idle).lane 1).state ≠ .held ∧
    ((∀ x ∈ (ordersOf 3 .blocked).formingStack 1, x.2.tag ≠ 1) ∧
      ((ordersOf 3 .blocked).lane 1).orders = [order 0] ++ order 1 :: [order 2] ∧ (∀ x ∈ [order 0], x.tag ≠ 1) ∧
      (order 1).tag = 1 ∧ ∀ o ∈ ((ordersOf 3 .blocked).lane 1).orders, o.tag ≠ 9) := by decide +kernel

/-- Lane 1 with a stack stamp, the belt at `belt`; the label count. -/
def closable (count belt : Nat) : State :=
  ((atBelt belt busy).setSlot 0 (.held .forming (stackOf 0 40 count none))).setLane 0
    { busy.lane 0 with openStack := some ⟨0, false, false, some 5000000⟩ }

/-- The same with the belt at the position, in a mode, its pusher in a drive state. -/
def closing (m : Mode) (d : Drive) : State :=
  ((closable 1 5103000).setMode m).setPusher 0 { busy.pusher 0 with drive := d }

/-- No labels; the position one count ahead; the position reached in HALT; the four ejects taken at once, and a LATCHED
pusher in DRY. -/
theorem witness_OpenStacksAreClosedShort :
    (FramesWhole busy ∧ SensesClear busy ∧ busy.formingStack 1 = none) ∧ ((0 : Nat) < 1 ∧ 8 < 9) ∧
    (∀ s ∈ [closable 0 5103000, closable 1 5102999, closing (.halt .stopInput) .free],
      FramesWhole s ∧ SensesClear s ∧ ∃ x ∈ s.formingStack 0, EjectWaits s 0 x.1 x.2) ∧
    ∀ s ∈ [closing .run .free, closing .run .latched, closing .run (.pulse 80), closing .run (.offTime 40),
        closing .dry .free, closing .dry .latched, closing (.draining true) .latched],
      FramesWhole s ∧ SensesClear s ∧ ∃ x ∈ s.formingStack 0, ¬EjectWaits s 0 x.1 x.2 := by
  refine ⟨?_, ?_, ?_, ?_⟩ <;> decide +kernel

/-- Lane 4 with its head reached or due, its pusher in a drive state, in a mode. -/
def ejecting (due : Bool) (d : Drive) (waits : Bool) (m : Mode) : State :=
  ((busy.setMode m).setLane 3 { busy.lane 3 with ejects := [⟨1, 7, ⟨5060000, !due⟩, due⟩] }).setPusher 3
    { busy.pusher 3 with drive := d, pendingPulse := waits }

abbrev HeadEjects (s : State) : Prop :=
  s.mode.isHalt = false ∧ SensesClear s ∧ NextEjectAhead s 3 ∧
  s.slot 1 = .held .closed (stackOf 3 7 1000 (some .target)) ∧ ∃ e ∈ (s.lane 3).ejects.head?, e.slot = 1

theorem witness_EjectsFollowTheirPusher :
    (∀ d ∈ [Drive.free, .latched],
      HeadEjects (ejecting false d false .dry) ∧ (ejecting false d false .dry).mode.isDryKind = true) ∧
    (HeadEjects (ejecting false .free false .run) ∧ ((ejecting false .free false .run).pusher 3).drive = .free) ∧
    (HeadEjects (ejecting false .latched false .run) ∧ ((ejecting false .latched false .run).pusher 3).drive = .latched) ∧
    (HeadEjects (ejecting false (.pulse 80) false .run) ∧
      ((ejecting false (.pulse 80) false .run).pusher 3).drive.isBusy = true) ∧
    (∃ e ∈ ((ejecting false .free false .run).lane 3).ejects, e.position.reached = true) ∧
    (HeadEjects (ejecting true (.offTime 40) false .run) ∧ HeadEjects (ejecting true (.offTime 40) false (.draining true)) ∧
      ((ejecting true (.offTime 40) false .run).pusher 3).pendingPulse = false ∧
      ∃ e ∈ ((ejecting true (.offTime 40) false .run).lane 3).ejects, e.due = true) := by
  refine ⟨?_, ⟨?_, ?_⟩, ⟨?_, ?_⟩, ⟨?_, ?_⟩, ?_, ?_, ?_, ?_, ?_⟩ <;> decide +kernel

theorem witness_EjectsFollowTheirPusher_times :
    SensesClear busy ∧ ((ejecting false (.pulse 80) false .run).pusher 3).drive = .pulse 80 ∧
    ((ejecting false (.offTime 40) true .run).pusher 3).drive = .offTime 40 ∧
    ((ejecting false (.offTime 40) true .run).pusher 3).pendingPulse = true ∧
    (ejecting true (.offTime 40) true (.halt .stopInput)).mode.isHalt = true ∧
    (∀ e ∈ ((ejecting false (.offTime 40) false .run).lane 3).ejects.head?, e.due = false) ∧
    (busy.pusher 3).drive.isBusy = false ∧ (busy.pusher 3).drive.isPulse = false := by decide +kernel

theorem witness_ClearedLanesDeliverTheirQuarantine :
    (FramesWhole busy ∧ ∀ n ∈ [0, 31, 32], FramesWhole (readyOf n busy)) ∧
    ((0 : Nat) < 1 ∧ 8 < 9) ∧ ((3 : Nat) = (2 : Lane).val + 1) ∧ (busy.lane 0).state ≠ .fault ∧
    ((busy.lane 2).state = .fault ∧
      (busy.setPins { busy.pins with gateSense := 0x04 }).faultPresent (.gate 2) = true) ∧
    (∀ i : SlotIndex, (readyOf 32 busy).slot i ≠ .free) ∧
    (∀ n ∈ ([0, 31] : List SlotIndex), SensesClear (readyOf n.val busy) ∧
      ((readyOf n.val busy).lane 2).state = .fault ∧ ((readyOf n.val busy).lane 2).quarantine.isSome = true ∧
      (readyOf n.val busy).slot n = .free ∧ ∀ j < n, (readyOf n.val busy).slot j ≠ .free) ∧
    (busy.setMode .dry).mode.isDryKind = true := by
  refine ⟨?_, ?_, ?_, ?_, ?_, ?_, ?_, ?_⟩ <;> decide +kernel

/-- The ready list 5, 12, 3 of the worked sequence of the last free slots. -/
def lastSlots : State :=
  { onFresh .run with
    log :=
      { slots := ((((Vector.replicate 32 Slot.free).set 5 (.held .ready (stackOf 0 212 1000 (some .target)))).set 12
            (.held .ready (stackOf 2 44 640 (some .shortClose)))).set 3
          (.held .ready (stackOf 0 213 1000 (some .target)))).set 30 (.held .forming (stackOf 1 80 0 none))
        ready := [5, 12, 3] }
    lanes := ((onFresh .run).setLane 1 { LaneUnit.reset with state := .stacking, openStack := some ⟨30, false, false, none⟩ }).lanes }

theorem witness_RecordsAreReadFetchedAndAcknowledged :
    (FramesWhole lastSlots ∧ FramesWhole busy) ∧
    (ReadyListExact lastSlots ∧ LanesOwnTheirSlots lastSlots) ∧ (ReadyListExact busy ∧ LanesOwnTheirSlots busy) ∧
    ((lastSlots.slot 0).isIn .closed = false ∧ (lastSlots.slot 31).isIn .closed = false) ∧
    (∃ e ∈ (busy.lane 3).ejects, e.slot = 1) ∧ ((31 : Nat) < 32 ∧ StationLink.line ≠ .delivery ∧ (8 : Nat) < 9) ∧
    (lastSlots.log.ready = [] ++ 5 :: [12, 3] ∧ lastSlots.log.ready = [5] ++ 12 :: [3]) ∧
    (∃ r ∈ (lastSlots.slot 5).record?, 1 = r.lane.val + 1) ∧ (∃ r ∈ (lastSlots.slot 12).record?, 3 = r.lane.val + 1) ∧
    (∀ i ∈ lastSlots.log.ready, ¬((7 : Nat) = 0 ∨ ∃ r ∈ (lastSlots.slot i).record?, 7 = r.lane.val + 1)) ∧
    lastSlots.slot 0 = .free ∧
    (∃ r ∈ (lastSlots.slot 5).record?, r.seq = 212 ∧ r.seq ≠ 211) ∧
    lastSlots.slot 30 = .held .forming (stackOf 1 80 0 none) := by
  refine ⟨?_, ⟨?_, ?_⟩, ⟨?_, ?_⟩, ?_, ?_, ?_, ?_, ?_, ?_, ?_, ?_, ?_, ?_⟩ <;> decide +kernel

/-! ## Witnesses: outputs, profiles, modes (09, 10) -/

/-- An output inactive in a phase of its filter, its sense line at fault or not. -/
def gateFilter (f : Filter) (sense : LaneSet) : State :=
  (busy.setGate 1 { busy.gate 1 with filter := f }).setPins { busy.pins with gateSense := sense }

theorem witness_DrivenOutputsRestartTheirFilters :
    (let s := gateFilter .settling 0x02
     s.enabled (.gate 1) = true ∧ s.latchOf (.gate 1) = none ∧ s.driven (.gate 1) = false ∧
     s.filterOf (.gate 1) = .settling) ∧
    (gateFilter .measuring 0x02).filterOf (.gate 1) ≠ .settling ∧
    (∀ v ∈ [Level.high, .low], ∀ q ∈ allOutputs, (gateFilter .settled 0).enabled q = true →
      (gateFilter .settled 0).driven q = true → if q = .gate 1 then v = .high else (gateFilter .settled 0).atFault q = false) ∧
    (let s := busy.setGate 1 { busy.gate 1 with hold := some ⟨5070000, false⟩ }
     s.driven (.gate 1) = true ∧ ∀ q ∈ allOutputs, s.enabled q = true → s.driven q = true →
       if q = .gate 1 then Level.high = .high else s.atFault q = false) := by
  refine ⟨?_, ?_, ?_, ?_⟩ <;> decide +kernel

/-- Pusher 4 driven for its ejected stack. -/
def pushing : State :=
  ((busy.setSlot 5 (.held .ready (stackOf 3 212 1000 (some .target)))).setPusher 3
    { busy.pusher 3 with drive := .pulse 80 }).setLane 3 { busy.lane 3 with pulseStack := some (5, 212) }

abbrev Overloads (o : Output) (s : State) : Prop :=
  LanesOwnTheirSlots s ∧ (∀ q ∈ allOutputs, q ≠ o → s.faultPresent q = false) ∧ s.enabled o = true ∧
  s.latchOf o = none ∧ s.driven o = true

abbrev Measured (o : Output) (s : State) : Prop :=
  LanesOwnTheirSlots s ∧ (∀ q ∈ allOutputs, q ≠ o → s.faultPresent q = false) ∧ s.enabled o = true ∧
  s.latchOf o = none ∧ s.driven o = false ∧ s.filterOf o = .measuring

theorem witness_FaultLatchesStopTheirOutputs :
    (Overloads .knife (knifeAt (.pulse 400) 2 busy) ∧ Overloads (.pusher 3) pushing ∧
      Overloads (.gate 0) (busy.setGate 0 { busy.gate 0 with hold := some ⟨5070000, false⟩ })) ∧
    (Measured .knife (busy.setFilter .knife .measuring) ∧ Measured (.gate 1) (gateFilter .measuring 0x02) ∧
      Measured (.pusher 3) (busy.setFilter (.pusher 3) .measuring)) ∧
    busy.filterOf .knife ≠ .measuring := by
  refine ⟨⟨?_, ?_, ?_⟩, ⟨?_, ?_, ?_⟩, ?_⟩ <;> decide +kernel

/-- The bounds of P_nom and of the last field, one beyond each, the identifiers 0 and 45, and numbers beyond a named list. -/
theorem witness_ProfileFieldsAreWrittenAndRead :
    (FramesWhole busy ∧ FramesWhole (committing busy) ∧
      ∀ f ∈ [4, 32, 33, 41, 44], (f = 4 ∨ f = 32 ∨ f = 33 ∨ 41 ≤ f ∧ f ≤ 44) ∧ 1 < 2) ∧
    (StationLink.delivery ≠ .line ∧ busy.prof.commit = none ∧ (committing busy).prof.commit ≠ none) ∧
    ((∀ x ∈ [(1, 2000), (1, 100000), (44, 0), (44, 1)], ∃ b ∈ fixedRange x.1, b.1 ≤ x.2 ∧ x.2 ≤ b.2) ∧
      ∀ x ∈ [(1, 1999), (1, 100001), (44, 2), (0, 0), (45, 0)], ¬∃ b ∈ fixedRange x.1, b.1 ≤ x.2 ∧ x.2 ≤ b.2) ∧
    ((1 : Nat) < 2 ∧ (0 : Nat) < 1 ∧ 44 < 45) ∧
    (∀ f : Fin 44, ∃ v ∈ profile.get (f.val + 1), ∃ b ∈ fixedRange (f.val + 1), b.1 ≤ v ∧ v ≤ b.2) ∧
    (let p := { profile with pNom := 1999 }
     (¬∃ v ∈ p.get 1, ∃ b ∈ fixedRange 1, b.1 ≤ v ∧ v ≤ b.2) ∧ ∀ g < (0 : Fin 44), ∃ v ∈ p.get (g.val + 1),
       ∃ b ∈ fixedRange (g.val + 1), b.1 ≤ v ∧ v ≤ b.2) := by decide +kernel

/-- SETUP with a pending profile, nothing in hand. -/
def setupWith (p : Profile) : State :=
  (onFresh .setup).setProf { (onFresh .setup).prof with pending := p }

abbrev Clear (s : State) : Prop := s.prof.commit = none ∧ s.mode.isHalt = false

theorem witness_CommitRequestsAreTestedInOrder :
    (∀ s ∈ [busy, committing busy, halted, setupWith Profile.default, setupWith profile], FramesWhole s) ∧
    ((3 : Nat) < 4 ∧ (committing busy).prof.commit ≠ none ∧ halted.prof.commit = none ∧ halted.mode.isHalt = true) ∧
    (Clear busy ∧ busy.mode.tracks = true ∧ busy.map.records ≠ []) ∧
    (Clear busy ∧ busy.classOf 1202 ≠ .notYet ∧ busy.classOf 1203 = .notYet ∧ busy.classOf 33969 = .notYet ∧
      busy.classOf 33970 ≠ .notYet) ∧
    (Clear (setupWith Profile.default) ∧ firstFailure Profile.default = some 14) ∧
    (firstFailure { profile with labelLength := 13000 } = none ∧ Clear (setupWith { profile with labelLength := 13000 }) ∧
      ¬((setupWith { profile with labelLength := 13000 }).prof.active.labelLength = 13000)) ∧
    (firstFailure profile = none ∧ busy.prof.active.gCam = busy.prof.pending.gCam) ∧
    (Clear (setupWith profile) ∧ SensesClear (setupWith profile)) ∧
    (firstFailure { profile with pNom := 24000 } = none ∧ profile.pNom ≠ 24000) := by
  refine ⟨?_, ?_, ?_, ?_, ?_, ?_, ?_, ?_, ?_⟩ <;> decide +kernel

/-- RUN or DRAINING with nothing in hand, and a profile to commit. -/
def runWith (p : Profile) (m : Mode) : State :=
  (((busy.setMode m).setMap { busy.map with records := [] }).setCut { busy.cut with schedule := [] }).setProf
    { busy.prof with mode := m, pending := p }

/-- What the IMMEDIATE commit of a state meets when it is accepted and applied. -/
abbrev Applies (s : State) : Prop :=
  FramesWhole s ∧ Clear s ∧ (s.cut.schedule = [] ∧ s.cut.queue = [] ∧ s.map.records = []) ∧
  firstFailure s.prof.pending = none ∧ SensesClear s ∧ s.prof.active.laneMask = s.prof.pending.laneMask

def longer : Profile := { profile with pNom := 24000 }
def lowered : Profile := { profile with markLevel := .low }

/-- RUN with nothing in hand and a HELD window with its candidate, and a profile to commit. -/
def holding (p : Profile) : State :=
  (((inWindow .held 425496 425500).setMap { busy.map with records := [] }).setCut { busy.cut with schedule := [] }).setProf
    { busy.prof with pending := p }

/-- The three ways of `base`: P_nom kept with P_eff in the new band and out of it, P_nom changed in RUN, in DRAINING, in
SETUP; the deficits at R_rev and beyond it; a HELD window with its candidate kept, one
withdrawn with P_nom, and one whose candidate goes with the mark level. -/
theorem witness_CommitRequestsAreTestedInOrder_applied :
    (∀ s ∈ [runWith profile .run, runWith longer .run, runWith longer (.draining false), runWith longer .setup],
      Applies s ∧ ∀ w ∈ s.reg.window, w.status ≠ .held) ∧
    (let s := (runWith profile .run).setReg { busy.reg with pEff := 7000000 }
     Applies s ∧ profile.pNom * 256 * (1024 + profile.stretchLimit) / 1024 < s.reg.pEff) ∧
    (∀ x ∈ [(400, 400), (401, 0), (400, 401)],
      let s := behind x.1 x.2 (runWith profile .run)
      Applies s ∧ s.prof.pending.reverseLimit = 400 ∧ s.webDeficit = x.1 ∧ s.beltDeficit = x.2) ∧
    (∀ p ∈ [profile, longer], Applies (holding p) ∧ (holding p).reg.candidate ≠ none) ∧
    (∀ p ∈ [profile, longer, lowered], ∃ w ∈ (holding p).reg.window, w.status = .held) ∧
    let s := holding lowered
    Applies s ∧ s.prof.active.pNom = s.prof.pending.pNom ∧ s.prof.active.markLevel ≠ s.prof.pending.markLevel ∧
    s.reg.state ≠ .search ∧ s.reg.pEff = 6403072 ∧ bandLow lowered ≤ 6403072 ∧ 6403072 ≤ bandHigh lowered ∧
    NextAhead s.web (s.reg.afterEvent lowered .coasted 425000 none (expiryRow lowered s.reg)) := by
  refine ⟨?_, ?_, ?_, ?_, ?_, ?_⟩ <;> decide +kernel

def latchedKnife (s : State) : State := s.setKnife { s.act.knife with drive := .latched, latch := some .opened }

theorem witness_ModeRequestsFollowTheTable :
    (∀ s ∈ [busy, halted, onFresh .setup, onFresh .run, latchedKnife (onFresh .setup), busy.setMode (.draining true)],
      FramesWhole s) ∧
    (SensesClear busy ∧ (2 : Nat) < 3 ∧ busy.mode ≠ .setup) ∧
    ((onFresh .setup).mode = .setup ∧ SensesClear (onFresh .setup) ∧ 0 < (onFresh .setup).profile.pNom ∧
      (onFresh .setup).profile.pNom < 2 ^ 31 ∧ (onFresh .setup).act.knife.latch = none) ∧
    ((latchedKnife (onFresh .setup)).act.knife.latch ≠ none ∧ SensesClear (latchedKnife (onFresh .setup))) ∧
    (busy.setMode (.draining true)).mode.isDraining = true ∧ halted.mode.isHalt = true ∧
    (busy.mode = .run ∧ busy.act.knife.latch = none ∧ busy.cut.schedule ≠ []) ∧
    ((onFresh .run).cut.schedule = [] ∧ (onFresh .run).cut.queue = [] ∧ (onFresh .run).cut.confirm = none ∧
      (onFresh .run).map.records = []) := by
  refine ⟨?_, ?_, ?_, ?_, ?_, ?_, ?_, ?_⟩ <;> decide +kernel

theorem witness_ResetTrackEmptiesTheTrack :
    (∀ s ∈ [busy, halted, latchedKnife halted], FramesWhole s) ∧
    busy.mode.tracks = true ∧
    (halted.mode.tracks = false ∧ (halted.setPins { halted.pins with stop := true }).pins.stop = true) ∧
    (halted.pins.stop = false ∧ SensesClear halted ∧ LanesOwnTheirSlots halted) ∧ SlotsHaveOwners halted ∧
    (latchedKnife halted).act.knife.latch ≠ none := by
  refine ⟨?_, ?_, ?_, ⟨?_, ?_, ?_⟩, ?_, ?_⟩ <;> decide +kernel

/-! ## Witnesses: links and counters (11) -/

/-- A frame that spells NOP, and one that no request has. -/
theorem witness_LinksMoveOnlyByTheirOwnCommands :
    Instr.nop .line ≠ .deviceReset ∧ Instr.nop .line ≠ .readStatus .line 0 ∧ Instr.nop .line ≠ .selectAssert .line ∧
    (Instr.purgeEnd).request ≠ some (.line, .nop) ∧
    (Instr.brokenFrame .line ⟨16, [0x0000]⟩).spelled = .nop .line ∧
    (Instr.brokenFrame .line ⟨16, [0x0800]⟩).spelled = .brokenFrame .line ⟨16, [0x0800]⟩ := by decide

/-- Frames of 15, 16, 256, 257 and 272 bits; the frame of the worked delivery exchange; a request of another link. -/
theorem witness_FramesAreCheckedAndAnswered :
    (∀ n ∈ [0, 15, 257, 272], ¬(n ≠ 0 ∧ n % 16 = 0 ∧ n ≤ 256)) ∧ (∀ n ∈ [16, 256], n ≠ 0 ∧ n % 16 = 0 ∧ n ≤ 256) ∧
    (∀ q ∈ allRequests, q.code ≠ 0x08) ∧ (0x3112 : Word16).extractLsb' 4 4 ≠ 0 ∧
    (Request.ackRecord.code = (0x3102 : Word16).extractLsb' 8 8 ∧ (0x3102 : Word16).extractLsb' 4 4 = 0 ∧
      [(0x0003 : Word16)].length < ((0x3102 : Word16).extractLsb' 0 4).toNat) ∧
    ((Instr.setMode .delivery 0).request = some (.delivery, .setMode) ∧ Request.setMode.allowedOn .delivery = false) ∧
    (Request.setMode.allowedOn .line = true ∧ ((0x1401 : Word16).extractLsb' 0 4).toNat = Request.setMode.payloadLength) ∧
    (State.reset.link .line).slot.words = [0] := by decide +kernel

/-- Links at their frames; requests of every length with no fill word and with all that a frame can hold. -/
theorem witness_FramesAreCheckedAndAnswered_whole :
    (∀ p ∈ [FramePhase.idle, .shifting], ((inFrame p).link .line).phase ≠ .discarded) ∧
    ((inFrame .discarded).link .line).phase = .discarded ∧
    (statusPage busy.statusImage 3).isSome = true ∧ (statusPage busy.statusImage 30).isNone = true ∧
    (∀ x ∈ [(Instr.nop .line, Request.nop), (.readStatus .line 29, .readStatus),
        (.queueOrder .line 8 255 65535 4000 true true, .queueOrder)],
      x.1.request = some (.line, x.2) ∧ x.1.wellFormed = true ∧ x.2.allowedOn .line = true ∧
      x.2.payloadLength + 0 ≤ 15 ∧ x.2.payloadLength + (15 - x.2.payloadLength) ≤ 15) := by decide +kernel

/-- A link that holds a snapshot and a copy of repeat 2310. -/
def reading : State :=
  busy.setLink .line { busy.link .line with
    snapshot := some busy.statusImage, copy := some (.record (struck 2310 5000000 5060000)) }

theorem witness_LinksAnswerFromFlagsSnapshotAndCopy :
    ((busy.link .line).phase ≠ .discarded ∧ (reading.link .line).phase ≠ .discarded ∧
      ((pendingOf 2 2).link .line).phase ≠ .discarded) ∧
    ((29 : Nat) < 30 ∧ (3 : Nat) < 4) ∧ ((busy.link .line).snapshot = none ∧ (reading.link .line).snapshot = some busy.statusImage) ∧
    (busy.record 2310).isSome = true ∧
    (busy.record 1202 = none ∧ busy.cut.schedule = [cutAt 1201 1010406] ++ cutAt 1202 1035420 :: [] ∧
      ∀ x ∈ [cutAt 1201 1010406], x.repeatNo ≠ 1202) ∧
    ((pendingOf 2 2).record 1001 = none ∧ (∀ x ∈ (pendingOf 2 2).cut.schedule, x.repeatNo ≠ 1001) ∧
      (pendingOf 2 2).cut.queue = [cutAt 1000 900000] ++ cutAt 1001 901000 :: []) ∧
    (busy.record 7 = none ∧ ∀ x ∈ busy.cut.schedule ++ busy.cut.queue, x.repeatNo ≠ 7) ∧
    ((∃ c ∈ (reading.link .line).copy, c.number = 2310 ∧ c.number ≠ 2311) ∧ ∀ c ∈ (busy.link .line).copy, c.number ≠ 2310) := by
  refine ⟨?_, ?_, ⟨?_, rfl⟩, ?_, ?_, ?_, ?_, ?_⟩ <;> decide +kernel

/-- Runs of 1 and of 256, a run that touches the last NOT_YET number and one that passes it. -/
theorem witness_LineRejectCondemnsItsRun :
    (FramesWhole busy ∧ RecordsDistinct busy) ∧ ((0 : Nat) = 0 ∧ 256 < 257 ∧ (1 : LaneSet) ≠ 0) ∧
    ((List.range 256).map (fun i => (33714 : RepeatNo) + BitVec.ofNat 16 i)).any (fun n => busy.classOf n == .far) = false ∧
    ((List.range 256).map (fun i => (33715 : RepeatNo) + BitVec.ofNat 16 i)).any (fun n => busy.classOf n == .far) = true ∧
    ((List.range 1).map (fun i => (2310 : RepeatNo) + BitVec.ofNat 16 i)).any (fun n => busy.classOf n == .far) = false := by
  decide +kernel

/-- Repeat 2310 with lanes 1 and 2 decided, or all. -/
def decidedOf (n : Nat) : State :=
  busy.updateRecord 2310 (fun r => { r with
    dispositions := Vector.ofFn (fun l => if l.val < n then .rejected .noVerdict else .undecided) })

theorem witness_VerdictsReachUndecidedLanes :
    (FramesWhole busy ∧ FramesWhole (decidedOf 4) ∧ FramesWhole (decidedOf 2) ∧ FramesWhole State.reset) ∧
    (StationLink.line ≠ .inspection ∧ 15 < (16 : BitVec 8).toNat ∧ (15 : BitVec 8).toNat ≤ 15) ∧
    (busy.record 1199 = none ∧ busy.classOf 1199 = .gone ∧ busy.classOf 1201 ≠ .gone ∧ busy.record 1201 = none) ∧
    (∃ r ∈ (decidedOf 4).record 2310, LaneSet.ofTest (fun l => r.undecided l) = 0) ∧
    (∃ r ∈ (decidedOf 2).record 2310, LaneSet.ofTest (fun l => r.undecided l) = 0x0C ∧
      (0x04 : LaneSet) &&& (r.laneSet &&& ~~~(0x0C : LaneSet)) = 0 ∧
      (0x05 : LaneSet) &&& (r.laneSet &&& ~~~(0x0C : LaneSet)) ≠ 0) ∧
    (State.reset.map.notices = [] ∧ busy.map.notices = ⟨2310, 0x0F⟩ :: []) := by decide +kernel

theorem witness_CountersAreReadAndClearedWhole :
    (FramesWhole busy ∧ FramesWhole (knifeAt (.pulse 400) 2 busy)) ∧
    (32 : Nat) < 33 ∧ busy.driven .knife = false ∧ (knifeAt (.pulse 400) 2 busy).driven .knife = true ∧
    (knifeAt (.pulse 400) 2 busy).atFault .knife = false ∧
    ∀ o ∈ allOutputs, busy.driven o = true → busy.atFault o = false := by decide +kernel

/-- Lane 1's stack open and lane 4's closed one, the mask of the pending profile `m`. -/
def remasking (m : LaneSet) (s : State) : State := s.setProf { s.prof with pending := { profile with laneMask := m } }

def inSetup (m : LaneSet) : State := remasking m (busy.setMode .setup)

/-- Lane 5 is OFF with its gate latched. -/
def offAndLatched : State :=
  (inSetup 0x1F).setGate 4 { hold := none, latch := some .opened, filter := .settling }

/-- The belt beyond the eject position of lane 1's stack, nothing in hand. -/
def ejectingOut (m : Mode) : State :=
  remasking 0x1E ((((closable 1 5103000).setMode m).setMap { busy.map with records := [] }).setCut
    { busy.cut with schedule := [] })

/-- The lanes at a change of the mask to 1Eh. -/
abbrev Remasks (c : Instr) (s : State) : Prop :=
  (s.commitsAt c = true ∧ FramesWhole s ∧ SensesClear s ∧ LanesOwnTheirSlots s ∧
    DeficitsWithin s s.prof.pending.reverseLimit) ∧
  LaneSet.has s.prof.active.laneMask 0 = true ∧ LaneSet.has s.prof.pending.laneMask 0 = false ∧
  (s.lane 0).state = .stacking ∧
  LaneSet.has s.prof.active.laneMask 4 = false ∧ LaneSet.has s.prof.pending.laneMask 4 = true ∧
  LaneSet.has s.prof.active.laneMask 1 = LaneSet.has s.prof.pending.laneMask 1

abbrev EjectsLater (s : State) : Prop :=
  ∃ x ∈ s.formingStack 0, EjectWaits (s.setProf { s.prof with active := s.prof.pending }) 0 x.1 x.2

/-- IMMEDIATE in SETUP, RUN, DRY and DRAINING; at a mark event of SEARCH and of a window. -/
theorem witness_MaskChangesActOnTheirLanes :
    (∀ m ∈ [Mode.setup, .run, .dry, .draining false],
      Remasks (.commitProfile .line 0 0) (ejectingOut m) ∧ ¬EjectsLater (ejectingOut m) ∧
      ((ejectingOut m).pusher 0).drive = .free) ∧
    (Remasks (.commitProfile .line 0 0) (inSetup 0x1E) ∧ EjectsLater (inSetup 0x1E)) ∧
    (∀ x ∈ [(Instr.virtualMarkTarget, searching), (.qualificationPoint, inWindow .opened 424500 424508),
        (.markTrailingEdge, heldShort)],
      let s := remasking 0x1E (committing x.2)
      Remasks x.1 s ∧ EjectsLater s) ∧
    (LaneSet.has (inSetup 0x0D).prof.pending.laneMask 1 = false ∧ ((inSetup 0x0D).lane 1).state ≠ .stacking) ∧
    (offAndLatched.commitsAt (.commitProfile .line 0 0) = true ∧ FramesWhole offAndLatched ∧ SensesClear offAndLatched ∧
      LanesOwnTheirSlots offAndLatched ∧ (offAndLatched.gate 4).latch ≠ none) := by
  refine ⟨?_, ⟨?_, ?_⟩, ?_, ?_, ?_⟩ <;> decide +kernel

/-! ## Witnesses: steps from a state that meets every invariant (`test_busy_is_sound`) -/

/-- The part at work, with the decision of repeat 2310 in front. -/
def working : State := busy.setPending [.decisionPosition 2310 [1, 0, 2, 3], .nop .line]

theorem witness_StepKeepsBandsAndBounds :
    (PEffInBand working ∧ WithinCapacity working ∧ EventsCarried working) ∧ ∃ t, step working = .next t :=
  ⟨⟨by decide +kernel, by decide +kernel, by decide +kernel⟩, _, rfl⟩

theorem witness_StepKeepsTheBalanceOfLabels : LabelsBalance working ∧ ∃ t, step working = .next t :=
  ⟨by decide +kernel, _, rfl⟩

theorem witness_StepDecidesEachLabelOnce :
    (CondemnedNeverStacked working ∧ RecordsDistinct working ∧ NumbersApart working) ∧
    ∃ t, step working = .next t :=
  ⟨⟨by decide +kernel, by decide +kernel, by decide +kernel⟩, _, rfl⟩

/-- The nearest number ahead of the counter that the premise allows, and the first that it does not. -/
theorem witness_StepDecidesEachLabelOnce_bound :
    NumbersApart (working.setReg { working.reg with number := 2245 }) ∧
    ¬NumbersApart (working.setReg { working.reg with number := 2246 }) := by
  refine ⟨?_, ?_⟩ <;> decide +kernel

theorem witness_StepKeepsLanesAndLogInAgreement :
    (ReadyListExact working ∧ LatchesHold working ∧ LaneStatesMean working ∧ LanesOwnTheirSlots working ∧
      SlotsHaveOwners working) ∧ ∃ t, step working = .next t :=
  ⟨⟨by decide +kernel, by decide +kernel, by decide +kernel, by decide +kernel, by decide +kernel⟩, _, rfl⟩

theorem witness_StepKeepsWhatTheModesPromise :
    (IdleIsQuiet working ∧ HaltIsStill working ∧ StopMeansHalt working ∧ LatchesHold working ∧
      WaitingCommitValid working ∧ DrainingHasWork working ∧ WindowMatchesState working) ∧ ∃ t, step working = .next t :=
  ⟨⟨by decide +kernel, by decide +kernel, by decide +kernel, by decide +kernel, by decide +kernel, by decide +kernel,
    by decide +kernel⟩, _, rfl⟩

theorem witness_ModesMoveOnlyByTheirWays : Instr.setMode .line 2 ≠ .deviceReset := by decide

/-! ## The worked cases and sequences of the manual, a row at a time -/

/-- The state that a command leaves. -/
def after (c : Instr) (s : State) : State :=
  match exec c s with
  | .next t => t
  | .fault _ => s
  | .refused _ => s

def rightOf (s : State) : State := s.setPos { s.pos with web := { s.pos.web with speed := 333 } }

/-- The profile of the worked cases of 03. -/
def worked : Profile := { profile with sensorToCut := 61000, latency := 1800 }

/-- LOCKED, the last real mark at `last`, the mark at `m` qualified. -/
def marking (p : Profile) (pEff last m : Nat) (schedule : List Cut) : State :=
  let s := withActive p (atWeb (m + 8) (rightOf busy))
  let expected := expectedMark (Machine.dist last) pEff
  (s.setReg { s.reg with
      pEff := pEff
      lastReal := some (Machine.dist last)
      candidate := candidateAt m true
      window := some ⟨.opened, expected, ⟨expected - 500, true⟩, ⟨expected + 500, false⟩⟩ }).setCut
    { s.cut with schedule := schedule, lastFire := none }

/-- 03, a repeat at nominal values. -/
theorem test_nominal_repeat :
    let t := after .qualificationPoint
      (marking worked 6403072 974990 1000000 [cutAt 1201 1010406, cutAt 1202 1035420])
    t.reg.lastError = some (-2) ∧ t.reg.pEff = 6403008 ∧ t.reg.newest = some 1203 ∧
    t.reg.window = some ⟨.armed, 1025012, ⟨1024512, false⟩, ⟨1025512, false⟩⟩ ∧
    t.cut.latest = some ⟨61029, 599, 1060430⟩ ∧
    t.cut.schedule.map (fun c => (c.fire, c.postponed, c.late, c.reg)) =
      [(1010406, false, false, false), (1035420, false, false, false), (1060430, false, false, false)] := by
  decide +kernel

/-- 03, the stretch reaches the clamp, event b. -/
theorem test_clamped_repeat :
    let t := after .qualificationPoint (marking worked 6498400 2525450 2550930 [])
    t.reg.lastError = some 96 ∧ t.reg.pEff = 6500000 ∧ t.flag .line .stretchLimit = true ∧
    t.reg.window.map (·.expected) = some 2576321 ∧ t.cut.latest.map (fun c => (c.kEff, c.fire)) = some (61953, 2612284) := by
  decide +kernel

/-- 03, positions across the wrap. -/
theorem test_wrapped_repeat :
    let t := after .qualificationPoint (marking worked 6403072 4294942484 198 [cutAt 1202 35618])
    t.reg.lastError = some (-2) ∧ t.reg.window.map (·.expected) = some 25210 ∧
    t.cut.latest.map (·.fire) = some 60628 := by decide +kernel

/-- 03, the lead at its clamp; a cut late at short K; a cut postponed after a virtual mark. -/
theorem test_leads : latencyLead 32767 5000 = 8191 ∧ leadClamped 32767 5000 = true ∧ latencyLead 1200 5000 = 6000 ∧
    latencyLead (-120) 1800 = 0 ∧ scaledCutDistance 5000 6400000 25000 = 5000 := by decide +kernel
theorem test_late_cut :
    let p := { profile with sensorToCut := 5000, latency := 5000, confirmWindow := 0 }
    let s := marking p 6400000 1975000 2000000 []
    let t := after .qualificationPoint (s.setPos { s.pos with web := { s.pos.web with speed := 1200 } })
    t.cut.latest = some ⟨5000, 6000, 1999000⟩ ∧ t.cut.lastFire = some 1999000 ∧ t.cut.schedule = [] ∧
    (t.record 1203).map (fun r => (r.late, r.reg, r.stamp)) = some (true, true, 5060000) := by decide +kernel
theorem test_postponed_cut :
    orderedFire (some 559401) (firePosition 510000 60000 599) 12000 = 571401 ∧
    mustPostpone (some 559401) 569401 12000 = true ∧ mustPostpone (some 559401) 569401 1000 = false ∧
    orderedFire (some 4294967000) 700 1000 = 704 := by decide +kernel

/-- 02, acquiring register: the virtual mark at 125,000, the mark at 138,000, the first filtered mark at 163,010. -/
theorem test_virtual_mark :
    let s := (atWeb 125000 (onFresh .run)).setReg { Registration.reset with virtualTarget := some ⟨125000, true⟩ }
    let t := after .virtualMarkTarget s
    t.reg.state = .search ∧ t.reg.newest = some 0 ∧ t.reg.virtualTarget = some ⟨150000, false⟩ ∧
    t.cut.schedule.map (fun c => (c.kind, c.regError, c.reg)) = [(MarkKind.virtual, none, true)] := by decide +kernel
theorem test_first_mark :
    let s := withCandidate 138000 true ((atWeb 138008 (onFresh .run)).setReg
      { Registration.reset with virtualTarget := some ⟨150000, false⟩, number := 1 })
    let t := after .qualificationPoint s
    t.reg.state = .locking ∧ t.reg.lock = 4 ∧ t.reg.newest = some 1 ∧ t.reg.pEff = 6400000 ∧
    t.reg.window = some ⟨.armed, 163000, ⟨162500, false⟩, ⟨163500, false⟩⟩ := by decide +kernel
theorem test_filter_steps : filterStep 2560 3 = 320 ∧ filterStep (-861) 3 = -108 ∧ filterStep 4879 3 = 610 ∧
    filterStep (-512) 3 = -64 ∧ filterStep 24480 3 = 3060 := by decide

/-- 02, coasting: the second miss carries REG; the third of C_max 3 loses register. -/
theorem test_coasting :
    let s := withActive { profile with cMax := 3 } (expiring .coasting 1 none)
    let t := after .windowExpiry (s.setReg { s.reg with pEff := 6400000 })
    let u := after .windowExpiry (s.setReg { s.reg with miss := 2 })
    (t.reg.state = .coasting ∧ t.reg.miss = 2 ∧ t.flag .line .regWarn = true ∧ t.flag .line .markLost = false ∧
      t.reg.window.map (·.expected) = some 450000 ∧ t.cnt.misses = 1) ∧
    u.reg.state = .search ∧ u.reg.miss = 0 ∧ u.flag .line .markLost = true ∧
    u.reg.virtualTarget = some ⟨450000, false⟩ := by decide +kernel

/-- 02, a mark at the edge of the window: cases 1, 2 and 3. -/
theorem test_held_window :
    let t := after .windowExpiry (expiring .locked 0 (candidateAt 425496 false))
    (t.reg.window.map (·.status) = some .held ∧ t.reg.windowCounter = 0) ∧
    (let u := after .qualificationPoint (inWindow .held 425496 425504)
     u.reg.lastError = some 496 ∧ u.reg.state = .locked ∧ u.flag .line .regWarn = true) ∧
    (let u := after .markTrailingEdge heldShort
     u.cnt.shortMarks = 1 ∧ u.reg.state = .coasting ∧ u.reg.miss = 1 ∧
     u.reg.lastEvent = some ⟨.coasted, 425000, 1203⟩) := by decide +kernel

/-- 01, speed samples. -/
theorem test_speed_samples :
    let s := busy.setPos { busy.pos with web := { counter := 1036000, highWater := 1036000, base := 1000000, speed := 0 } }
    let t := after .speedSample s
    let u := after .speedSample (t.setPos { t.pos with web := { t.pos.web with counter := 1035880 } })
    t.pos.web.speed = 32767 ∧ t.pos.web.base = 1036000 ∧ t.flag .line .speedClamp = true ∧ u.pos.web.speed = -120 := by
  decide +kernel

/-- 01, reverse motion on the belt: a deficit of 400 is tolerated, 401 is not. -/
theorem test_reverse_belt :
    let s := (onFresh .run).setPos { State.reset.pos with belt := { counter := 1999701, highWater := 2000100, base := 0, speed := 0 } }
    let t := after (.countArrival .belt .reverse) s
    let u := after (.countArrival .belt .reverse) t
    (t.mode = .run ∧ t.belt = 1999700) ∧ u.mode = .halt .reverseBelt ∧ u.pos.belt.highWater = 1999699 := by decide +kernel

/-- 01, a target across the wrap: the count to 17,704 takes it. -/
theorem test_forward_count :
    let s := (atWeb 17703 (onFresh .run)).setReg { Registration.reset with virtualTarget := some (PosEvent.arm 4294960000 17704) }
    s.reg.virtualTarget = some ⟨17704, false⟩ ∧
    (after (.countArrival .web .forward) s).reg.virtualTarget = some ⟨17704, true⟩ := by decide +kernel

/-- 04, a deferred strike and a missed confirm: rows 3, 4, 5 and 6. -/
def cutting : State :=
  (atWeb 501000 (knifeAt (.pulse 400) 20 busy)).setCut
    { CutScheduler.reset with schedule := [cutAt 701 501000, cutAt 702 525000], headReached := true, lastFire := some 500000 }
theorem test_deferred_strike :
    let t := after .firePosition cutting
    let u := after .knifeOffTimeEnd (atWeb 502040 (t.setKnife { t.act.knife with drive := .offTime 20 }))
    (t.cut.queue.map (fun c => (c.repeatNo, c.late, c.reg)) = [(701, true, true)] ∧ t.cut.lastFire = some 501000) ∧
    u.cut.queue = [] ∧ u.act.knife.drive = .pulse 400 ∧ u.cut.confirm = some ⟨701, ⟨502840, false⟩⟩ ∧
    (u.record 701).isSome = true := by decide +kernel
theorem test_missed_confirm :
    let t := after .confirmWindowExpiry (confirming busy)
    let u := after .firePosition (firing.setCut { firing.cut with strikeCarry := true })
    ((t.record 2310).map (·.uncut) = some true ∧ t.cut.strikeCarry = true ∧ t.cut.confirm = none) ∧
    (u.record 1201).map (fun r => (r.uncutCarry, r.uncut)) = some (true, true) ∧ u.cut.strikeCarry = false := by
  decide +kernel

/-- 04, a splice passing through, and five zones merged into four. -/
theorem test_splices :
    let t := after .spliceDetection (atWeb 1100000 busy)
    let u := after .spliceDetection (atWeb 2016000 (zonesOf 4))
    (t.cut.splices = [⟨1125000, 1155000⟩] ∧ t.flag .line .spliceSeen = true ∧ t.flag .line .spliceMerged = false) ∧
    u.cut.splices.getLast? = some ⟨2037000, 2071000⟩ ∧ u.cut.splices.length = 4 ∧ u.flag .line .spliceMerged = true := by
  decide +kernel
theorem test_splice_test :
    let fired (fire last : Nat) := (spliceTest (cutAt 1 fire) (busy.setCut
      { busy.cut with splices := [⟨1125000, 1155000⟩], lastFire := some (Machine.dist last) }))
    (fired 1110000 1085000).1.splice = false ∧ (fired 1135000 1110000).1.splice = true ∧
    (fired 1160000 1135000).1.splice = true ∧ (fired 1135000 1110000).2.cut.splices.length = 1 ∧
    (fired 1160000 1135000).2.cut.splices = [] := by decide +kernel

/-- 05, a jam and its purge: strikes 1003, 1004, 1006 and 1009. -/
def jamming (last stamp : Nat) (purge : Option PosEvent) (run : Nat) : State :=
  let s := withActive { profile with autoClear := 3 } (atBelt stamp busy)
  enterMap (cutAt 1003 0) (Machine.dist stamp) ((s.setMap { TransitMap.reset with
    lastStamp := some (Fading.start (Machine.dist last) (Machine.dist last)), purge := purge, normalRun := BitVec.ofNat 16 run }).setLink
      .line { s.links.line with flags := 0x208 })
theorem test_jam :
    let a := jamming 3030000 3036000 none 2
    let b := jamming 3036000 3042000 (some ⟨3110000, false⟩) 0
    (a.map.purge = some ⟨3110000, false⟩ ∧ a.flag .line .jam = true ∧ a.flag .line .purgeOn = true ∧
      a.map.normalRun = 0 ∧ (a.record 1003).map (fun r => (r.spacingClass, r.spacing)) = some (.jammed, true)) ∧
    b.map.purge = some ⟨3116000, false⟩ ∧ b.flag .line .purgeOn = false := by decide +kernel
theorem test_spacing :
    let a := jamming 3042000 3053000 (some ⟨3116000, false⟩) 2
    let b := jamming 3096000 3111000 (some ⟨3116000, false⟩) 2
    ((a.record 1003).map (fun r => (r.spacingClass, r.spacing, r.decision.target, r.exit.target)) =
      some (.tight, true, 3112800, 3155000) ∧ a.map.purge = some ⟨3116000, false⟩) ∧
    b.link .line = { b.link .line with flags := 0 } ∧ b.map.normalRun = 0 := by decide +kernel

/-- 05 and 06: at a purged decision every lane rejects with PURGE; after its end PURGE_OFF. -/
theorem test_purge :
    let s := busy.setMap { busy.map with purge := some ⟨5060001, false⟩ }
    let t := after (.decisionPosition 2310 [0]) s
    (t.record 2310).map (fun r => (r.purge, r.dispositions[(0 : Lane)])) = some (true, .rejected .purge) ∧
    (after .purgeEnd (s.setMap { s.map with purge := some ⟨5060000, true⟩ })).flag .line .purgeOff = true := by
  decide +kernel

/-- 06, a verdict racing the gate, cases A and B: lanes 1 and 3 reject on VISION, a late verdict changes nothing. -/
def fourStacking : State :=
  let slot (l : Lane) : Slot := .held .forming { stackOf l 40 10 none with lane := l }
  { busy with
    act := Actuators.reset
    lanes := Vector.ofFn (fun l => if l.val < 4 then
      { LaneUnit.reset with state := .stacking, openStack := some ⟨l.castLE (by omega), false, false, none⟩, nextSeq := 41 }
      else LaneUnit.reset)
    log := { slots := ((((Vector.replicate 32 Slot.free).set 0 (slot 0)).set 1 (slot 1)).set 2 (slot 2)).set 3 (slot 3), ready := [] } }
def dispositionsOf (s : State) : Option (List Disposition) :=
  (s.record 2310).map (fun r => [r.dispositions[(0 : Lane)], r.dispositions[(1 : Lane)], r.dispositions[(2 : Lane)], r.dispositions[(3 : Lane)]])
theorem test_verdict_in_time :
    let v := after (.verdict .inspection 2310 0x01 2) (after (.verdict .inspection 2310 0x04 5) fourStacking)
    let t := after (.decisionPosition 2310 [0, 1, 2, 3]) v
    (v.record 2310).map (fun r => (r.vision, r.defectClass, r.verdict)) = some (0x05, some 5, .received) ∧
    dispositionsOf t = some [.rejected .vision, .stacked 40, .rejected .vision, .stacked 40] ∧
    (t.lane 0).rejectEnd.map (·.value) = some 5072200 ∧ (t.gate 2).hold = some ⟨5072200, false⟩ := by decide +kernel
theorem test_verdict_late :
    let t := after (.decisionPosition 2310 [0, 1, 2, 3]) fourStacking
    let v := after (.verdict .inspection 2310 0x04 5) t
    dispositionsOf t = some (List.replicate 4 (.rejected .noVerdict)) ∧
    (v.link .inspection).slot = ⟨0x20, .late, .verdict 0 0x0F (some .awaited)⟩ ∧ v.map = t.map ∧
    v.cnt.lateVerdicts = 1 ∧ v.flag .line .lateVerdict = true := by decide +kernel
/-- Case C: lanes 1 and 2 decide before the verdict, 3 and 4 after it. -/
theorem test_verdict_between :
    let t := after (.decisionPosition 2310 [0, 1]) fourStacking
    let v := after (.verdict .inspection 2310 0x04 5) t
    (v.link .inspection).slot = ⟨0x20, .ok, .verdict 0x0C 0x03 (some .received)⟩ ∧ v.cnt.lateVerdicts = 0 ∧
    dispositionsOf (after (.decisionPosition 2310 [2, 3]) v) =
      some [.rejected .noVerdict, .rejected .noVerdict, .rejected .vision, .stacked 40] := by decide +kernel

/-- 06, a gate merge on a close pair. -/
theorem test_gate_merge :
    let at_ (stamp : Nat) := { struck 2311 stamp 5072000 with verdict := .received }
    gateMerges profile (at_ 5012500) (some (Fading.start 5000000 5072200)) = true ∧
    gateMerges profile (at_ 5027500) (some (Fading.start 5000000 5084700)) = false ∧
    joinHold 5072000 5072300 5084700 (some ⟨5072200, false⟩) = ⟨5084700, false⟩ := by decide +kernel

/-- 07, a stack change with gap and FINAL: decisions 3002 and 3007. -/
def changing (final : Bool) : State :=
  let s := (atBelt 6089800 (stackingAt 999 [])).setLane 0
    { busy.lane 0 with openStack := some ⟨0, false, final, some 6000000⟩, ejects := [] }
  s.setMap { s.map with records := [{ struck 2310 6030000 6089800 with verdict := .received }] }
theorem test_stack_change :
    let t := after (.decisionPosition 2310 [0]) (changing false)
    let u := after (.decisionPosition 2310 [0]) (changing true)
    ((t.lane 0).state = .changing ∧ (t.lane 0).gap = 2 ∧ (t.lane 0).ejects = [⟨0, 40, ⟨6133000, false⟩, false⟩] ∧
      t.slot 0 = .held .closed { stackOf 0 40 1000 (some .target) with last := some 2310 }) ∧
    (u.lane 0).state = .held ∧ (u.lane 0).gap = 0 := by decide +kernel

/-- 07, a gate fault and LANE_CLEAR. -/
theorem test_gate_fault :
    let s := (fourStacking.setGate 0 { fourStacking.gate 0 with hold := some ⟨5070000, false⟩ })
    let t := after (.senseLineChange (.gate 0) .low) s
    let refused := after (.laneClear .line 1) t
    let u := after (.laneClear .line 1) (after (.senseLineChange (.gate 0) .high) t)
    ((t.lane 0).state = .fault ∧ t.slot 0 = .free ∧ t.flag .delivery .laneFault = true ∧
      (t.lane 0).quarantine.map (fun q => (q.seq, q.target, q.count, q.suspect)) = some (40, 0, 10, true)) ∧
    (refused.link .line).slot = ⟨0x19, .faultActive, .none⟩ ∧
    (u.lane 0).state = .held ∧ u.log.ready = [0] ∧ (u.gate 0).latch = none ∧ (u.pusher 0).drive = .pulse 80 := by
  decide +kernel

/-- 08, the last free slots: rows 3, 5, 6, 8 and 9. -/
theorem test_last_slots :
    let t := after (.ackRecord .delivery 5 212) lastSlots
    let slotAfter (c : Instr) (s : State) := ((after c s).link .delivery).slot
    slotAfter (.fetchRecord .delivery 7) lastSlots = ⟨0x30, .empty, .number 3⟩ ∧
    (t.log.ready = [12, 3] ∧ t.slot 5 = .free ∧ (t.link .delivery).slot = ⟨0x31, .ok, .number 2⟩) ∧
    (slotAfter (.ackRecord .delivery 5 212) t).result = .unknown ∧
    (slotAfter (.ackRecord .delivery 30 80) t).result = .notReady ∧
    (slotAfter (.ackRecord .delivery 12 45) t).result = .unknown := by decide +kernel

/-- 09, a pusher overload during an eject; an open load found between rejects. -/
theorem test_pusher_overload :
    let t := after (.senseLineChange (.pusher 3) .low) pushing
    (t.pusher 3).drive = .latched ∧ (t.pusher 3).latch = some .overload ∧ (t.lane 3).state = .fault ∧
    (t.lane 3).pulseStack = none ∧ (t.slot 5).record?.map (·.ejectFault) = some true := by decide +kernel
theorem test_open_load :
    let t := after (.inactiveTimeElapsed (.gate 1)) (gateFilter .settling 0x02)
    let u := after (.openLoadLatch (.gate 1)) t
    t.filterOf (.gate 1) = .measuring ∧ u.latchOf (.gate 1) = some .opened ∧ (u.lane 1).state = .fault := by decide +kernel

/-- 10, the default profile fails validation on its confirm window; the requests of the lane change. -/
theorem test_commit_default :
    ((after (.commitProfile .line 0 0) State.reset).link .line).slot = ⟨0x12, .range, .fieldNamed 14⟩ := by decide +kernel
theorem test_lane_change :
    let s := busy.setReg { busy.reg with newest := some 5100, number := 5101 }
    let a := after (.setProfileField .line 34 3) s
    let b := after (.commitProfile .line 3 5120) a
    let c := after (.setProfileField .line 23 13000) b
    let d := after (.commitProfile .line 1 0) (after (.setProfileField .line 23 13000) s)
    b.prof.commit = some ⟨.atRepeat 5120, false⟩ ∧ (c.link .line).slot.result = .busy ∧
    (d.link .line).slot.result = .geometry ∧ d.prof.commit = none := by decide +kernel

/-- 10, a stop, and a stop that halts. -/
theorem test_stop :
    ((after (.setMode .line 2) busy).mode = .draining false ∧
      ((after (.setMode .line 2) (onFresh .setup)).link .line).slot = ⟨0x14, .mode, .none⟩) ∧
    (let t := after .stopInputActive busy
     let u := after .stopInputInactive t
     t.mode = .halt .stopInput ∧ t.flag .inspection .haltEntered = true ∧ t.map = busy.map ∧
     ((after (.resetTrack .line) t).link .line).slot.result = .state ∧
     (after (.resetTrack .line) u).mode = .setup ∧ ((after (.resetTrack .line) u).counts 0).lost = 2) := by decide +kernel

/-- 11, a delivery link exchange: the fetch, the acknowledgement, the short frame, the events not carried. -/
theorem test_fetch_words :
    ((after (.fetchRecord .delivery 0) lastSlots).link .delivery).slot.words =
      [0x300D, 0x48E5, 0x000B, 500, 212, 1000, 1000, 4096, 4097, 6, 0, 0, 0, 3] := by decide +kernel
theorem test_delivery_frames :
    let t := after (.selectAssert .delivery) (after (.brokenFrame .delivery ⟨32, [0x3102, 0x0003]⟩) lastSlots)
    let s := raiseEvent .recordReady lastSlots
    ((after (.ackRecord .delivery 5 212) lastSlots).link .delivery).slot.words = [0x3101, 0x0002] ∧
    (t.link .delivery).shiftedOut 3 = some [0x3160, 0, 0] ∧
    ((s.link .delivery).attn = true ∧ ((after (.ackEvents .delivery 1) s).link .delivery).attn = true ∧
      ((after (.ackEvents .delivery 0x00200000) s).link .delivery).attn = false) := by decide +kernel

/-- 11, Layouts: the words of repeat 2310 and of a snapshot's first page number. -/
theorem test_repeat_words :
    ((after (.readRepeat .line 2310 0) busy).link .line).slot.words =
      [0x050A, 2310, 0, 0, 0, 0, 76, 19264, 0x000F, 0x0020, 0] ∧
    ((after (.readRepeat .line 2310 1) (after (.readRepeat .line 2310 0) busy)).link .line).slot.words.take 5 =
      [0x0506, 76, 39264, 77, 13528] ∧
    ((after (.readStatus .line 0) busy).link .line).snapshotNo = 1 := by decide +kernel

/-- 11, the frame of the worked exchange that acknowledges slot 5, sequence 212, by its words; SET_MODE from a link outside
its set; after a device reset in mid-frame the first frame is not taken, the next one is. -/
theorem test_frames_are_read :
    exec (.brokenFrame .delivery ⟨48, [0x3102, 0x0005, 0x00D4]⟩) lastSlots = exec (.ackRecord .delivery 5 212) lastSlots ∧
    ((after (.brokenFrame .delivery ⟨32, [0x1401, 0x0000]⟩) lastSlots).link .delivery).slot = ⟨0x14, .denied, .none⟩ := by
  refine ⟨rfl, ?_⟩
  decide +kernel
theorem test_discarded_frame :
    let s := inFrame .discarded
    exec (.setMode .line 2) s = .next s ∧
    (after (.setMode .line 2) (after (.selectAssert .line) s)).mode = .draining false := by
  refine ⟨rfl, ?_⟩
  decide +kernel

/-- 11, the words of a status page: the snapshot number first. 10, RANGE beyond a named list, BUSY while a commit waits. -/
theorem test_status_words :
    ((after (.readStatus .line 0) busy).link .line).slot.words.take 2 = [0x0106, 1] ∧
    ((after (.setProfileField .line 4 2) busy).link .line).slot.result = .range ∧
    ((after (.setProfileField .line 4 1) (committing busy)).link .line).slot.result = .busy := by decide +kernel

/-- 08, R157: a reused slot that holds another lane's record of the same sequence is not flagged. -/
theorem test_reused_slot :
    let reused := pushing.setSlot 5 (.held .ready (stackOf 2 212 1000 (some .target)))
    let flagged (s : State) := ((after (.senseLineChange (.pusher 3) .low) s).slot 5).record?.map (·.ejectFault)
    flagged reused = some false ∧
    flagged (pushing.setSlot 5 (.held .ready (stackOf 3 212 1000 (some .target)))) = some true := by decide +kernel

/-- 08, the table of R148: an eject in DRY of a lane whose pusher is LATCHED is flagged EJECT_FAULT. -/
theorem test_dry_eject_latched :
    let flag (d : Drive) := ((after (.ejectPosition 3) (ejecting false d false .dry)).slot 1).record?.map (·.ejectFault)
    flag .latched = some true ∧ flag .free = some false := by decide +kernel
/-- 02, R19: a commit that changes the mark level lets the deferred expiry of a HELD window take effect. -/
theorem test_commit_releases_held :
    let t := after (.commitProfile .line 0 0) (holding lowered)
    t.reg.candidate = none ∧ t.reg.state = .coasting ∧ t.reg.lastEvent = some ⟨.coasted, 425000, 1203⟩ ∧
    t.cnt.misses = 1 ∧ t.cnt.shortMarks = 0 := by decide +kernel

end Sys2Proof.Tests
end

/-!
PROOFS. Skipped transitions and their counts (01, R2; read and cleared by the requests of R199 and R200).
-/

namespace Sys2Proof.Machine

/-! ## A request whose frame is taken -/

/-- A request of the link's set whose frame no device reset has discarded has its own effect (R192, R194). -/
theorem taken_of_whole {k : StationLink} {q : Request} {s : State} (body : State)
    (whole : (s.link k).phase ≠ .discarded) (allowed : q.allowedOn k = true) : taken k q s body = .next body := by
  have kept : s.discards k = false := by simpa [State.discards] using whole
  simp [taken, kept, allowed]

/-- The response of a request stands in the slot of its own link (R193). -/
theorem reply_slot (s : State) (k : StationLink) (q : Request) (res : Result) (p : Payload) :
    ((s.reply k q res p).link k).slot = ⟨q.code, res, p⟩ := by
  simp [State.reply, State.answer]

/-! ## The counts after each command -/

/-- The saturating increment stays at its bound once there (R2). -/
theorem satInc_eq (n : BitVec 16) : satInc n = if n = 65535 then 65535 else n + 1 := by
  by_cases full : n = 65535#16
  · simp [satInc, full]
  · simp [satInc, full]

/-- A web transition that was skipped moves its own count alone (R2). -/
theorem exec_skippedTransition_web (s : State) :
    exec (.skippedTransition .web) s = .next (s.setCnt { s.cnt with webSkips := satInc s.cnt.webSkips }) := rfl

/-- A belt transition that was skipped moves its own count alone (R2). -/
theorem exec_skippedTransition_belt (s : State) :
    exec (.skippedTransition .belt) s = .next (s.setCnt { s.cnt with beltSkips := satInc s.cnt.beltSkips }) := rfl

theorem exec_deviceReset (s : State) : exec .deviceReset s = .next (deviceReset s) := rfl

/-- Device reset leaves every count at 0, also where the STOP input then brings HALT (R190). -/
theorem deviceReset_cnt (s : State) : (deviceReset s).cnt = Counters.zero := by
  have zeroed : State.reset.cnt = Counters.zero := rfl
  cases stop : s.pins.stop <;> simp [deviceReset, stop, zeroed]

/-- CLEAR_COUNTERS, taken on the line link (R200). -/
theorem exec_clearCounters {s : State} (whole : (s.link .line).phase ≠ .discarded) :
    exec (.clearCounters .line) s = .next ((s.setCnt (clearedCounters s)).reply .line .clearCounters .ok
      (.labelsCut (allLanes.map (undecidedIn s.map.records)))) :=
  taken_of_whole _ whole (by decide)

/-- READ_COUNTERS of a group that exists, taken on the line link (R199). -/
theorem exec_readCounters {s : State} {n : Nat} {p : Payload} (whole : (s.link .line).phase ≠ .discarded)
    (group : s.cnt.group n = some p) :
    exec (.readCounters .line n) s = .next (s.reply .line .readCounters .ok p) := by
  have answered : exec (.readCounters .line n) s = .next _ := taken_of_whole _ whole (by decide)
  rw [answered, group]

/-- Group 0 holds the fault counts (R199). -/
theorem group_zero (c : Counters) : c.group 0 = some (.faultCounts c.faults) := rfl

/-! ## The obligation -/

/-- Settles O8: each part is the equation of its command, and neither the entry to HALT nor a reply moves a count. -/
theorem skippedTransitionsAreCounted : Obligations.SkippedTransitionsAreCounted := by
  intro s frames
  have whole : (s.link .line).phase ≠ .discarded := frames .line (by simp)
  refine ⟨?_, ?_, ⟨_, exec_deviceReset s, ?_⟩, ⟨_, exec_clearCounters whole, ?_⟩,
    ⟨_, exec_readCounters whole (group_zero s.cnt), ?_⟩⟩
  · rw [exec_skippedTransition_web, satInc_eq]
  · rw [exec_skippedTransition_belt, satInc_eq]
  · rw [deviceReset_cnt]
    exact ⟨rfl, rfl⟩
  · simp [clearedCounters, Counters.zero]
  · rw [reply_slot]
    rfl

end Sys2Proof.Machine

/-!
PROOFS. The rounding of the repeat length filter (R37) and of the scaled cut distance (03, R41).
-/

namespace Sys2Proof.Machine

/-! ## The filter step (R37) -/

@[simp] theorem filterStep_shift_zero (d : Int) : filterStep d 0 = d := by simp [filterStep]

theorem filterStep_of_nonneg {d : Int} {g : Nat} (shift : 1 ≤ g) (nonneg : 0 ≤ d) :
    filterStep d g = (d + 2 ^ (g - 1)) / 2 ^ g := by
  rw [filterStep, if_neg (by omega), if_pos nonneg]

theorem filterStep_of_neg {d : Int} {g : Nat} (shift : 1 ≤ g) (neg : d < 0) :
    filterStep d g = -((-d + 2 ^ (g - 1)) / 2 ^ g) := by
  rw [filterStep, if_neg (by omega), if_neg (by omega)]

/-- A difference of 0 or more is rounded by at most a half upwards and by less than a half downwards: its halves
go up. -/
theorem filterStep_error_of_nonneg {d : Int} (g : Nat) (nonneg : 0 ≤ d) :
    2 * (2 ^ g * filterStep d g - d) ≤ 2 ^ g ∧ -2 ^ g < 2 * (2 ^ g * filterStep d g - d) := by
  cases g with
  | zero => simp
  | succ n =>
    have pos : (0 : Int) < 2 ^ (n + 1) := by positivity
    have double : (2 : Int) ^ (n + 1) = 2 * 2 ^ n := pow_succ' 2 n
    have below := Int.mul_ediv_self_le (x := d + 2 ^ n) pos.ne'
    have above := Int.lt_mul_ediv_self_add (x := d + 2 ^ n) pos
    rw [filterStep_of_nonneg (by omega) nonneg, Nat.add_sub_cancel]
    constructor <;> linarith

@[simp] theorem filterStep_zero (g : Nat) : filterStep 0 g = 0 := by
  cases g with
  | zero => exact filterStep_shift_zero 0
  | succ n =>
    have half : (2 : Int) ^ n < 2 ^ (n + 1) := pow_lt_pow_right₀ (by decide) n.lt_succ_self
    rw [filterStep_of_nonneg (by omega) le_rfl, Nat.add_sub_cancel, zero_add]
    exact Int.ediv_eq_zero_of_lt (by positivity) half

/-- The rounding is symmetric (R37). -/
theorem filterStep_neg (d : Int) (g : Nat) : filterStep (-d) g = -filterStep d g := by
  rcases Nat.eq_zero_or_pos g with rfl | shift
  · simp only [filterStep_shift_zero]
  · rcases lt_trichotomy d 0 with neg | rfl | pos
    · rw [filterStep_of_nonneg shift (by omega), filterStep_of_neg shift neg, neg_neg]
    · simp
    · rw [filterStep_of_neg shift (by omega), filterStep_of_nonneg shift pos.le, neg_neg]

/-- A difference and its negation are rounded by the same distance and to the same size. -/
theorem filterStep_sizes_neg (d : Int) (g : Nat) :
    |2 ^ g * filterStep (-d) g - -d| = |2 ^ g * filterStep d g - d| ∧
    |2 ^ g * filterStep (-d) g| = |2 ^ g * filterStep d g| := by
  rw [filterStep_neg, mul_neg, neg_sub_neg, abs_sub_comm, abs_neg]
  exact ⟨rfl, rfl⟩

/-- The nearest integer, and of two equally near ones that away from zero (R37). -/
theorem filterStep_nearest (d : Int) (g : Nat) :
    2 * |2 ^ g * filterStep d g - d| ≤ 2 ^ g ∧
    (2 * |2 ^ g * filterStep d g - d| = 2 ^ g → |d| < |2 ^ g * filterStep d g|) := by
  wlog nonneg : 0 ≤ d generalizing d
  · have mirrored := this (-d) (by omega)
    obtain ⟨error, size⟩ := filterStep_sizes_neg d g
    rwa [error, size, abs_neg] at mirrored
  · obtain ⟨upper, lower⟩ := filterStep_error_of_nonneg g nonneg
    have pos : (0 : Int) < 2 ^ g := by positivity
    have size := le_abs_self (2 ^ g * filterStep d g)
    rw [abs_of_nonneg nonneg]
    rcases abs_cases (2 ^ g * filterStep d g - d) with ⟨error, -⟩ | ⟨error, -⟩ <;>
      exact ⟨by linarith, fun half => by linarith⟩

/-! ## The scaled cut distance (R41) -/

theorem scaledCutDistance_floor {pNom : Nat} (k pEff : Nat) (pos : 0 < pNom) :
    256 * pNom * scaledCutDistance k pEff pNom ≤ k * pEff + 128 * pNom ∧
    k * pEff + 128 * pNom < 256 * pNom * (scaledCutDistance k pEff pNom + 1) :=
  ⟨Nat.mul_div_le _ _, Nat.lt_mul_div_succ _ (by omega)⟩

/-- An effective repeat length equal to the nominal one leaves the cut distance as it is (R41). -/
theorem scaledCutDistance_nominal {pNom : Nat} (k : Nat) (pos : 0 < pNom) :
    scaledCutDistance k (pNom * 256) pNom = k := by
  have split : k * (pNom * 256) + 128 * pNom = 256 * pNom * k + 128 * pNom := by ring
  have half : 128 * pNom / (256 * pNom) = 0 := Nat.div_eq_of_lt (by omega)
  rw [scaledCutDistance, split, Nat.mul_add_div (by omega), half, Nat.add_zero]

/-! ## The obligation -/

/-- Settles O19: the filter step's nearness is shown for a difference of 0 or more and carried over by the symmetry. -/
theorem filterAndScaleRoundHalvesAsStated : Obligations.FilterAndScaleRoundHalvesAsStated := by
  refine ⟨fun d g => ?_, fun k pEff pNom pos => ?_⟩
  · obtain ⟨near, away⟩ := filterStep_nearest d g
    exact ⟨fun unshifted => unshifted ▸ filterStep_shift_zero d, filterStep_of_nonneg, filterStep_of_neg, near,
      away, filterStep_neg d g⟩
  · obtain ⟨atMost, next⟩ := scaledCutDistance_floor k pEff pos
    exact ⟨rfl, atMost, next, fun nominal => nominal ▸ scaledCutDistance_nominal k pos⟩

end Sys2Proof.Machine

/-!
PROOFS. The splice list and the splice detection (04, R56, R57; the splice mark of a waiting commit, R181).
-/

namespace Sys2Proof.Machine

/-! ## The splice list (R57) -/

/-- A zone takes its place after the zones whose start its own start has reached (R57). -/
theorem insertZone_eq_takeWhile_dropWhile (z : Zone) (zs : List Zone) :
    insertZone z zs = zs.takeWhile (fun y => atOrBeyond z.start y.start) ++
      z :: zs.dropWhile (fun y => atOrBeyond z.start y.start) := by
  induction zs with
  | nil => rfl
  | cons y ys ih =>
    by_cases reached : atOrBeyond z.start y.start = true
    · simp [insertZone, shortOf, reached, ih]
    · simp [insertZone, shortOf, reached]

/-- The merged zone in the order in which the statement compares the new zone with the last one (R57). -/
theorem mergeZones_eq (last z : Zone) :
    mergeZones last z =
      ⟨if atOrBeyond z.start last.start then last.start else z.start,
        if atOrBeyond z.stop last.stop then z.stop else last.stop⟩ := by
  by_cases reached : atOrBeyond z.start last.start = true <;> simp [mergeZones, shortOf, reached]

theorem splicesFull_eq_true {zs : List Zone} : splicesFull zs = true ↔ 4 ≤ zs.length := decide_eq_true_iff

theorem splicesFull_eq_false {zs : List Zone} : splicesFull zs = false ↔ zs.length < 4 := by
  rw [Bool.eq_false_iff, ne_eq, splicesFull_eq_true, not_le]

theorem addZone_of_room (z : Zone) {zs : List Zone} (room : splicesFull zs = false) :
    addZone z zs = insertZone z zs := by simp [addZone, room]

theorem addZone_of_full (z : Zone) {zs : List Zone} {last : Zone} (full : splicesFull zs = true)
    (ends : zs.getLast? = some last) :
    addZone z zs = insertZone (mergeZones last z) zs.dropLast := by simp [addZone, full, ends]

/-! ## The splice detection (R56) -/

/-- RUN, DRY and DRAINING are the modes other than SETUP and HALT. -/
theorem Mode.tracks_eq_true {m : Mode} : m.tracks = true ↔ m ≠ .setup ∧ m.isHalt = false := by
  cases m <;> simp [Mode.tracks, Mode.isHalt]

theorem Mode.tracks_eq_false {m : Mode} : m.tracks = false ↔ m = .setup ∨ m.isHalt = true := by
  cases m <;> simp [Mode.tracks, Mode.isHalt]

theorem exec_spliceDetection (s : State) :
    exec .spliceDetection s = .next (if s.mode.tracks then spliceSeen s else s) := rfl

theorem exec_spliceDetection_of_idle {s : State} (idle : s.mode.tracks = false) :
    exec .spliceDetection s = .next s := by simp [exec_spliceDetection, idle]

theorem exec_spliceDetection_of_tracks {s : State} (tracking : s.mode.tracks = true) :
    exec .spliceDetection s = .next (spliceSeen s) := by simp [exec_spliceDetection, tracking]

/-- A splice seen with room in the list is not merged (R57). -/
theorem spliceSeen_of_room {s : State} (room : splicesFull s.cut.splices = false) :
    spliceSeen s = raiseEvent .spliceSeen ((s.setProf (markSplice s.prof)).setCut
      { s.cut with splices := insertZone (spliceZone s.profile s.web) s.cut.splices }) := by
  rw [spliceSeen, addZone_of_room _ room, room]
  rfl

/-- A splice seen with the list full is merged with the last zone and reported as merged (R57). -/
theorem spliceSeen_of_full {s : State} {last : Zone} (full : splicesFull s.cut.splices = true)
    (ends : s.cut.splices.getLast? = some last) :
    spliceSeen s = raiseEvent .spliceMerged (raiseEvent .spliceSeen ((s.setProf (markSplice s.prof)).setCut
      { s.cut with
        splices := insertZone (mergeZones last (spliceZone s.profile s.web)) s.cut.splices.dropLast })) := by
  rw [spliceSeen, addZone_of_full _ full ends, full]
  rfl

/-! ## The obligation -/

/-- Settles O26: the mode decides whether the edge is taken, and the length of the list whether the zone is merged; the
place of a zone in the list is that of the insertion. -/
theorem spliceDetectionFormsAZone : Obligations.SpliceDetectionFormsAZone := by
  intro s
  refine ⟨fun idle => exec_spliceDetection_of_idle (Mode.tracks_eq_false.mpr idle),
    fun notSetup notHalt room => ?_, fun notSetup notHalt full last ends => ?_⟩
  · rw [exec_spliceDetection_of_tracks (Mode.tracks_eq_true.mpr ⟨notSetup, notHalt⟩),
      spliceSeen_of_room (splicesFull_eq_false.mpr room), insertZone_eq_takeWhile_dropWhile]
    rfl
  · rw [exec_spliceDetection_of_tracks (Mode.tracks_eq_true.mpr ⟨notSetup, notHalt⟩),
      spliceSeen_of_full (splicesFull_eq_true.mpr full) ends, mergeZones_eq, insertZone_eq_takeWhile_dropWhile]
    rfl

end Sys2Proof.Machine

/-!
PROOFS. The verdicts and the notices of the inspection link (05, R83; 06, R94 to R97).
-/

namespace Sys2Proof.Machine

/-! ## A request outside the rights of its link -/

/-- A request that is not in the link's set is answered DENIED and does nothing else (R192, R194). -/
theorem taken_of_denied {k : StationLink} {q : Request} {s : State} (body : State)
    (whole : (s.link k).phase ≠ .discarded) (denied : q.allowedOn k = false) :
    taken k q s body = .next (s.refuse k q .denied) := by
  have kept : s.discards k = false := by simpa [State.discards] using whole
  simp [taken, kept, denied]

/-- VERDICT and FETCH_NOTICE are in the set of the inspection link alone. -/
theorem inspection_allowedOn_of_ne {k : StationLink} (other : k ≠ .inspection) :
    Request.verdict.allowedOn k = false ∧ Request.fetchNotice.allowedOn k = false := by
  cases k with
  | line => decide
  | inspection => exact absurd rfl other
  | delivery => decide

theorem FramesWhole.link {s : State} (frames : FramesWhole s) (k : StationLink) : (s.link k).phase ≠ .discarded :=
  frames k (by cases k <;> simp)

/-! ## The record that a request names -/

theorem repeatNo_of_record {s : State} {n : RepeatNo} {r : RepeatRecord} (found : s.record n = some r) :
    r.repeatNo = n := by
  simpa using List.find?_some found

/-- The element that changes is the one that the search finds. -/
theorem updateFirst_of_find? {α : Type} {p : α → Bool} {x : α} {xs : List α} (f : α → α)
    (found : xs.find? p = some x) : updateFirst p f xs = updateFirst p (fun _ => f x) xs := by
  induction xs with
  | nil => rfl
  | cons y ys ih =>
    by_cases test : p y = true
    · have here : y = x := by simpa [test] using found
      subst here
      simp [updateFirst, test]
    · have later : ys.find? p = some x := by simpa [test] using found
      simp [updateFirst, test, ih later]

theorem updateRecord_of_record {s : State} {n : RepeatNo} {r : RepeatRecord} (f : RepeatRecord → RepeatRecord)
    (found : s.record n = some r) : s.updateRecord n f = s.updateRecord n (fun _ => f r) := by
  rw [State.updateRecord, updateFirst_of_find? f found, State.updateRecord]

/-! ## What a verdict writes (R95, R96) -/

/-- An absent class counts as 0, below which no class lies. -/
theorem higherClass_eq (old : Option Nat) (new : Nat) : higherClass old new = some (max (old.getD 0) new) := by
  cases old <;> simp [higherClass]

theorem VerdictState.taken_eq (v : VerdictState) : v.taken = if v = .awaited then .received else v := by
  cases v <;> rfl

/-- The record after a verdict, with the values of R95 written out. -/
theorem RepeatRecord.withVerdict_eq (r : RepeatRecord) (m : LaneSet) (c : Nat) :
    r.withVerdict m c = { r with
      vision := r.vision ||| (m &&& r.openLanes)
      defectClass := some (max (r.defectClass.getD 0) c)
      verdict := if r.verdict = .awaited then .received else r.verdict } := by
  rw [RepeatRecord.withVerdict, higherClass_eq, VerdictState.taken_eq]

theorem lateVerdict_eq (s : State) :
    lateVerdict s = raiseEvent .lateVerdict (s.setCnt { s.cnt with
      lateVerdicts := if s.cnt.lateVerdicts = 65535 then 65535 else s.cnt.lateVerdicts + 1 }) := by
  rw [lateVerdict, satInc_eq]

/-- Counting a late verdict and writing the record touch different blocks, so their order does not matter. -/
theorem lateVerdict_updateRecord (s : State) (n : RepeatNo) (f : RepeatRecord → RepeatRecord) :
    lateVerdict (s.updateRecord n f) = (lateVerdict s).updateRecord n f := rfl

/-! ## A verdict whose repeat is in the map (R95, R96) -/

section InMap

variable {k : StationLink} {r : RepeatRecord} {m : LaneSet} {c : Nat} {s : State}

theorem verdictInMap_of_decided (closed : r.openLanes = 0) :
    verdictInMap k r m c s = (lateVerdict s).reply k .verdict .late (.verdict 0 r.closedLanes (some r.verdict)) := by
  rw [verdictInMap, if_pos closed]

/-- A verdict that names no decided lane is not late, even where some lanes are decided. -/
theorem verdictInMap_of_inTime (undecided : r.openLanes ≠ 0) (inTime : m &&& r.closedLanes = 0) :
    verdictInMap k r m c s = (s.updateRecord r.repeatNo (fun q => q.withVerdict m c)).reply k .verdict .ok
      (.verdict r.openLanes r.closedLanes (some r.verdict.taken)) := by
  simp only [verdictInMap, if_neg undecided, if_pos inTime]

/-- A partly late verdict that names a decided lane is applied to the others, and counted as late. -/
theorem verdictInMap_of_partlyLate (undecided : r.openLanes ≠ 0) (partlyLate : m &&& r.closedLanes ≠ 0) :
    verdictInMap k r m c s =
      ((lateVerdict s).updateRecord r.repeatNo (fun q => q.withVerdict m c)).reply k .verdict .ok
        (.verdict r.openLanes r.closedLanes (some r.verdict.taken)) := by
  simp only [verdictInMap, if_neg undecided, if_neg partlyLate, lateVerdict_updateRecord]

end InMap

/-! ## A verdict by the class of its repeat (R94, R97) -/

section ByClass

variable {k : StationLink} {n : RepeatNo} {m : LaneSet} {c : BitVec 8} {s : State}

theorem verdict_of_range (beyond : 15 < c.toNat) : verdict k n m c s = s.refuse k .verdict .range := by
  rw [verdict, if_pos beyond]

theorem verdict_of_record {r : RepeatRecord} (inRange : c.toNat ≤ 15) (found : s.record n = some r) :
    verdict k n m c s = verdictInMap k r m c.toNat s := by
  rw [verdict, if_neg (Nat.not_lt.mpr inRange), found]

theorem verdict_of_gone (inRange : c.toNat ≤ 15) (absent : s.record n = none) (gone : s.classOf n = .gone) :
    verdict k n m c s = (lateVerdict s).reply k .verdict .late (.verdict 0 0 none) := by
  rw [verdict, if_neg (Nat.not_lt.mpr inRange), absent, gone]

theorem verdict_of_unknown (inRange : c.toNat ≤ 15) (absent : s.record n = none) (known : s.classOf n ≠ .gone) :
    verdict k n m c s = s.refuse k .verdict .unknown := by
  rw [verdict, if_neg (Nat.not_lt.mpr inRange), absent]
  cases place : s.classOf n with
  | gone => exact absurd place known
  | inMap | pending | notYet | far => rfl

end ByClass

/-! ## The rows -/

theorem exec_verdict {s : State} (frames : FramesWhole s) (n : RepeatNo) (m : LaneSet) (c : BitVec 8) :
    exec (.verdict .inspection n m c) s = .next (verdict .inspection n m c s) :=
  taken_of_whole _ (frames.link .inspection) (by decide)

theorem exec_verdict_of_ne {s : State} {k : StationLink} (frames : FramesWhole s) (other : k ≠ .inspection)
    (n : RepeatNo) (m : LaneSet) (c : BitVec 8) :
    exec (.verdict k n m c) s = .next (s.refuse k .verdict .denied) :=
  taken_of_denied _ (frames.link k) (inspection_allowedOn_of_ne other).1

theorem exec_fetchNotice_of_ne {s : State} {k : StationLink} (frames : FramesWhole s) (other : k ≠ .inspection) :
    exec (.fetchNotice k) s = .next (s.refuse k .fetchNotice .denied) :=
  taken_of_denied _ (frames.link k) (inspection_allowedOn_of_ne other).2

/-- FETCH_NOTICE without a notice (R83). -/
theorem exec_fetchNotice_of_nil {s : State} (frames : FramesWhole s) (nothing : s.map.notices = []) :
    exec (.fetchNotice .inspection) s = .next (s.refuse .inspection .fetchNotice .empty) := by
  have answered : exec (.fetchNotice .inspection) s = .next _ :=
    taken_of_whole _ (frames.link .inspection) (by decide)
  rw [answered, nothing]

/-- FETCH_NOTICE takes the oldest notice and says how many are left (R83). -/
theorem exec_fetchNotice_of_cons {s : State} {n : Notice} {rest : List Notice} (frames : FramesWhole s)
    (waiting : s.map.notices = n :: rest) :
    exec (.fetchNotice .inspection) s =
      .next ((s.setMap { s.map with notices := rest }).reply .inspection .fetchNotice .ok (.notice n rest.length)) := by
  have answered : exec (.fetchNotice .inspection) s = .next _ :=
    taken_of_whole _ (frames.link .inspection) (by decide)
  rw [answered, waiting]

/-! ## The obligation -/

/-- Settles O51: the class of the repeat decides the answer to a verdict, and for a repeat in the map the undecided
lanes decide whether the record is written, the decided ones whether the verdict counts as late. -/
theorem verdictsReachUndecidedLanes : Obligations.VerdictsReachUndecidedLanes := by
  intro s frames
  refine ⟨fun n m c => ?_, exec_fetchNotice_of_nil frames, fun n rest => exec_fetchNotice_of_cons frames⟩
  rw [exec_verdict frames n m c, ← lateVerdict_eq]
  refine ⟨fun k other => ⟨exec_verdict_of_ne frames other n m c, exec_fetchNotice_of_ne frames other⟩,
    fun beyond => by rw [verdict_of_range beyond],
    fun inRange absent => ⟨fun gone => by rw [verdict_of_gone inRange absent gone],
      fun known => by rw [verdict_of_unknown inRange absent known]⟩,
    fun inRange r found => ?_⟩
  obtain rfl : r.repeatNo = n := repeatNo_of_record found
  have foundLate : (lateVerdict s).record r.repeatNo = some r := found
  rw [verdict_of_record inRange found]
  refine ⟨fun closed => ?_, fun undecided inTime => ?_, fun undecided partlyLate => ?_⟩
  · rw [verdictInMap_of_decided closed]
    rfl
  · rw [verdictInMap_of_inTime undecided inTime, updateRecord_of_record _ found, RepeatRecord.withVerdict_eq,
      VerdictState.taken_eq]
    rfl
  · rw [verdictInMap_of_partlyLate undecided partlyLate, updateRecord_of_record _ foundLate,
      RepeatRecord.withVerdict_eq, VerdictState.taken_eq]
    rfl

end Sys2Proof.Machine

/-!
PROOFS. LINE_REJECT of the line link (06, R100 to R103; 04, R54, R55). The model takes the repeats of the run one after
another; `condemnAll` is what they do together.
-/

namespace Sys2Proof.Machine

/-! ## The run (R100) -/

/-- A repeat number belongs to the run when it lies fewer than `count` repeats beyond the first. -/
theorem mem_rejectRun {first n : RepeatNo} {count : Nat} (short : count ≤ 256) :
    n ∈ rejectRun first count ↔ (n - first).toNat < count := by
  simp only [rejectRun, List.mem_map, List.mem_range]
  constructor
  · rintro ⟨i, within, rfl⟩
    rw [add_sub_cancel_left, BitVec.toNat_ofNat]
    omega
  · intro within
    refine ⟨(n - first).toNat, within, ?_⟩
    rw [BitVec.ofNat_toNat, BitVec.setWidth_eq, add_sub_cancel]

@[simp] theorem rejectRun_length (first : RepeatNo) (count : Nat) : (rejectRun first count).length = count := by
  simp [rejectRun]

/-! ## The first element of a list that has a key -/

/-- Where the keys differ, changing the first element with a key changes every element with it. -/
theorem updateFirst_eq_map {α β : Type} [BEq β] [LawfulBEq β] (key : α → β) (k : β) (f : α → α) {xs : List α}
    (distinct : (xs.map key).Nodup) :
    updateFirst (fun x => key x == k) f xs = xs.map (fun x => if key x == k then f x else x) := by
  induction xs with
  | nil => rfl
  | cons x xs ih =>
    obtain ⟨fresh, distinct⟩ := List.nodup_cons.mp distinct
    by_cases here : key x = k
    · have kept : ∀ y ∈ xs, (if key y == k then f y else y) = id y := fun y held => by
        have other : key y ≠ k := fun same => fresh (here.trans same.symm ▸ List.mem_map_of_mem held)
        simp [other]
      simp [updateFirst, here, List.map_congr_left kept]
    · simp [updateFirst, here, ih distinct]

@[simp] theorem updateFirst_id {α : Type} (p : α → Bool) (xs : List α) : updateFirst p id xs = xs := by
  induction xs with
  | nil => rfl
  | cons x xs ih => by_cases test : p x = true <;> simp [updateFirst, test, ih]

/-- Nothing changes where the change leaves the element found as it is. -/
theorem updateFirst_of_fixed {α : Type} {p : α → Bool} {f : α → α} {x : α} {xs : List α}
    (found : xs.find? p = some x) (fixed : f x = x) : updateFirst p f xs = xs :=
  calc updateFirst p f xs
      = updateFirst p (fun _ => x) xs := by rw [updateFirst_of_find? f found, fixed]
    _ = updateFirst p id xs := (updateFirst_of_find? id found).symm
    _ = xs := updateFirst_id p xs

/-! ## The reachable lanes (R101) -/

theorem LaneSet.ofTest_and (m : LaneSet) (p : Lane → Bool) :
    LaneSet.ofTest (fun l => LaneSet.has m l && p l) = m &&& LaneSet.ofTest p := by
  refine BitVec.eq_of_getLsbD_eq (fun i bound => ?_)
  calc (LaneSet.ofTest (fun l => LaneSet.has m l && p l)).getLsbD i
      = (LaneSet.has m ⟨i, bound⟩ && p ⟨i, bound⟩) := has_ofTest _ ⟨i, bound⟩
    _ = (m.getLsbD i && (LaneSet.ofTest p).getLsbD i) := congrArg _ (has_ofTest p ⟨i, bound⟩).symm
    _ = (m &&& LaneSet.ofTest p).getLsbD i := BitVec.getLsbD_and.symm

/-- The record with the reachable lanes of a request joined into its line lanes (R101). -/
def RepeatRecord.withLine (r : RepeatRecord) (m : LaneSet) : RepeatRecord :=
  { r with lineLanes := r.lineLanes ||| (m &&& r.openLanes) }

@[simp] theorem RepeatRecord.withLine_repeatNo (r : RepeatRecord) (m : LaneSet) :
    (r.withLine m).repeatNo = r.repeatNo := rfl

@[simp] theorem RepeatRecord.withLine_openLanes (r : RepeatRecord) (m : LaneSet) :
    (r.withLine m).openLanes = r.openLanes := rfl

/-- A second join of the same lanes adds nothing. -/
@[simp] theorem RepeatRecord.withLine_withLine (r : RepeatRecord) (m : LaneSet) :
    (r.withLine m).withLine m = r.withLine m := by
  have joined : (r.lineLanes ||| m &&& r.openLanes) ||| m &&& r.openLanes = r.lineLanes ||| m &&& r.openLanes := by
    rw [BitVec.or_assoc, BitVec.or_self]
  exact congrArg (fun lanes => { r with lineLanes := lanes }) joined

/-- A record without a reachable lane stays as it is. -/
theorem RepeatRecord.withLine_of_unreachable {r : RepeatRecord} {m : LaneSet} (unreachable : m &&& r.openLanes = 0) :
    r.withLine m = r := by
  simp [RepeatRecord.withLine, unreachable]

/-! ## The holders of a set of repeats, written at once (R55, R101) -/

/-- The records of the map and the pending cuts, replaced. -/
def State.withHolders (s : State) (records : List RepeatRecord) (schedule queue : List Cut) : State :=
  (s.setMap { s.map with records := records }).setCut { s.cut with schedule := schedule, queue := queue }

/-- A record takes the request when its repeat is named. -/
def RepeatRecord.condemned (named : RepeatNo → Bool) (m : LaneSet) (r : RepeatRecord) : RepeatRecord :=
  if named r.repeatNo then r.withLine m else r

/-- A pending cut takes the request when its repeat is named and not in the map, which R93 asks first. -/
def State.condemned (s : State) (named : RepeatNo → Bool) (m : LaneSet) (c : Cut) : Cut :=
  if named c.repeatNo && (s.record c.repeatNo).isNone then { c with lineLanes := c.lineLanes ||| m } else c

/-- Every holder of a named repeat takes the request. -/
def condemnAll (named : RepeatNo → Bool) (m : LaneSet) (s : State) : State :=
  s.withHolders (s.map.records.map (RepeatRecord.condemned named m)) (s.cut.schedule.map (s.condemned named m))
    (s.cut.queue.map (s.condemned named m))

section Condemned

variable (named other : RepeatNo → Bool) (m : LaneSet) (s : State)

@[simp] theorem State.withHolders_self : s.withHolders s.map.records s.cut.schedule s.cut.queue = s := rfl

@[simp] theorem RepeatRecord.condemned_repeatNo (r : RepeatRecord) :
    (r.condemned named m).repeatNo = r.repeatNo := by
  unfold RepeatRecord.condemned
  split <;> rfl

@[simp] theorem RepeatRecord.condemned_openLanes (r : RepeatRecord) :
    (r.condemned named m).openLanes = r.openLanes := by
  unfold RepeatRecord.condemned
  split <;> rfl

@[simp] theorem State.condemned_repeatNo (c : Cut) : (s.condemned named m c).repeatNo = c.repeatNo := by
  unfold State.condemned
  split <;> rfl

@[simp] theorem condemnAll_record (n : RepeatNo) :
    (condemnAll named m s).record n = (s.record n).map (RepeatRecord.condemned named m) := by
  simp [State.record, condemnAll, State.withHolders, List.find?_map]

@[simp] theorem condemnAll_cutPending (n : RepeatNo) : (condemnAll named m s).cutPending n = s.cutPending n := by
  simp [State.cutPending, condemnAll, State.withHolders, Function.comp_def]

@[simp] theorem condemnAll_classOf (n : RepeatNo) : (condemnAll named m s).classOf n = s.classOf n := by
  simp [State.classOf, show (condemnAll named m s).reg = s.reg from rfl]

theorem condemnAll_distinct {s : State} (distinct : RecordsDistinct s) : RecordsDistinct (condemnAll named m s) := by
  simpa [RecordsDistinct, condemnAll, State.withHolders, Function.comp_def] using distinct

theorem RepeatRecord.condemned_condemned (r : RepeatRecord) :
    (r.condemned named m).condemned other m = r.condemned (fun n => named n || other n) m := by
  cases first : named r.repeatNo <;> cases second : other r.repeatNo <;>
    simp [RepeatRecord.condemned, first, second]

theorem State.condemned_condemned (c : Cut) :
    (condemnAll named m s).condemned other m (s.condemned named m c) =
      s.condemned (fun n => named n || other n) m c := by
  cases first : named c.repeatNo <;> cases second : other c.repeatNo <;> cases held : s.record c.repeatNo <;>
    simp [State.condemned, first, second, held, BitVec.or_assoc]

/-- Two sets of repeats, one after the other, are their union. -/
theorem condemnAll_condemnAll :
    condemnAll other m (condemnAll named m s) = condemnAll (fun n => named n || other n) m s := by
  have records (rs : List RepeatRecord) :
      (rs.map (RepeatRecord.condemned named m)).map (RepeatRecord.condemned other m) =
        rs.map (RepeatRecord.condemned (fun n => named n || other n) m) := by
    simp [Function.comp_def, RepeatRecord.condemned_condemned]
  have cuts (cs : List Cut) :
      (cs.map (s.condemned named m)).map ((condemnAll named m s).condemned other m) =
        cs.map (s.condemned (fun n => named n || other n) m) := by
    simp [Function.comp_def, State.condemned_condemned]
  calc condemnAll other m (condemnAll named m s)
      = s.withHolders ((s.map.records.map (RepeatRecord.condemned named m)).map (RepeatRecord.condemned other m))
          ((s.cut.schedule.map (s.condemned named m)).map ((condemnAll named m s).condemned other m))
          ((s.cut.queue.map (s.condemned named m)).map ((condemnAll named m s).condemned other m)) := rfl
    _ = condemnAll (fun n => named n || other n) m s := by rw [records, cuts, cuts, condemnAll]

@[simp] theorem condemnAll_nothing : condemnAll (fun _ => false) m s = s := by
  have record : RepeatRecord.condemned (fun _ => false) m = id := rfl
  have cut : s.condemned (fun _ => false) m = id := rfl
  simp [condemnAll, record, cut]

end Condemned

/-! ## One repeat of the run, by its class (R93) -/

section OneRepeat

variable {m : LaneSet} {n : RepeatNo} {s : State} {r : RepeatRecord}

/-- A repeat in the map is written in its record alone (R101). -/
theorem condemnAll_of_record (distinct : RecordsDistinct s) (found : s.record n = some r) :
    condemnAll (· == n) m s = s.updateRecord n (fun q => q.withLine m) := by
  have cut : s.condemned (· == n) m = id := by
    funext c
    by_cases same : c.repeatNo = n <;> simp [State.condemned, same, found]
  have record := updateFirst_eq_map RepeatRecord.repeatNo n (fun q => q.withLine m) distinct
  rw [condemnAll, cut, List.map_id, List.map_id, State.updateRecord, record]
  rfl

/-- A repeat in the map none of whose lanes is reachable has nothing to write (R101). -/
theorem updateRecord_of_unreachable (found : s.record n = some r) (unreachable : m &&& r.openLanes = 0) :
    s.updateRecord n (fun q => q.withLine m) = s := by
  rw [State.updateRecord, updateFirst_of_fixed found (RepeatRecord.withLine_of_unreachable unreachable)]
  rfl

/-- A repeat outside the map is written in its pending cuts, of which there may be none (R55). -/
theorem condemnAll_of_absent (absent : s.record n = none) : condemnAll (· == n) m s = condemnCut n m s := by
  have record : s.map.records.map (RepeatRecord.condemned (· == n) m) = s.map.records := by
    refine (List.map_congr_left (g := id) fun q held => ?_).trans (List.map_id _)
    simp [RepeatRecord.condemned, List.find?_eq_none.mp absent q held]
  have cut : s.condemned (· == n) m = fun c => c.withLine n m := by
    funext c
    by_cases same : c.repeatNo = n <;> simp [State.condemned, Cut.withLine, same, absent]
  rw [condemnAll, record, cut]
  rfl

theorem condemnCut_of_not_pending (missing : s.cutPending n = false) : condemnCut n m s = s := by
  obtain ⟨schedule, queue⟩ := Bool.or_eq_false_iff.mp missing
  have kept (cs : List Cut) (free : cs.any (fun c => c.repeatNo == n) = false) :
      cs.map (fun c => c.withLine n m) = cs := by
    refine (List.map_congr_left (g := id) fun c held => ?_).trans (List.map_id _)
    simp [Cut.withLine, List.any_eq_false.mp free c held]
  rw [condemnCut, kept _ schedule, kept _ queue]
  rfl

end OneRepeat

/-! ## The counts of a request (R100 to R103) -/

/-- The repeat is applied now: a lane of its record is reachable, or its cut is pending (R101). -/
def State.appliesNow (s : State) (m : LaneSet) (n : RepeatNo) : Bool :=
  match s.record n with
  | some r => m &&& r.openLanes != 0
  | none => s.cutPending n

/-- The repeat is too late: neither applied now nor in the future part (R101, R103). -/
def State.tooLate (s : State) (m : LaneSet) (n : RepeatNo) : Bool :=
  !s.appliesNow m n && s.classOf n != .notYet

section Counts

variable {m : LaneSet} {n : RepeatNo} {s : State} {r : RepeatRecord}

theorem appliesNow_of_record (found : s.record n = some r) : s.appliesNow m n = (m &&& r.openLanes != 0) := by
  rw [State.appliesNow, found]

theorem appliesNow_of_absent (absent : s.record n = none) : s.appliesNow m n = s.cutPending n := by
  rw [State.appliesNow, absent]

theorem classOf_of_record (found : s.record n = some r) : s.classOf n = .inMap := by
  simp [State.classOf, found]

theorem classOf_eq_pending (absent : s.record n = none) : s.classOf n = .pending ↔ s.cutPending n = true := by
  cases pending : s.cutPending n with
  | true => simp [State.classOf, absent, pending]
  | false =>
    refine iff_of_false ?_ Bool.false_ne_true
    rw [State.classOf, absent, pending]
    cases s.reg.newest with
    | none => simp
    | some newest =>
      by_cases past : n = newest ∨ behind n newest
      · simp [past]
      · by_cases ahead : behind newest n <;> simp [past, ahead]

/-- A repeat that is applied now is not in the future part. -/
theorem classOf_ne_notYet_of_appliesNow (applied : s.appliesNow m n = true) : s.classOf n ≠ .notYet := by
  cases found : s.record n with
  | some r => simp [classOf_of_record found]
  | none =>
    rw [appliesNow_of_absent found] at applied
    simp [(classOf_eq_pending found).mpr applied]

@[simp] theorem condemnAll_appliesNow (named : RepeatNo → Bool) :
    (condemnAll named m s).appliesNow m n = s.appliesNow m n := by
  cases found : s.record n <;> simp [State.appliesNow, found]

@[simp] theorem condemnAll_tooLate (named : RepeatNo → Bool) :
    (condemnAll named m s).tooLate m n = s.tooLate m n := by
  simp [State.tooLate]

/-- One repeat of the run: its holders are written and it is counted once. -/
theorem rejectRepeat_eq (distinct : RecordsDistinct s) (t : RejectTally) :
    rejectRepeat m n (s, t) = (condemnAll (· == n) m s,
      ⟨t.applied + if s.appliesNow m n then 1 else 0, t.late + if s.tooLate m n then 1 else 0⟩) := by
  cases found : s.record n with
  | some r =>
    rw [condemnAll_of_record distinct found, State.tooLate, appliesNow_of_record found, classOf_of_record found]
    by_cases unreachable : m &&& r.openLanes = 0#8
    · simp [rejectRepeat, found, unreachable, updateRecord_of_unreachable found unreachable]
    · simp [rejectRepeat, found, unreachable, RepeatRecord.withLine]
  | none =>
    rw [condemnAll_of_absent found, State.tooLate, appliesNow_of_absent found]
    cases pending : s.cutPending n with
    | true => simp [rejectRepeat, found, pending]
    | false =>
      rw [condemnCut_of_not_pending pending]
      by_cases future : s.classOf n = .notYet <;> simp [rejectRepeat, found, pending, future]

/-- The repeats of a run, one after another, are written at once and counted by their tests (R100). -/
theorem foldl_rejectRepeat (run : List RepeatNo) (distinct : RecordsDistinct s) (t : RejectTally) :
    run.foldl (fun p n => rejectRepeat m n p) (s, t) = (condemnAll (fun n => decide (n ∈ run)) m s,
      ⟨t.applied + run.countP (s.appliesNow m), t.late + run.countP (s.tooLate m)⟩) := by
  induction run generalizing s t with
  | nil => simp
  | cons n ns ih =>
    have named : (fun x => x == n || decide (x ∈ ns)) = fun x => decide (x ∈ n :: ns) := by
      funext x
      simp [Bool.beq_eq_decide_eq]
    have applied : (condemnAll (· == n) m s).appliesNow m = s.appliesNow m := by
      funext x
      simp
    have late : (condemnAll (· == n) m s).tooLate m = s.tooLate m := by
      funext x
      simp
    rw [List.foldl_cons, rejectRepeat_eq distinct, ih (condemnAll_distinct _ _ distinct), condemnAll_condemnAll,
      named, applied, late]
    simp only [List.countP_cons, Nat.add_assoc, Nat.add_comm (List.countP _ ns)]

/-- Each repeat of a run is counted once (R103). -/
theorem counts_sum (run : List RepeatNo) (m : LaneSet) (s : State) :
    run.countP (s.appliesNow m) + (s.futurePart run).length + run.countP (s.tooLate m) = run.length := by
  induction run with
  | nil => rfl
  | cons n ns ih =>
    have once : (if s.appliesNow m n then 1 else 0) + (if s.classOf n == .notYet then 1 else 0) +
        (if s.tooLate m n then 1 else 0) = 1 := by
      cases applied : s.appliesNow m n with
      | true => simp [State.tooLate, applied, classOf_ne_notYet_of_appliesNow applied]
      | false => by_cases future : s.classOf n = .notYet <;> simp [State.tooLate, applied, future]
    simp only [State.futurePart, ← List.countP_eq_length_filter, List.countP_cons, List.length_cons] at ih ⊢
    omega

end Counts

/-! ## The request (R100) -/

/-- LINE_REJECT is in the set of the line link alone. -/
theorem lineReject_allowedOn_of_ne {k : StationLink} (other : k ≠ .line) : Request.lineReject.allowedOn k = false := by
  cases k with
  | line => exact absurd rfl other
  | inspection => decide
  | delivery => decide

theorem exec_lineReject_of_ne {s : State} {k : StationLink} (frames : FramesWhole s) (other : k ≠ .line)
    (first : RepeatNo) (count : Nat) (m : LaneSet) :
    exec (.lineReject k first count m) s = .next (s.refuse k .lineReject .denied) :=
  taken_of_denied _ (frames.link k) (lineReject_allowedOn_of_ne other)

theorem exec_lineReject {s : State} (frames : FramesWhole s) (first : RepeatNo) (count : Nat) (m : LaneSet) :
    exec (.lineReject .line first count m) s = .next (lineReject .line first count m s) :=
  taken_of_whole _ (frames.link .line) (by decide)

section Request

variable {k : StationLink} {first : RepeatNo} {count : Nat} {m : LaneSet} {s : State}

theorem lineReject_of_range (outside : count = 0 ∨ 256 < count ∨ m = 0) :
    lineReject k first count m s = s.refuse k .lineReject .range := by
  rw [lineReject, if_pos outside]

theorem lineReject_of_far (far : (rejectRun first count).any (fun n => s.classOf n == .far) = true) :
    lineReject k first count m s = s.refuse k .lineReject .range := by
  rw [lineReject, if_pos far, ite_self]

theorem lineReject_of_near (inside : ¬(count = 0 ∨ 256 < count ∨ m = 0))
    (near : (rejectRun first count).any (fun n => s.classOf n == .far) = false) :
    lineReject k first count m s = applyLineReject k (rejectRun first count) m s := by
  rw [lineReject, if_neg inside, near, if_neg Bool.false_ne_true]

/-- A future part that is not empty becomes the line-reject range (R54, R102). -/
theorem takeFuture_eq (future : List RepeatNo) :
    takeFuture future m s = s.setCut { s.cut with range := match future with
      | [] => s.cut.range
      | n :: _ => ⟨n, future.length, m⟩ } := by
  cases future <;> rfl

/-- A request that is taken: its holders are written, its future part becomes the range, and its answer counts each
repeat once (R100 to R103). -/
theorem applyLineReject_eq (run : List RepeatNo) (distinct : RecordsDistinct s) :
    applyLineReject k run m s = (takeFuture (s.futurePart run) m (condemnAll (fun n => decide (n ∈ run)) m s)).reply
      k .lineReject .ok (.lineRejected (run.countP (s.appliesNow m)) (s.futurePart run).length
        (run.length - run.countP (s.appliesNow m) - (s.futurePart run).length)) := by
  have late := counts_sum run m s
  simp only [applyLineReject, foldl_rejectRepeat run distinct, Nat.zero_add]
  congr 2
  omega

end Request

/-! ## The obligation -/

/-- The reachable lanes in the words of the statement. -/
theorem RepeatRecord.condemned_eq (named : RepeatNo → Bool) (m : LaneSet) :
    RepeatRecord.condemned named m = fun r => if named r.repeatNo then { r with
      lineLanes := r.lineLanes ||| LaneSet.ofTest (fun l => LaneSet.has m l && r.undecided l) } else r := by
  funext r
  rw [LaneSet.ofTest_and]
  rfl

/-- Settles O50: the holders that the repeats of the run reach one after another are those that the statement names at
once, and the repeats that are neither applied now nor taken into the range are the late ones. -/
theorem lineRejectCondemnsItsRun : Obligations.LineRejectCondemnsItsRun := by
  intro first count m s frames distinct
  rw [exec_lineReject frames]
  refine ⟨fun k other => exec_lineReject_of_ne frames other first count m,
    fun outside => by rw [lineReject_of_range outside],
    fun far => by rw [lineReject_of_far far],
    fun atLeast atMost lanes near => ?_⟩
  intro joins condemned now t
  have named : (fun n => decide (n ∈ rejectRun first count)) = fun n => decide ((n - first).toNat < count) := by
    funext n
    exact decide_eq_decide.mpr (mem_rejectRun atMost)
  have applied : now.length = (rejectRun first count).countP (s.appliesNow m) := by
    rw [List.countP_eq_length_filter]
    refine congrArg List.length (List.filter_congr fun n _ => ?_)
    cases found : s.record n with
    | some r => rw [appliesNow_of_record found, RepeatRecord.openLanes, ← LaneSet.ofTest_and]
    | none => rw [appliesNow_of_absent found, Bool.eq_iff_iff, beq_iff_eq, classOf_eq_pending found]
  have written : t = takeFuture (s.futurePart (rejectRun first count)) m
      (condemnAll (fun n => decide (n ∈ rejectRun first count)) m s) := by
    rw [takeFuture_eq, named, condemnAll, RepeatRecord.condemned_eq]
    rfl
  have inside : ¬(count = 0 ∨ 256 < count ∨ m = 0) := by
    rintro (none | many | empty)
    exacts [by omega, by omega, lanes empty]
  rw [lineReject_of_near inside near, applyLineReject_eq _ distinct, rejectRun_length, applied, written]
  rfl

end Sys2Proof.Machine

/-!
PROOFS. The stack orders of a lane on the line link: QUEUE_ORDER (07, R121), CANCEL_ORDER of a queued order (R132) and
LANE_RESUME (R135).
-/

namespace Sys2Proof.Machine

/-! ## The rights and the lane operand -/

/-- QUEUE_ORDER, LANE_RESUME and CANCEL_ORDER are in the set of the line link alone. -/
theorem orders_allowedOn_of_ne {k : StationLink} (other : k ≠ .line) :
    Request.queueOrder.allowedOn k = false ∧ Request.laneResume.allowedOn k = false ∧
      Request.cancelOrder.allowedOn k = false := by
  cases k with
  | line => exact absurd rfl other
  | inspection => decide
  | delivery => decide

theorem orders_denied_of_ne {s : State} {k : StationLink} (frames : FramesWhole s) (other : k ≠ .line) (lane : Nat)
    (tag : BitVec 8) (job target : Nat) (nogap final : Bool) :
    exec (.queueOrder k lane tag job target nogap final) s = .next (s.refuse k .queueOrder .denied) ∧
      exec (.laneResume k lane) s = .next (s.refuse k .laneResume .denied) ∧
      exec (.cancelOrder k lane tag) s = .next (s.refuse k .cancelOrder .denied) := by
  obtain ⟨queue, resume, cancel⟩ := orders_allowedOn_of_ne other
  exact ⟨taken_of_denied _ (frames.link k) queue, taken_of_denied _ (frames.link k) resume,
    taken_of_denied _ (frames.link k) cancel⟩

/-! ## QUEUE_ORDER (R121) -/

section QueueOrder

variable {k : StationLink} {l : Lane} {lane : Nat} {tag : BitVec 8} {job target : Nat} {nogap final : Bool} {s : State}

theorem exec_queueOrder (frames : FramesWhole s) :
    exec (.queueOrder .line lane tag job target nogap final) s =
      .next (queueOrder .line lane tag job target nogap final s) :=
  taken_of_whole _ (frames.link .line) (by decide)

theorem queueOrder_of_noLane (outside : lane < 1 ∨ 8 < lane) :
    queueOrder k lane tag job target nogap final s = s.refuse k .queueOrder .range := by
  rw [queueOrder, (laneOf_eq_none lane).mpr outside]

theorem queueOrder_of_range (outside : target < 1 ∨ 4000 < target ∨ 65535 < job) :
    queueOrder k (l.val + 1) tag job target nogap final s = s.refuse k .queueOrder .range := by
  have test : ¬(1 ≤ target ∧ target ≤ 4000 ∧ job ≤ 65535) := by omega
  simp only [queueOrder, laneOf_succ, if_neg test]

/-- Operands in range leave the length of the lane's queue as the only test. -/
theorem queueOrder_of_inRange (low : 1 ≤ target) (high : target ≤ 4000) (number : job ≤ 65535) :
    queueOrder k (l.val + 1) tag job target nogap final s =
      queueOrderOn k l ⟨tag, BitVec.ofNat 16 job, target, nogap, final⟩ s := by
  have test : 1 ≤ target ∧ target ≤ 4000 ∧ job ≤ 65535 := ⟨low, high, number⟩
  simp only [queueOrder, laneOf_succ, if_pos test]

theorem queueOrderOn_of_full (o : Order) (full : 8 ≤ (s.lane l).orders.length) :
    queueOrderOn k l o s = s.refuse k .queueOrder .full :=
  if_neg (Nat.not_lt.mpr full)

theorem queueOrderOn_of_room (o : Order) (room : (s.lane l).orders.length < 8) :
    queueOrderOn k l o s = (s.setLane l ((s.lane l).withOrder o)).reply k .queueOrder .ok
      (.number ((s.lane l).orders.length + 1)) :=
  if_pos room

end QueueOrder

/-! ## LANE_RESUME (R135) -/

section LaneResume

variable {lane : Nat} {s : State}

theorem exec_laneResume_of_noLane (frames : FramesWhole s) (outside : lane < 1 ∨ 8 < lane) :
    exec (.laneResume .line lane) s = .next (s.refuse .line .laneResume .range) := by
  have answered : exec (.laneResume .line lane) s = .next _ := taken_of_whole _ (frames.link .line) (by decide)
  rw [answered, (laneOf_eq_none lane).mpr outside]

theorem exec_laneResume (frames : FramesWhole s) (l : Lane) :
    exec (.laneResume .line (l.val + 1)) s = .next (if (s.lane l).state = .held then
      (s.setLaneState l (s.lane l).idleState).reply .line .laneResume .ok .none
      else s.refuse .line .laneResume .state) := by
  have answered : exec (.laneResume .line (l.val + 1)) s = .next _ :=
    taken_of_whole _ (frames.link .line) (by decide)
  rw [answered, laneOf_succ]

/-- The state of a lane freed from HELD, by its queue (R119). -/
theorem LaneUnit.idleState_eq (u : LaneUnit) : u.idleState = if u.orders = [] then .idle else .blocked := by
  simp only [LaneUnit.idleState, List.isEmpty_iff]

end LaneResume

/-! ## CANCEL_ORDER of a queued order (R132) -/

section CancelOrder

variable {k : StationLink} {l : Lane} {lane : Nat} {tag : BitVec 8} {s : State}

theorem exec_cancelOrder_of_noLane (frames : FramesWhole s) (outside : lane < 1 ∨ 8 < lane) :
    exec (.cancelOrder .line lane tag) s = .next (s.refuse .line .cancelOrder .range) := by
  have answered : exec (.cancelOrder .line lane tag) s = .next _ := taken_of_whole _ (frames.link .line) (by decide)
  rw [answered, (laneOf_eq_none lane).mpr outside]

theorem exec_cancelOrder (frames : FramesWhole s) (l : Lane) (tag : BitVec 8) :
    exec (.cancelOrder .line (l.val + 1) tag) s = .next (cancelOn .line l tag s) := by
  have answered : exec (.cancelOrder .line (l.val + 1) tag) s = .next _ :=
    taken_of_whole _ (frames.link .line) (by decide)
  rw [answered, laneOf_succ]

/-- Without a match on the open stack the request goes to the queue. -/
theorem cancelOn_of_noStack (other : ∀ x ∈ s.formingStack l, x.2.tag ≠ tag) :
    cancelOn k l tag s = cancelQueued k l tag s := by
  cases stack : s.formingStack l with
  | none => simp only [cancelOn, stack]
  | some x => simp only [cancelOn, stack, if_neg (other x stack)]

theorem cancelQueued_of_unknown (missing : ∀ o ∈ (s.lane l).orders, o.tag ≠ tag) :
    cancelQueued k l tag s = s.refuse k .cancelOrder .unknown := by
  have absent : (s.lane l).orders.find? (fun o => o.tag == tag) = none := by simpa using missing
  rw [cancelQueued, absent]

/-- The oldest order with the tag is the one that the search finds and the removal takes out. -/
theorem cancelQueued_of_oldest {older newer : List Order} {o : Order}
    (queued : (s.lane l).orders = older ++ o :: newer) (earlier : ∀ x ∈ older, x.tag ≠ tag) (named : o.tag = tag) :
    cancelQueued k l tag s = (s.setLane l { s.lane l with orders := older ++ newer }).reply k .cancelOrder .ok
      (.orderCancelled o) := by
  have skipped : ∀ x ∈ older, ¬(x.tag == tag) = true := by simpa using earlier
  have found : (s.lane l).orders.find? (fun x => x.tag == tag) = some o := by
    simp [queued, List.find?_append, List.find?_eq_none.mpr skipped, named]
  have removed : removeFirst (fun x => x.tag == tag) (s.lane l).orders = older ++ newer := by
    simp [queued, removeFirst_eq_eraseP, List.eraseP_append_right _ skipped, named]
  rw [cancelQueued, found, removed]

end CancelOrder

/-! ## The obligation -/

/-- Settles O35: each request is tested in its order, and past its tests the queue of the lane decides. -/
theorem ordersJoinAndLeaveTheQueue : Obligations.OrdersJoinAndLeaveTheQueue := by
  intro lane tag job target nogap final s frames queue resume cancel
  refine ⟨fun k other => orders_denied_of_ne frames other lane tag job target nogap final, fun outside => ?_, ?_⟩
  · exact ⟨(exec_queueOrder frames).trans (congrArg _ (queueOrder_of_noLane outside)),
      exec_laneResume_of_noLane frames outside, exec_cancelOrder_of_noLane frames outside⟩
  · rintro l rfl u
    have queued : queue = .next _ := exec_queueOrder frames
    have resumed : resume = .next _ := exec_laneResume frames l
    have cancelled : cancel = .next _ := exec_cancelOrder frames l tag
    rw [queued, resumed, cancelled]
    refine ⟨fun outside => ?_, fun low high number full => ?_, fun low high number room => ?_, fun held => ?_,
      fun free => ?_, fun other => ⟨fun missing => ?_, fun older o newer orders earlier named => ?_⟩⟩
    · rw [queueOrder_of_range outside]
    · rw [queueOrder_of_inRange low high number, queueOrderOn_of_full _ full]
    · rw [queueOrder_of_inRange low high number, queueOrderOn_of_room _ room, LaneUnit.withOrder]
    · rw [if_pos held, State.setLaneState, LaneUnit.idleState_eq]
    · rw [if_neg free]
    · rw [cancelOn_of_noStack other, cancelQueued_of_unknown missing]
    · rw [cancelOn_of_noStack other, cancelQueued_of_oldest orders earlier named]

end Sys2Proof.Machine

/-!
PROOFS. The requests of the stack record log: READ_RECORD (08, R155), FETCH_RECORD (R154) and ACK_RECORD (R156).
-/

namespace Sys2Proof.Machine

/-! ## READ_RECORD (R155) -/

section ReadRecord

variable {k : StationLink} {l : Lane} {e : Eject} {s : State}

/-- READ_RECORD is in the set of every link. -/
theorem readRecord_allowedOn (k : StationLink) : Request.readRecord.allowedOn k = true := rfl

theorem exec_readRecord_of_noSlot {n : Nat} (frames : FramesWhole s) (outside : 31 < n) :
    exec (.readRecord k n) s = .next (s.refuse k .readRecord .range) := by
  have answered : exec (.readRecord k n) s = .next _ := taken_of_whole _ (frames.link k) (readRecord_allowedOn k)
  rw [answered, (slotOf_eq_none n).mpr outside]

theorem exec_readRecord (frames : FramesWhole s) (i : SlotIndex) :
    exec (.readRecord k i.val) s = .next (s.reply k .readRecord .ok
      (.stackRecord i (s.slot i) (s.ejectOfSlot i) s.log.ready.length)) := by
  have answered : exec (.readRecord k i.val) s = .next _ :=
    taken_of_whole _ (frames.link k) (readRecord_allowedOn k)
  rw [answered, slotOf_val]

/-- The lane of a CLOSED slot's record is the one whose eject list is searched. -/
theorem ejectOfSlot_of_closed {i : SlotIndex} {r : StackRecord} (held : s.slot i = .held .closed r) :
    s.ejectOfSlot i = (s.lane r.lane).ejectOf i := by
  rw [State.ejectOfSlot, held]

theorem ejectOfSlot_of_not_closed {i : SlotIndex} (other : (s.slot i).isIn .closed = false) :
    s.ejectOfSlot i = none := by
  cases content : s.slot i with
  | free => rw [State.ejectOfSlot, content]
  | held st r => cases st with
    | forming | ready => rw [State.ejectOfSlot, content]
    | closed => simp [content, Slot.isIn] at other

/-- Where the keys of a list differ, the search for the key of an entry finds that entry. -/
theorem find?_key_of_mem {α β : Type} [BEq β] [LawfulBEq β] {key : α → β} {xs : List α} {x : α}
    (distinct : (xs.map key).Nodup) (listed : x ∈ xs) : xs.find? (fun y => key y == key x) = some x := by
  cases found : xs.find? (fun y => key y == key x) with
  | none => exact absurd (List.find?_eq_none.mp found x listed) (by simp)
  | some y =>
    have same : key y = key x := by simpa using List.find?_some found
    rw [List.inj_on_of_nodup_map distinct (List.mem_of_find?_eq_some found) listed same]

theorem LaneUnit.ejectOf_of_mem {u : LaneUnit} (distinct : (u.ejects.map (·.slot)).Nodup) (listed : e ∈ u.ejects) :
    u.ejectOf e.slot = some (e.position.target, e.due) := by
  rw [LaneUnit.ejectOf, find?_key_of_mem distinct listed]
  rfl

theorem Slot.eq_held_of_isIn {x : Slot} {st : StackState} {r : StackRecord} (content : r ∈ x.record?)
    (stands : x.isIn st = true) : x = .held st r := by
  cases x with
  | free => cases content
  | held st' r' =>
    obtain rfl : r' = r := Option.some.inj content
    obtain rfl : st' = st := by simpa [Slot.isIn] using stands
    rfl

/-- The slot of an entry of an eject list is CLOSED and names the lane of the list, which lists it once: READ_RECORD
reports that entry (R155, R159). -/
theorem ejectOfSlot_of_mem (owned : LanesOwnTheirSlots s) (listed : e ∈ (s.lane l).ejects) :
    s.ejectOfSlot e.slot = some (e.position.target, e.due) := by
  obtain ⟨-, entries, distinct⟩ := owned l
  obtain ⟨r, content, closed, rfl, -⟩ := entries e listed
  rw [ejectOfSlot_of_closed (Slot.eq_held_of_isIn content closed), LaneUnit.ejectOf_of_mem distinct listed]

end ReadRecord

/-! ## The rights of FETCH_RECORD and ACK_RECORD -/

/-- FETCH_RECORD and ACK_RECORD are in the set of the delivery link alone. -/
theorem delivery_allowedOn_of_ne {k : StationLink} (other : k ≠ .delivery) :
    Request.fetchRecord.allowedOn k = false ∧ Request.ackRecord.allowedOn k = false := by
  cases k with
  | line => decide
  | inspection => decide
  | delivery => exact absurd rfl other

theorem records_denied_of_ne {s : State} {k : StationLink} (frames : FramesWhole s) (other : k ≠ .delivery) (n : Nat)
    (seq : Seq) :
    exec (.fetchRecord k n) s = .next (s.refuse k .fetchRecord .denied) ∧
      exec (.ackRecord k n seq) s = .next (s.refuse k .ackRecord .denied) := by
  obtain ⟨fetch, ack⟩ := delivery_allowedOn_of_ne other
  exact ⟨taken_of_denied _ (frames.link k) fetch, taken_of_denied _ (frames.link k) ack⟩

/-! ## FETCH_RECORD (R154) -/

section FetchRecord

variable {selector : Nat} {sel : LaneSelector} {s : State}

theorem laneSelectorOf_eq_none : laneSelectorOf selector = none ↔ 8 < selector := by
  by_cases any : selector = 0
  · simp [laneSelectorOf, any]
  · rw [laneSelectorOf, if_neg any, Option.map_eq_none_iff, laneOf_eq_none]
    omega

theorem exists_laneSelectorOf (inRange : selector ≤ 8) : ∃ sel, laneSelectorOf selector = some sel :=
  Option.ne_none_iff_exists'.mp (mt laneSelectorOf_eq_none.mp (Nat.not_lt.mpr inRange))

/-- Selector 0 takes every slot, selector n those whose record names lane n (R154). -/
theorem selectedBy_iff (named : laneSelectorOf selector = some sel) (x : Slot) :
    x.selectedBy sel = true ↔ selector = 0 ∨ ∃ r ∈ x.record?, selector = r.lane.val + 1 := by
  by_cases any : selector = 0
  · obtain rfl : sel = .any := by simpa [laneSelectorOf, any] using named.symm
    simp [Slot.selectedBy, any]
  · have inRange : ¬8 < selector := fun outside => by simp [laneSelectorOf_eq_none.mpr outside] at named
    obtain ⟨l, rfl⟩ : ∃ l : Lane, selector = l.val + 1 := ⟨⟨selector - 1, by omega⟩, by simp; omega⟩
    obtain rfl : sel = .one l := by simpa [laneSelectorOf] using named.symm
    cases x with
    | free => simp [Slot.selectedBy, Slot.record?]
    | held st r =>
      have sameLane : r.lane = l ↔ l.val = r.lane.val := eq_comm.trans Fin.ext_iff
      simpa [Slot.selectedBy, Slot.record?] using sameLane

theorem exec_fetchRecord_of_range (frames : FramesWhole s) (outside : 8 < selector) :
    exec (.fetchRecord .delivery selector) s = .next (s.refuse .delivery .fetchRecord .range) := by
  have answered : exec (.fetchRecord .delivery selector) s = .next _ :=
    taken_of_whole _ (frames.link .delivery) (by decide)
  rw [answered, laneSelectorOf_eq_none.mpr outside]

theorem exec_fetchRecord_of_none (frames : FramesWhole s) (named : laneSelectorOf selector = some sel)
    (nothing : s.oldestReady sel = none) :
    exec (.fetchRecord .delivery selector) s =
      .next (s.reply .delivery .fetchRecord .empty (.number s.log.ready.length)) := by
  have answered : exec (.fetchRecord .delivery selector) s = .next _ :=
    taken_of_whole _ (frames.link .delivery) (by decide)
  rw [answered, named]
  simp only [nothing]

theorem exec_fetchRecord_of_some {i : SlotIndex} (frames : FramesWhole s)
    (named : laneSelectorOf selector = some sel) (oldest : s.oldestReady sel = some i) :
    exec (.fetchRecord .delivery selector) s =
      .next (s.reply .delivery .fetchRecord .ok (.stackRecord i (s.slot i) none s.log.ready.length)) := by
  have answered : exec (.fetchRecord .delivery selector) s = .next _ :=
    taken_of_whole _ (frames.link .delivery) (by decide)
  rw [answered, named]
  simp only [oldest]

theorem oldestReady_eq_none :
    s.oldestReady sel = none ↔ ∀ i ∈ s.log.ready, ¬(s.slot i).selectedBy sel = true :=
  List.find?_eq_none

/-- The oldest ready entry selected is the first of the list behind entries that are not. -/
theorem oldestReady_of_split {older newer : List SlotIndex} {i : SlotIndex} (split : s.log.ready = older ++ i :: newer)
    (earlier : ∀ j ∈ older, ¬(s.slot j).selectedBy sel = true) (mine : (s.slot i).selectedBy sel = true) :
    s.oldestReady sel = some i := by
  simp [State.oldestReady, split, List.find?_append, List.find?_eq_none.mpr earlier, mine]

end FetchRecord

/-! ## ACK_RECORD (R156) -/

section AckRecord

variable {i : SlotIndex} {seq : Seq} {s : State}

theorem exec_ackRecord_of_noSlot {n : Nat} (frames : FramesWhole s) (outside : 31 < n) :
    exec (.ackRecord .delivery n seq) s = .next (s.refuse .delivery .ackRecord .range) := by
  have answered : exec (.ackRecord .delivery n seq) s = .next _ :=
    taken_of_whole _ (frames.link .delivery) (by decide)
  rw [answered, (slotOf_eq_none n).mpr outside]

theorem exec_ackRecord (frames : FramesWhole s) (i : SlotIndex) (seq : Seq) :
    exec (.ackRecord .delivery i.val seq) s = .next ((acknowledgeSlot i seq s).reply .delivery .ackRecord
      (ackResult (s.slot i) seq) (.number (acknowledgeSlot i seq s).log.ready.length)) := by
  have answered : exec (.ackRecord .delivery i.val seq) s = .next _ :=
    taken_of_whole _ (frames.link .delivery) (by decide)
  rw [answered, slotOf_val]

theorem ackResult_free : ackResult .free seq = .unknown := rfl

theorem ackResult_of_ne {st : StackState} {r : StackRecord} (other : r.seq ≠ seq) :
    ackResult (.held st r) seq = .unknown := if_neg other

theorem ackResult_of_not_ready {st : StackState} {r : StackRecord} (named : r.seq = seq) (other : st ≠ .ready) :
    ackResult (.held st r) seq = .notReady := by
  cases st with
  | ready => exact absurd rfl other
  | forming | closed => exact if_pos named

theorem ackResult_of_ready {r : StackRecord} (named : r.seq = seq) : ackResult (.held .ready r) seq = .ok :=
  if_pos named

theorem acknowledgeSlot_of_ne_ok (refused : ackResult (s.slot i) seq ≠ .ok) : acknowledgeSlot i seq s = s := by
  rw [acknowledgeSlot]
  split
  next accepted => exact absurd accepted refused
  next => rfl

theorem acknowledgeSlot_of_ok (accepted : ackResult (s.slot i) seq = .ok) :
    acknowledgeSlot i seq s = freeReadySlot i s := by
  rw [acknowledgeSlot, accepted]

/-- Without repetitions in the ready list, leaving it is the library's `erase`. -/
theorem freeReadySlot_of_ready {r : StackRecord} (distinct : s.log.ready.Nodup)
    (held : s.slot i = .held .ready r) :
    freeReadySlot i s = s.setLog { slots := s.log.slots.set i.val .free, ready := s.log.ready.erase i } := by
  rw [freeReadySlot, held, distinct.erase_eq_filter]
  rfl

/-- A refused acknowledgement changes only the response (R156). -/
theorem exec_ackRecord_of_ne_ok {res : Result} (frames : FramesWhole s) (tested : ackResult (s.slot i) seq = res)
    (refused : res ≠ .ok) :
    exec (.ackRecord .delivery i.val seq) s =
      .next (s.reply .delivery .ackRecord res (.number s.log.ready.length)) := by
  rw [exec_ackRecord frames, acknowledgeSlot_of_ne_ok (tested ▸ refused), tested]

/-- An acknowledged slot is FREE and off the ready list, wherever it stood in it (R156). -/
theorem exec_ackRecord_of_ready {r : StackRecord} (frames : FramesWhole s) (ready : ReadyListExact s)
    (held : s.slot i = .held .ready r) (named : r.seq = seq) :
    exec (.ackRecord .delivery i.val seq) s = .next
      ((s.setLog { slots := s.log.slots.set i.val .free, ready := s.log.ready.erase i }).reply .delivery .ackRecord .ok
        (.number (s.log.ready.length - 1))) := by
  obtain ⟨distinct, readySlots⟩ := ready
  have accepted : ackResult (s.slot i) seq = .ok := held ▸ ackResult_of_ready named
  have listed : i ∈ s.log.ready := (readySlots i).mpr (by rw [held]; rfl)
  rw [exec_ackRecord frames, acknowledgeSlot_of_ok accepted, accepted, freeReadySlot_of_ready distinct held, setLog_log,
    List.length_erase_of_mem listed]

end AckRecord

/-! ## The obligation -/

/-- Settles O39: the owner of a CLOSED slot lists it once, so READ_RECORD finds its entry; FETCH_RECORD finds the first
entry that its selector takes; and the test of ACK_RECORD decides whether the slot is freed. -/
theorem recordsAreReadFetchedAndAcknowledged : Obligations.RecordsAreReadFetchedAndAcknowledged := by
  intro s frames ready owned entries
  refine ⟨fun k i => ?_, fun k n outside => exec_readRecord_of_noSlot frames outside,
    fun k n seq other => records_denied_of_ne frames other n seq,
    fun n seq outside => exec_ackRecord_of_noSlot frames outside, fun selector => ?_, fun i seq => ?_⟩
  · intro read
    refine ⟨fun other => ?_, ?_⟩
    · exact ejectOfSlot_of_not_closed other ▸ exec_readRecord frames i
    · rintro l e listed rfl
      exact ejectOfSlot_of_mem owned listed ▸ exec_readRecord frames e.slot
  · intro answer mine
    refine ⟨exec_fetchRecord_of_range frames, fun inRange nothing => ?_,
      fun inRange older i newer split earlier own => ?_⟩
    · obtain ⟨sel, named⟩ := exists_laneSelectorOf inRange
      exact exec_fetchRecord_of_none frames named
        (oldestReady_eq_none.mpr fun i listed => mt (selectedBy_iff named _).mp (nothing i listed))
    · obtain ⟨sel, named⟩ := exists_laneSelectorOf inRange
      exact exec_fetchRecord_of_some frames named (oldestReady_of_split split
        (fun j before => mt (selectedBy_iff named _).mp (earlier j before)) ((selectedBy_iff named _).mpr own))
  · intro answer
    refine ⟨fun free => ?_, fun st r held => ⟨fun other => ?_, fun named waiting => ?_, ?_⟩⟩
    · exact exec_ackRecord_of_ne_ok frames (free ▸ ackResult_free) (by decide)
    · exact exec_ackRecord_of_ne_ok frames (held ▸ ackResult_of_ne other) (by decide)
    · exact exec_ackRecord_of_ne_ok frames (held ▸ ackResult_of_not_ready named waiting) (by decide)
    · rintro named rfl
      exact exec_ackRecord_of_ready frames ready held named

end Sys2Proof.Machine

/-!
PROOFS. The counters and the diagnostic enable set on the line link (11, R199, R200; 09, R169).
-/

namespace Sys2Proof.Machine

/-! ## The counter groups (R199) -/

section Groups

variable (c : Counters) (l : Lane)

/-- Groups 1 to 8 hold the production counts of the lanes. -/
theorem group_production : c.group (l.val + 1) = some (.laneCounts c.lanes[l].production) := by
  have inBlock : l.val + 1 ≤ 8 := by omega
  rw [Counters.group, if_neg (Nat.succ_ne_zero _), if_pos inBlock, laneOf_succ, Option.map_some]

/-- Groups 9 to 32 hold the reject causes of the lanes, five to a block of eight groups. -/
theorem group_causes (block : Fin 3) :
    c.group (l.val + 9 + 8 * block.val) = some (.laneCounts (c.lanes[l].fiveCauses (5 * block.val))) := by
  obtain ⟨lane, inRange⟩ := l
  have named : laneOf (lane + 1) = some ⟨lane, inRange⟩ := laneOf_succ ⟨lane, inRange⟩
  match block with
  | 0 | 1 | 2 => grind [Counters.group]

theorem group_eq_none {n : Nat} (above : 32 < n) : c.group n = none := by
  grind [Counters.group]

end Groups

/-- Five causes that exist, one by one. -/
theorem fiveCauses_eq (c : LaneCounts) (n : Nat) (within : n + 4 < 15) :
    c.fiveCauses n = [c.causes[n], c.causes[n + 1], c.causes[n + 2], c.causes[n + 3], c.causes[n + 4]] := by
  apply List.ext_getElem <;> grind [LaneCounts.fiveCauses]

/-- READ_COUNTERS of a group that does not exist, refused on the line link (R199). -/
theorem exec_readCounters_of_noGroup {s : State} {n : Nat} (whole : (s.link .line).phase ≠ .discarded)
    (noGroup : s.cnt.group n = none) :
    exec (.readCounters .line n) s = .next (s.refuse .line .readCounters .range) := by
  have answered : exec (.readCounters .line n) s = .next _ := taken_of_whole _ whole (by decide)
  rw [answered, noGroup]

/-! ## The counts after CLEAR_COUNTERS (R200) -/

theorem clearedCounters_lane (s : State) (l : Lane) :
    (clearedCounters s).lanes[l] =
      { LaneCounts.zero with cut := BitVec.ofNat 32 (undecidedIn s.map.records l) } := by
  have zeroed : Counters.zero.lanes[l] = LaneCounts.zero := Vector.getElem_replicate _
  rw [clearedCounters, perLane_getElem, zeroed]

@[simp] theorem reply_cnt (s : State) (k : StationLink) (q : Request) (res : Result) (p : Payload) :
    (s.reply k q res p).cnt = s.cnt := setLink_cnt ..

@[simp] theorem reply_act (s : State) (k : StationLink) (q : Request) (res : Result) (p : Payload) :
    (s.reply k q res p).act = s.act := setLink_act ..

@[simp] theorem reply_filterOf (s : State) (k : StationLink) (q : Request) (res : Result) (p : Payload) (o : Output) :
    (s.reply k q res p).filterOf o = s.filterOf o := by
  cases k <;> cases o <;> rfl

/-! ## States that differ in filter times alone (R170) -/

/-- The one state is the other but for the filter times of its outputs. -/
def SameButFilters (t s : State) : Prop := t = s.setAct t.act ∧ t.act.unfiltered = s.act.unfiltered

/-- Writing an entry does not change what is read through a function that sees no difference. -/
theorem map_set_of_eq {α β : Type} {f : α → β} {v : Vector α 8} {l : Lane} {x : α} (same : f x = f v[l]) :
    (v.set l.val x l.isLt).map f = v.map f := by
  have entry : f x = (v.map f)[l.val] := by rw [same, Vector.getElem_map]; rfl
  rw [Vector.map_set, entry, Vector.set_getElem_self]

namespace SameButFilters

theorem refl (s : State) : SameButFilters s s := ⟨rfl, rfl⟩

theorem trans {u t s : State} (ut : SameButFilters u t) (ts : SameButFilters t s) : SameButFilters u s := by
  obtain ⟨frameU, actU⟩ := ut
  obtain ⟨frameT, actT⟩ := ts
  refine ⟨?_, actU.trans actT⟩
  rw [frameU, frameT]
  rfl

theorem of_setFilter (s : State) (o : Output) (f : Filter) : SameButFilters (s.setFilter o f) s := by
  cases o with
  | knife => exact ⟨rfl, rfl⟩
  | gate l => exact ⟨rfl, congrArg (fun gates => { s.act.unfiltered with gates }) (map_set_of_eq (by rfl))⟩
  | pusher l => exact ⟨rfl, congrArg (fun pushers => { s.act.unfiltered with pushers }) (map_set_of_eq (by rfl))⟩

end SameButFilters

/-- What is driven and what is latched does not depend on the filter times. -/
theorem unfiltered_driven (a : Actuators) (m : Mode) (o : Output) : a.unfiltered.driven m o = a.driven m o := by
  cases o <;> simp [Actuators.unfiltered, Actuators.driven]

theorem unfiltered_latchOf (a : Actuators) (o : Output) : a.unfiltered.latchOf o = a.latchOf o := by
  cases o <;> simp [Actuators.unfiltered, Actuators.latchOf]

theorem SameButFilters.driven {t s : State} (same : SameButFilters t s) (o : Output) : t.driven o = s.driven o := by
  obtain ⟨frame, act⟩ := same
  have mode : t.mode = s.mode := by rw [frame]; rfl
  rw [State.driven, State.driven, ← unfiltered_driven, act, mode, unfiltered_driven]

theorem SameButFilters.overloaded {t s : State} (same : SameButFilters t s) (o : Output) :
    t.overloaded o = s.overloaded o := by
  have driven := same.driven o
  obtain ⟨frame, act⟩ := same
  have enabled : t.enabled o = s.enabled o := congrArg (fun a => a.enabled.has o) act
  have latch : t.latchOf o = s.latchOf o := by
    rw [State.latchOf, State.latchOf, ← unfiltered_latchOf, act, unfiltered_latchOf]
  have atFault : t.atFault o = s.atFault o := by rw [frame]; rfl
  rw [State.overloaded, State.overloaded, enabled, latch, driven, atFault]

/-! ## Filter times restarted from 0 -/

@[simp] theorem setFilter_filterOf_same (s : State) (o : Output) (f : Filter) : (s.setFilter o f).filterOf o = f := by
  cases o <;> simp [State.setFilter, State.filterOf]

theorem setFilter_filterOf_other {o q : Output} (s : State) (f : Filter) (other : q ≠ o) :
    (s.setFilter o f).filterOf q = s.filterOf q := by
  cases o with
  | knife => cases q with
    | knife => exact absurd rfl other
    | gate _ | pusher _ => rfl
  | gate l => cases q with
    | gate m => exact congrArg Gate.filter (setGate_gate_other s l m _ (other <| congrArg Output.gate ·))
    | knife | pusher _ => rfl
  | pusher l => cases q with
    | pusher m => exact congrArg Pusher.filter (setPusher_pusher_other s l m _ (other <| congrArg Output.pusher ·))
    | knife | gate _ => rfl

/-- The filter times of the outputs of a list that pass a test restart from 0. -/
def restartFilters (p : Output → Bool) (os : List Output) (s : State) : State :=
  os.foldl (fun t o => if p o then t.setFilter o .settling else t) s

theorem restartFilters_cons (p : Output → Bool) (o : Output) (os : List Output) (s : State) :
    restartFilters p (o :: os) s = restartFilters p os (if p o then s.setFilter o .settling else s) := rfl

theorem restartFilters_same (p : Output → Bool) (os : List Output) (s : State) :
    SameButFilters (restartFilters p os s) s := by
  induction os generalizing s with
  | nil => exact .refl s
  | cons o os ih =>
    rw [restartFilters_cons]
    refine (ih _).trans ?_
    split
    · exact .of_setFilter s o .settling
    · exact .refl s

theorem restartFilters_filterOf (p : Output → Bool) (os : List Output) (s : State) (q : Output) :
    (restartFilters p os s).filterOf q = if q ∈ os ∧ p q = true then .settling else s.filterOf q := by
  induction os generalizing s with
  | nil => simp [restartFilters]
  | cons o os ih =>
    rw [restartFilters_cons, ih]
    by_cases mine : q = o
    · subst mine
      cases p q <;> simp
    · cases p o <;> simp [mine, setFilter_filterOf_other]

theorem refreshFilters_eq (before after : State) :
    refreshFilters before after =
      restartFilters (fun o => before.driven o || after.driven o) allOutputs after := rfl

theorem refreshFilters_same (before after : State) : SameButFilters (refreshFilters before after) after :=
  restartFilters_same _ _ _

theorem refreshFilters_filterOf (before after : State) (o : Output) :
    (refreshFilters before after).filterOf o =
      if before.driven o = true ∨ after.driven o = true then .settling else after.filterOf o := by
  rw [refreshFilters_eq, restartFilters_filterOf]
  simp [mem_allOutputs]

theorem setDiagEnable_eq (d : DiagEnable) (s : State) :
    setDiagEnable d s =
      restartFilters (fun o => s.enabled o != d.has o) allOutputs (s.setAct { s.act with enabled := d }) := by
  have step : (fun (t : State) o => if s.act.enabled.has o == d.has o then t else t.setFilter o .settling) =
      fun t o => if s.enabled o != d.has o then t.setFilter o .settling else t := by
    funext t o
    by_cases same : s.act.enabled.has o = d.has o <;> simp [State.enabled, same]
  rw [setDiagEnable, step, restartFilters]

/-! ## The end of a step that finds no overloaded output (R171) -/

theorem overloaded_iff (s : State) (o : Output) : s.overloaded o = true ↔
    s.enabled o = true ∧ s.latchOf o = none ∧ s.driven o = true ∧ s.atFault o = true := by
  simp [State.overloaded, and_assoc]

/-- Nothing latches, so that only the filter times of the driven outputs move. -/
theorem finishDrive_of_noOverload {before after : State} (quiet : ∀ o, after.overloaded o = false) :
    finishDrive before after = refreshFilters before after := by
  have still (o : Output) : (refreshFilters before after).overloaded o = false :=
    (refreshFilters_same before after).overloaded o ▸ quiet o
  have nothing : allOutputs.filter (fun o => (refreshFilters before after).overloaded o) = [] := by simp [still]
  rw [finishDrive, nothing]
  rfl

/-! ## SET_DIAG_ENABLE (R169) -/

section DiagEnable

variable (d : DiagEnable) (s : State)

theorem setDiagEnable_same : SameButFilters (setDiagEnable d s) (s.setAct { s.act with enabled := d }) :=
  setDiagEnable_eq d s ▸ restartFilters_same _ _ _

theorem setDiagEnable_driven (o : Output) : (setDiagEnable d s).driven o = s.driven o :=
  (setDiagEnable_same d s).driven o

theorem setDiagEnable_filterOf (o : Output) :
    (setDiagEnable d s).filterOf o = if s.enabled o ≠ d.has o then .settling else s.filterOf o := by
  have kept : (s.setAct { s.act with enabled := d }).filterOf o = s.filterOf o := by cases o <;> rfl
  rw [setDiagEnable_eq, restartFilters_filterOf, kept]
  simp [mem_allOutputs]

theorem refreshFilters_setDiagEnable_filterOf (o : Output) :
    (refreshFilters s (setDiagEnable d s)).filterOf o =
      if s.driven o = true ∨ s.enabled o ≠ d.has o then .settling else s.filterOf o := by
  rw [refreshFilters_filterOf, setDiagEnable_driven, setDiagEnable_filterOf]
  by_cases driven : s.driven o = true <;> simp [driven]

end DiagEnable

/-- An output that the new set enables and that is driven is not at fault: nothing latches OVERLOAD. -/
theorem setDiagEnable_not_overloaded {d : DiagEnable} {s : State}
    (clear : ∀ o, d.has o = true → s.driven o = true → s.atFault o = false) (o : Output) :
    (setDiagEnable d s).overloaded o = false := by
  rw [(setDiagEnable_same d s).overloaded, Bool.eq_false_iff]
  intro overloaded
  obtain ⟨enabled, -, driven, atFault⟩ := (overloaded_iff _ o).mp overloaded
  have noFault : s.atFault o = false := clear o enabled driven
  exact absurd atFault (Bool.eq_false_iff.mp noFault)

/-- SET_DIAG_ENABLE, taken on the line link where it brings no OVERLOAD (R169). -/
theorem exec_setDiagEnable {s : State} {knife : Bool} {gates pushers : LaneSet}
    (whole : (s.link .line).phase ≠ .discarded)
    (quiet : ∀ o, (setDiagEnable ⟨knife, gates, pushers⟩ s).overloaded o = false) :
    exec (.setDiagEnable .line knife gates pushers) s =
      .next ((refreshFilters s (setDiagEnable ⟨knife, gates, pushers⟩ s)).reply .line .setDiagEnable .ok .none) := by
  have answered : exec (.setDiagEnable .line knife gates pushers) s = .next _ := taken_of_whole _ whole (by decide)
  rw [answered, finishDrive_of_noOverload quiet]

/-! ## The obligation -/

/-- Settles O52: a group is the block of its number and the lane within it; the cleared counts are those of 0 but for the
undecided labels; and where nothing latches, SET_DIAG_ENABLE moves the enable set and filter times alone. -/
theorem countersAreReadAndClearedWhole : Obligations.CountersAreReadAndClearedWhole := by
  intro s frames
  have whole : (s.link .line).phase ≠ .discarded := frames.link .line
  refine ⟨fun l => ?_, fun n above => exec_readCounters_of_noGroup whole (group_eq_none s.cnt above),
    ⟨_, exec_clearCounters whole, ?_, fun l => ?_, ?_⟩, fun knife gates pushers => ?_⟩
  · intro c group
    have causes (block : Fin 3) : group (l.val + 9 + 8 * block.val) (c.fiveCauses (5 * block.val)) :=
      exec_readCounters whole (group_causes s.cnt l block)
    refine ⟨exec_readCounters whole (group_production s.cnt l), ?_, ?_, ?_⟩
    · exact fiveCauses_eq c 0 (by omega) ▸ causes 0
    · exact fiveCauses_eq c 5 (by omega) ▸ causes 1
    · exact fiveCauses_eq c 10 (by omega) ▸ causes 2
  · rw [reply_cnt]
    rfl
  · rw [State.counts, reply_cnt]
    exact clearedCounters_lane s l
  · rw [reply_cnt]
    rfl
  · intro has clear
    have hasEq : has = DiagEnable.has ⟨knife, gates, pushers⟩ := by
      funext o
      cases o <;> rfl
    rw [hasEq] at clear ⊢
    obtain ⟨frame, act⟩ :=
      (refreshFilters_same s _).trans (setDiagEnable_same ⟨knife, gates, pushers⟩ s)
    refine ⟨_, exec_setDiagEnable whole (setDiagEnable_not_overloaded clear), ?_, ?_, fun o => ?_⟩
    · rw [reply_act]
      exact congrArg (fun t => t.reply .line .setDiagEnable .ok .none) frame
    · rw [reply_act]
      exact act
    · rw [reply_filterOf]
      exact refreshFilters_setDiagEnable_filterOf _ s o

end Sys2Proof.Machine

/-!
PROOFS. The step and what every command leaves: the queue and the pins (Logs 1 and 5).
-/

namespace Sys2Proof.Machine

/-! ## The step -/

/-- Settles O1: both parts are the equations of `step`. -/
theorem stepRunsTheFrontCommand : Obligations.StepRunsTheFrontCommand := by
  refine ⟨fun c rest s => rfl, fun s empty => ?_⟩
  rw [step, empty]

/-! ## The queue and the pins -/

/-- The command answers a state that has the queue and the pins of the state it ran on. -/
def KeepsInputs (s : State) (a : Answer) : Prop := ∃ t, a = .next t ∧ t.pending = s.pending ∧ t.pins = s.pins

theorem KeepsInputs.of_frame {s t : State} (frame : t.pins = s.pins ∧ t.pending = s.pending) :
    KeepsInputs s (.next t) :=
  ⟨t, rfl, frame.2, frame.1⟩

/-- A request keeps the queue and the pins whether it is taken, denied or discarded. -/
theorem keepsInputs_taken {k : StationLink} {q : Request} {s body : State}
    (frame : body.pins = s.pins ∧ body.pending = s.pending) : KeepsInputs s (taken k q s body) := by
  refine .of_frame ?_
  cases s.discards k <;> cases q.allowedOn k <;> simp [frame]

theorem execRequest_keepsInputs (c : Instr) (s : State) : KeepsInputs s (execRequest c s) := by
  cases c with
  | readRecord k slot => exact keepsInputs_taken (by split <;> simp)
  | cancelCommit k => exact keepsInputs_taken (by split <;> simp)
  | cancelOrder k l tag => exact keepsInputs_taken (by split <;> simp)
  | laneResume k l => exact keepsInputs_taken (by (repeat' split) <;> simp)
  | laneClear k l => exact keepsInputs_taken (by split <;> simp)
  | readCounters k group => exact keepsInputs_taken (by split <;> simp)
  | fetchNotice k => exact keepsInputs_taken (by split <;> simp)
  | fetchRecord k selector => exact keepsInputs_taken (by (repeat' split) <;> simp)
  | ackRecord k slot seq => exact keepsInputs_taken (by split <;> simp)
  | closeNow k l => exact keepsInputs_taken (by split <;> simp)
  | nop k => exact keepsInputs_taken (by simp)
  | readStatus k page => exact keepsInputs_taken (by simp)
  | readEvents k => exact keepsInputs_taken (by simp)
  | ackEvents k m => exact keepsInputs_taken (by simp)
  | setEventMask k m => exact keepsInputs_taken (by simp)
  | readRepeat k n part => exact keepsInputs_taken (by simp)
  | haltRequest k => exact keepsInputs_taken (by simp)
  | setProfileField k field value => exact keepsInputs_taken (by simp)
  | readProfile k selector field => exact keepsInputs_taken (by simp)
  | commitProfile k source n => exact keepsInputs_taken (by simp)
  | setMode k target => exact keepsInputs_taken (by simp)
  | resetTrack k => exact keepsInputs_taken (by simp)
  | queueOrder k l tag job target nogap final => exact keepsInputs_taken (by simp)
  | lineReject k first count mask => exact keepsInputs_taken (by simp)
  | clearCounters k => exact keepsInputs_taken (by simp)
  | setDiagEnable k knife gates pushers => exact keepsInputs_taken (by simp)
  | verdict k n mask defectClass => exact keepsInputs_taken (by simp)
  | _ => exact .of_frame ⟨rfl, rfl⟩

/-- A request row does what `execRequest` does for it. -/
theorem exec_eq_execRequest {c : Instr} (request : c.request.isSome = true) (s : State) :
    exec c s = execRequest c s := by
  cases c <;> first | rfl | simp [Instr.request] at request

theorem execBrokenFrame_keepsInputs (k : StationLink) (f : Frame) (s : State) :
    KeepsInputs s (execBrokenFrame k f s) := by
  unfold execBrokenFrame
  split
  · exact .of_frame ⟨rfl, rfl⟩
  · split
    · exact .of_frame (by simp)
    · split
      · exact execRequest_keepsInputs _ s
      · exact .of_frame ⟨rfl, rfl⟩

/-- The requests, the frames and the rows that move no pin. -/
theorem exec_keepsInputs {c : Instr} (still : c.movesPins = false) (s : State) : KeepsInputs s (exec c s) := by
  by_cases request : c.request.isSome = true
  · rw [exec_eq_execRequest request]
    exact execRequest_keepsInputs c s
  · cases c with
    | deviceReset =>
      refine .of_frame ?_
      cases stop : s.pins.stop <;> simp [deviceReset, stop]
    | brokenFrame k f => exact execBrokenFrame_keepsInputs k f s
    | countArrival a d => exact .of_frame (by cases d <;> simp)
    | skippedTransition a => exact .of_frame (by simp)
    | selectAssert k => exact .of_frame (by simp)
    | speedSample => exact .of_frame (by simp)
    | qualificationPoint => exact .of_frame (by (repeat' split) <;> simp)
    | windowOpening => exact .of_frame (by (repeat' split) <;> simp)
    | windowExpiry => exact .of_frame (by (repeat' split) <;> simp)
    | virtualMarkTarget => exact .of_frame (by (repeat' split) <;> simp)
    | firePosition => exact .of_frame (by split <;> simp)
    | knifeConfirm => exact .of_frame (by split <;> simp)
    | confirmWindowExpiry => exact .of_frame (by (repeat' split) <;> simp)
    | knifePulseEnd => exact .of_frame (by split <;> simp)
    | knifeOffTimeEnd => exact .of_frame (by split <;> simp)
    | spliceDetection => exact .of_frame (by split <;> simp)
    | lastStampExpiry => exact .of_frame (by (repeat' split) <;> simp)
    | cameraPosition n => exact .of_frame (by (repeat' split) <;> simp)
    | cameraPulseEnd => exact .of_frame (by simp)
    | decisionPosition n ls => exact .of_frame (by (repeat' split) <;> simp)
    | rejectEndExpiry l => exact .of_frame (by (repeat' split) <;> simp)
    | recordExit n => exact .of_frame (by (repeat' split) <;> simp)
    | purgeEnd => exact .of_frame (by (repeat' split) <;> simp)
    | ejectPosition l => exact .of_frame (by split <;> simp)
    | pusherPulseEnd l => exact .of_frame (by split <;> simp)
    | pusherOffTimeEnd l => exact .of_frame (by split <;> simp)
    | gateHoldEnd l => exact .of_frame (by (repeat' split) <;> simp)
    | inactiveTimeElapsed o => exact .of_frame (by split <;> simp)
    | openLoadLatch o => exact .of_frame (by split <;> simp)
    | markLeadingEdge | markTrailingEdge | senseLineChange _ _ | stopInputActive | stopInputInactive =>
      simp [Instr.movesPins] at still
    | _ => simp [Instr.request] at request

/-- The five rows of an input pin keep the queue (Log 1). -/
theorem exec_pending_of_movesPins {c : Instr} (moves : c.movesPins = true) (s : State) :
    ∃ t, exec c s = .next t ∧ t.pending = s.pending := by
  cases c with
  | markLeadingEdge => exact ⟨_, rfl, by split <;> simp⟩
  | markTrailingEdge => exact ⟨_, rfl, by split <;> simp⟩
  | senseLineChange o v => exact ⟨_, rfl, by simp⟩
  | stopInputActive => exact ⟨_, rfl, by simp⟩
  | stopInputInactive => exact ⟨_, rfl, by simp⟩
  | _ => simp [Instr.movesPins] at moves

/-- Settles O2: the rows of an input pin keep the queue, and every other command keeps the pins too. -/
theorem everyCommandAnswersAState : Obligations.EveryCommandAnswersAState := by
  intro c s
  cases moves : c.movesPins with
  | true =>
    obtain ⟨t, answered, queue⟩ := exec_pending_of_movesPins moves s
    exact ⟨t, answered, queue, nofun⟩
  | false =>
    obtain ⟨t, answered, queue, pins⟩ := exec_keepsInputs moves s
    exact ⟨t, answered, queue, fun _ => pins⟩

end Sys2Proof.Machine

/-!
PROOFS. The position unit: forward and reverse counts, speed samples, position events in HALT (01, R3 to R10).
-/

namespace Sys2Proof.Machine

/-! ## Comparison of positions (R3) and the postponement of cuts (R46) -/

theorem atOrBeyond_iff (a b : Pos) : atOrBeyond a b = true ↔ (a - b).toNat < 2147483648 := decide_eq_true_iff

theorem atOrBeyond_eq_false (a b : Pos) : atOrBeyond a b = false ↔ 2147483648 ≤ (a - b).toNat := by
  rw [atOrBeyond, decide_eq_false_iff_not, not_lt]

theorem atOrBeyond_self (a : Pos) : atOrBeyond a a = true := by simp [atOrBeyond_iff]

/-- A fire position that keeps the distance stands (R46). -/
theorem orderedFire_of_beyond {f last : Pos} {q : Nat} (beyond : atOrBeyond f (last + dist q) = true) :
    orderedFire (some last) f q = f ∧ mustPostpone (some last) f q = false := by
  simp [orderedFire, mustPostpone, shortOf, beyond]

/-- A fire position short of the distance is moved out to it (R46). -/
theorem orderedFire_of_short {f last : Pos} {q : Nat} (short : atOrBeyond f (last + dist q) = false) :
    orderedFire (some last) f q = last + dist q ∧ mustPostpone (some last) f q = true := by
  simp [orderedFire, mustPostpone, shortOf, short]

/-- Of two positions that are not 2^31 apart, one is strictly beyond the other, or they are equal (R3). -/
theorem positions_trichotomy {a b : Pos} (apart : a - b ≠ 2147483648#32) :
    ((atOrBeyond a b = true ∧ a ≠ b) ∧ ¬(atOrBeyond b a = true ∧ b ≠ a) ∧ a ≠ b) ∨
    (¬(atOrBeyond a b = true ∧ a ≠ b) ∧ (atOrBeyond b a = true ∧ b ≠ a) ∧ a ≠ b) ∨
    (¬(atOrBeyond a b = true ∧ a ≠ b) ∧ ¬(atOrBeyond b a = true ∧ b ≠ a) ∧ a = b) := by
  simp only [atOrBeyond_iff]
  by_cases same : a = b
  · exact .inr (.inr ⟨by tauto, by tauto, same⟩)
  · by_cases near : (a - b).toNat < 2147483648
    · exact .inl ⟨⟨near, same⟩, by rintro ⟨back, -⟩; bv_omega, same⟩
    · exact .inr (.inl ⟨by tauto, ⟨by bv_omega, Ne.symm same⟩, same⟩)

/-- Settles O20: the comparison is arithmetic of the modular difference, and the two cases of the ordering are those of
the comparison. -/
theorem positionsCompareAndCutsKeepTheirSpacing : Obligations.PositionsCompareAndCutsKeepTheirSpacing := by
  refine ⟨fun a b => ⟨?_, ?_, atOrBeyond_self a, positions_trichotomy, fun half => ?_, fun d near => ?_⟩,
    fun f last q => ⟨rfl, rfl, ?_, orderedFire_of_beyond, orderedFire_of_short⟩⟩
  · rw [atOrBeyond_iff, BitVec.toNat_sub]
    omega
  · simp [shortOf]
  · refine ⟨?_, ?_, ?_⟩
    · rw [atOrBeyond_eq_false, half]
      decide
    · rw [atOrBeyond_eq_false]
      bv_omega
    · rintro rfl
      simp at half
  · rw [atOrBeyond_iff]
    simpa using near
  · cases reached : atOrBeyond f (last + dist q) with
    | true => rw [(orderedFire_of_beyond reached).1]; exact reached
    | false => rw [(orderedFire_of_short reached).1]; exact atOrBeyond_self _

/-! ## Speed samples (R7, R8) -/

theorem clampSpeed_eq (raw : Int) : clampSpeed raw = max (-32767) (min 32767 raw) := by
  unfold clampSpeed
  (repeat' split) <;> omega

theorem beyondSpeedRange_iff (raw : Int) : beyondSpeedRange raw = true ↔ 32767 < |raw| := by
  rw [beyondSpeedRange, decide_eq_true_iff, lt_abs]
  omega

theorem EncoderState.sampled_eq (e : EncoderState) :
    e.sampled = { e with speed := max (-32767) (min 32767 (e.counter - e.base).toInt), base := e.counter } := by
  rw [EncoderState.sampled, clampSpeed_eq]
  rfl

/-- Settles O9: the clamp is the one of R8, and a sample is beyond the range when its magnitude is. -/
theorem speedSamplesAreClamped : Obligations.SpeedSamplesAreClamped := by
  intro s
  have clamped : (beyondSpeedRange s.pos.web.rawSample || beyondSpeedRange s.pos.belt.rawSample) = true ↔
      32767 < |s.pos.web.rawSample| ∨ 32767 < |s.pos.belt.rawSample| := by
    rw [Bool.or_eq_true, beyondSpeedRange_iff, beyondSpeedRange_iff]
  simp only [exec, execSpeedSample, raiseIf, clamped, EncoderState.sampled_eq]
  rfl

/-! ## Forward counts (R5, R9, R17) -/

theorem Mode.idle_of_not_halt {m : Mode} (running : m.isHalt = false) : m.idle = decide (m = .setup) := by
  cases m <;> simp_all [Mode.idle, Mode.isHalt]

theorem EncoderState.forward_eq (e : EncoderState) (follows : Bool) :
    e.forward follows = { e with
      counter := e.counter + 1
      highWater := if follows = true ∨ (e.counter + 1 - e.highWater).toNat < 2 ^ 31 then e.counter + 1
        else e.highWater } := by
  simp [EncoderState.forward, atOrBeyond]

/-- The window counter runs while a window is OPEN (R17). -/
theorem Registration.runWindow_eq (r : Registration) (d : Direction) :
    r.runWindow d = { r with
      windowCounter := if r.window.any (fun w => w.status == .opened) then
          (match d with | .forward => r.windowCounter - 1 | .reverse => r.windowCounter + 1)
        else r.windowCounter } := by
  unfold Registration.runWindow
  split
  · next none => cases r; simp_all
  · next w window =>
    by_cases running : w.status = .opened
    · cases d <;> simp [MarkWindow.isOpen, running, window]
    · cases r; simp_all [MarkWindow.isOpen]

theorem MarkWindow.count_eq (now : Pos) :
    MarkWindow.count now = fun w =>
      if w.status = .armed then { w with opening := w.opening.count now, expiry := w.expiry.count now }
      else if w.status = .opened then { w with expiry := w.expiry.count now } else w := by
  funext w
  unfold MarkWindow.count
  split <;> simp_all

theorem headAt_eq (now : Pos) (cuts : List Cut) : headAt now cuts = cuts.head?.any (fun c => c.fire == now) := by
  cases cuts <;> simp [headAt]

/-- A forward count outside HALT. -/
theorem exec_countForward {s : State} (a : Axis) (running : s.mode.isHalt = false) :
    exec (.countArrival a .forward) s =
      .next (markReached a ((s.encoder a).forward s.mode.idle).counter
        (runWindow a .forward (s.setEncoder a ((s.encoder a).forward s.mode.idle)))) := by
  cases a <;> simp [exec, execCountArrival, countForward, running, runWindow, State.encoder, State.setEncoder]

/-- Settles O5: each block's part of a forward web count, in the words of its rule. -/
theorem forwardWebCountReachesItsTargets : Obligations.ForwardWebCountReachesItsTargets := by
  intro s running
  rw [exec_countForward .web running]
  simp only [markReached, runWindow, State.setEncoder, State.encoder, EncoderState.forward_eq,
    Mode.idle_of_not_halt running, decide_eq_true_eq, setPos_reg, setReg_reg, setReg_cut, setPos_cut,
    Registration.runWindow_eq, Registration.count, CutScheduler.count, headAt_eq,
    MarkWindow.count_eq]
  rfl

/-! ## The belt -/

theorem perLane_const {α : Type} (f : α → α) (v : Vector α 8) : perLane (fun _ x => f x) v = v.map f := by
  ext i h
  exact (perLane_getElem (fun _ x => f x) v ⟨i, h⟩).trans (by simp)

/-- Only the head of an eject list is armed, and a due head has been taken (R127). -/
theorem countEjects_eq (now : Pos) (es : List Eject) :
    countEjects now es =
      es.mapIdx (fun i e => if i = 0 ∧ e.due = false then { e with position := e.position.count now } else e) := by
  cases es with
  | nil => rfl
  | cons e rest => cases due : e.due <;> simpa [countEjects, due, List.mapIdx_cons] using List.ext_getElem (by simp) (by simp)

/-- Settles O6: each block's part of a forward belt count, in the words of its rule. -/
theorem forwardBeltCountReachesItsTargets : Obligations.ForwardBeltCountReachesItsTargets := by
  intro s running
  rw [exec_countForward .belt running]
  simp only [markReached, runWindow, State.setEncoder, State.encoder, EncoderState.forward_eq,
    Mode.idle_of_not_halt running, decide_eq_true_eq, perLane_const, LaneUnit.count, countEjects_eq]
  rfl

/-! ## Reverse counts (R5, R9, R10, R17) -/

theorem Mode.idle_iff (m : Mode) : m.idle = true ↔ m = .setup ∨ m.isHalt = true := by
  cases m <;> simp [Mode.idle, Mode.isHalt]

theorem Mode.tracks_iff_not_idle (m : Mode) : m.tracks = !m.idle := by cases m <;> rfl

theorem EncoderState.reverse_eq (e : EncoderState) (follows : Bool) :
    e.reverse follows = { e with
      counter := e.counter - 1, highWater := if follows = true then e.counter - 1 else e.highWater } := rfl

/-- A reverse count within the tolerance, in the words of R9 and R17. -/
theorem countBack_eq (a : Axis) (s : State) :
    countBack a s =
      (s.setEncoder a { s.encoder a with
        counter := (s.encoder a).counter - 1
        highWater := if s.mode = .setup ∨ s.mode.isHalt = true then (s.encoder a).counter - 1
          else (s.encoder a).highWater }).setReg
      { s.reg with
        windowCounter := if a = .web ∧ s.reg.window.any (fun w => w.status == .opened) then s.reg.windowCounter + 1
          else s.reg.windowCounter } := by
  cases a <;>
    simp [countBack, runWindow, EncoderState.reverse_eq, Mode.idle_iff, Registration.runWindow_eq]
  rfl

theorem countBack_encoder (a : Axis) (s : State) :
    (countBack a s).encoder a = (s.encoder a).reverse s.mode.idle := by
  cases a <;> simp [countBack, State.encoder, State.setEncoder]

/-- Outside SETUP and HALT the deficit of the count moved back is tested (R10). -/
theorem countBack_reverseExceeded (a : Axis) (s : State) :
    (countBack a s).reverseExceeded a = true ↔ ¬(s.mode = .setup ∨ s.mode.isHalt = true) ∧
      s.profile.reverseLimit < ((s.encoder a).highWater - ((s.encoder a).counter - 1)).toNat := by
  have prof : (countBack a s).prof = s.prof := by simp
  have mode : (countBack a s).mode = s.mode := congrArg ProfileUnit.mode prof
  have profile : (countBack a s).profile = s.profile := congrArg ProfileUnit.active prof
  rw [State.reverseExceeded, mode, profile, countBack_encoder, Mode.tracks_iff_not_idle, ← Mode.idle_iff]
  cases s.mode.idle <;> simp [EncoderState.deficit, EncoderState.reverse_eq]

/-- Settles O7: the count moved back is the state that the rule names, and the test of R10 is made on it. -/
theorem reverseCountIsTestedAgainstTheLimit : Obligations.ReverseCountIsTestedAgainstTheLimit := by
  intro a s e follows back moved exceeded
  have answered : exec (.countArrival a .reverse) s = .next (countReverse a s) := rfl
  have movedBack : countBack a s = moved := countBack_eq a s
  have tested : (countBack a s).reverseExceeded a = true ↔ exceeded := countBack_reverseExceeded a s
  rw [answered, countReverse]
  refine ⟨fun within => ?_, fun beyond => ?_⟩
  · rw [if_neg (tested.not.mpr within), movedBack]
  · rw [if_pos (tested.mpr beyond), movedBack]
    cases a <;> rfl


/-! ## Events in HALT, and rows without their event (R5, R6) -/

/-- A forward count in HALT moves the counter and its high-water mark, and marks nothing (R6, R9). -/
theorem exec_countForward_of_halt {s : State} (a : Axis) (halted : s.mode.isHalt = true)
    (idle : s.reg.window = none) :
    exec (.countArrival a .forward) s = .next (s.setEncoder a { s.encoder a with
      counter := (s.encoder a).counter + 1, highWater := (s.encoder a).counter + 1 }) := by
  have follows : s.mode.idle = true := (Mode.idle_iff s.mode).mpr (.inr halted)
  cases a <;>
    simp [exec, execCountArrival, countForward, halted, follows, runWindow, State.setEncoder, State.encoder,
      EncoderState.forward, Registration.runWindow, idle]
  all_goals rfl

theorem Mode.not_takesMarks_of_halt {m : Mode} (halted : m.isHalt = true) : m.takesMarks = false := by
  cases m <;> simp_all [Mode.isHalt, Mode.takesMarks]

/-- The guard of a row is shut by HALT and by an event not reached. -/
theorem guard_shut {halted reached : Bool} (none : halted = true ∨ reached = false) : (!halted && reached) = false := by
  rcases none with rfl | rfl <;> simp

/-- The row of a position event that is not reached, or that is found in HALT, does nothing (R5, R6; Log 2). -/
theorem exec_of_no_event {c : Instr} {s : State} {reached : Bool} (row : s.eventReached c = some reached)
    (none : s.mode.isHalt = true ∨ reached = false) : exec c s = .next s := by
  have shut := guard_shut none
  have stopped : (s.mode.takesMarks && reached) = false := by
    rcases none with halted | rfl
    · rw [Mode.not_takesMarks_of_halt halted, Bool.false_and]
    · rw [Bool.and_false]
  cases c with
  | qualificationPoint =>
    have found : s.reg.candidate.any (fun c => c.qualification.reached) = reached := Option.some.inj row
    subst found
    cases candidate : s.reg.candidate <;> simp_all [exec, execQualificationPoint]
  | windowOpening =>
    have found : s.reg.window.any (fun w => w.status == .armed && w.opening.reached) = reached := Option.some.inj row
    subst found
    cases window : s.reg.window <;> simp_all [exec, execWindowOpening, Bool.and_assoc]
  | windowExpiry =>
    have found : s.reg.window.any (fun w => w.status == .opened && w.expiry.reached) = reached := Option.some.inj row
    subst found
    cases window : s.reg.window <;> simp_all [exec, execWindowExpiry, Bool.and_assoc]
  | virtualMarkTarget =>
    have found : s.reg.virtualTarget.any (fun e => e.reached) = reached := Option.some.inj row
    subst found
    cases target : s.reg.virtualTarget <;> simp_all [exec, execVirtualMarkTarget]
  | firePosition =>
    have found : s.cut.headReached = reached := Option.some.inj row
    subst found
    simp_all [exec, execFirePosition]
  | confirmWindowExpiry =>
    have found : s.cut.confirm.any (fun w => w.expiry.reached) = reached := Option.some.inj row
    subst found
    cases window : s.cut.confirm <;> simp_all [exec, execConfirmWindowExpiry]
  | lastStampExpiry =>
    have found : s.map.lastStamp.any (fun f => f.expiry.reached) = reached := Option.some.inj row
    subst found
    cases stamp : s.map.lastStamp <;> simp_all [exec, execLastStampExpiry]
  | cameraPosition n =>
    have found : (s.record n).any (fun r => r.camera.any (fun e => e.reached) && !r.cameraTaken) = reached :=
      Option.some.inj row
    subst found
    cases record : s.record n with
    | none => simp [exec, execCameraPosition, record]
    | some r => cases camera : r.camera <;> simp_all [exec, execCameraPosition, RepeatRecord.cameraDue]
  | decisionPosition n lanes =>
    have found : (s.record n).any (fun r => r.decision.reached && !r.decisionTaken) = reached := Option.some.inj row
    subst found
    cases record : s.record n <;> simp_all [exec, execDecisionPosition, RepeatRecord.decisionDue]
  | recordExit n =>
    have found : (s.record n).any (fun r => r.exit.reached) = reached := Option.some.inj row
    subst found
    cases record : s.record n with
    | none => simp [exec, execRecordExit, record]
    | some r =>
      rw [record] at none
      rcases none with halted | waiting
      · simp [exec, execRecordExit, record, halted]
      · simp_all [exec, execRecordExit, RepeatRecord.exitDue]
  | purgeEnd =>
    have found : s.map.purge.any (fun e => e.reached) = reached := Option.some.inj row
    subst found
    cases purge : s.map.purge <;> simp_all [exec, execPurgeEnd]
  | rejectEndExpiry l =>
    have found : (s.lane l).rejectEnd.any (fun f => f.expiry.reached) = reached := Option.some.inj row
    subst found
    cases rejectEnd : (s.lane l).rejectEnd <;> simp_all [exec, execRejectEndExpiry]
  | ejectPosition l =>
    have found : (s.lane l).ejects.head?.any (fun e => e.position.reached) = reached := Option.some.inj row
    subst found
    cases ejects : (s.lane l).ejects <;> simp_all [exec, execEjectPosition, LaneUnit.headReached]
  | gateHoldEnd l =>
    have found : (s.gate l).hold.any (fun e => e.reached) = reached := Option.some.inj row
    subst found
    cases hold : (s.gate l).hold <;> simp_all [exec, execGateHoldEnd]
  | _ => nomatch row

/-- Settles O10: HALT stops the marking of events at a count, and their taking at their rows. -/
theorem eventsAreTakenAtTheirRowsAndNeverInHalt : Obligations.EventsAreTakenAtTheirRowsAndNeverInHalt :=
  ⟨fun _ halted idle => ⟨exec_countForward_of_halt .web halted idle, exec_countForward_of_halt .belt halted idle⟩,
    fun _ _ _ row none => exec_of_no_event row none⟩

end Sys2Proof.Machine

/-!
PROOFS. What a write leaves of the views of the state: positions, profile and mode, a lane, a slot, a gate, a pusher, the
counts of a lane, a record, a link.
-/

namespace Sys2Proof.Machine

@[simp] theorem setLane_views (s : State) (l : Lane) (u : LaneUnit) :
    (s.setLane l u).web = s.web ∧ (s.setLane l u).belt = s.belt ∧ (s.setLane l u).profile = s.profile ∧
    (s.setLane l u).mode = s.mode ∧ (∀ j, (s.setLane l u).slot j = s.slot j) ∧
    (∀ m, (s.setLane l u).gate m = s.gate m) ∧ (∀ m, (s.setLane l u).pusher m = s.pusher m) ∧
    (∀ m, (s.setLane l u).counts m = s.counts m) ∧ (∀ n, (s.setLane l u).record n = s.record n) ∧
    (∀ j, (s.setLane l u).link j = s.link j) := by
  refine ⟨rfl, rfl, rfl, rfl, fun _ => rfl, fun _ => rfl, fun _ => rfl, fun _ => rfl, fun _ => rfl, fun _ => rfl⟩

@[simp] theorem setSlot_views (s : State) (i : SlotIndex) (x : Slot) :
    (s.setSlot i x).web = s.web ∧ (s.setSlot i x).belt = s.belt ∧ (s.setSlot i x).profile = s.profile ∧
    (s.setSlot i x).mode = s.mode ∧ (∀ m, (s.setSlot i x).lane m = s.lane m) ∧
    (∀ m, (s.setSlot i x).gate m = s.gate m) ∧ (∀ m, (s.setSlot i x).pusher m = s.pusher m) ∧
    (∀ m, (s.setSlot i x).counts m = s.counts m) ∧ (∀ n, (s.setSlot i x).record n = s.record n) ∧
    (∀ j, (s.setSlot i x).link j = s.link j) := by
  refine ⟨rfl, rfl, rfl, rfl, fun _ => rfl, fun _ => rfl, fun _ => rfl, fun _ => rfl, fun _ => rfl, fun _ => rfl⟩

@[simp] theorem setGate_views (s : State) (l : Lane) (g : Gate) :
    (s.setGate l g).web = s.web ∧ (s.setGate l g).belt = s.belt ∧ (s.setGate l g).profile = s.profile ∧
    (s.setGate l g).mode = s.mode ∧ (∀ m, (s.setGate l g).lane m = s.lane m) ∧
    (∀ j, (s.setGate l g).slot j = s.slot j) ∧ (∀ m, (s.setGate l g).counts m = s.counts m) ∧
    (∀ n, (s.setGate l g).record n = s.record n) ∧ (∀ j, (s.setGate l g).link j = s.link j) := by
  refine ⟨rfl, rfl, rfl, rfl, fun _ => rfl, fun _ => rfl, fun _ => rfl, fun _ => rfl, fun _ => rfl⟩

@[simp] theorem setPusher_views (s : State) (l : Lane) (p : Pusher) :
    (s.setPusher l p).web = s.web ∧ (s.setPusher l p).belt = s.belt ∧ (s.setPusher l p).profile = s.profile ∧
    (s.setPusher l p).mode = s.mode ∧ (∀ m, (s.setPusher l p).lane m = s.lane m) ∧
    (∀ j, (s.setPusher l p).slot j = s.slot j) ∧ (∀ m, (s.setPusher l p).counts m = s.counts m) ∧
    (∀ n, (s.setPusher l p).record n = s.record n) ∧ (∀ j, (s.setPusher l p).link j = s.link j) := by
  refine ⟨rfl, rfl, rfl, rfl, fun _ => rfl, fun _ => rfl, fun _ => rfl, fun _ => rfl, fun _ => rfl⟩

@[simp] theorem setKnife_views (s : State) (k : Knife) :
    (s.setKnife k).web = s.web ∧ (s.setKnife k).belt = s.belt ∧ (s.setKnife k).profile = s.profile ∧
    (s.setKnife k).mode = s.mode ∧ (∀ m, (s.setKnife k).lane m = s.lane m) ∧
    (∀ j, (s.setKnife k).slot j = s.slot j) ∧ (∀ m, (s.setKnife k).counts m = s.counts m) ∧
    (∀ n, (s.setKnife k).record n = s.record n) ∧ (∀ j, (s.setKnife k).link j = s.link j) := by
  refine ⟨rfl, rfl, rfl, rfl, fun _ => rfl, fun _ => rfl, fun _ => rfl, fun _ => rfl, fun _ => rfl⟩

@[simp] theorem updateRecord_views (s : State) (n : RepeatNo) (f : RepeatRecord → RepeatRecord) :
    (s.updateRecord n f).web = s.web ∧ (s.updateRecord n f).belt = s.belt ∧
    (s.updateRecord n f).profile = s.profile ∧ (s.updateRecord n f).mode = s.mode ∧
    (∀ m, (s.updateRecord n f).lane m = s.lane m) ∧ (∀ j, (s.updateRecord n f).slot j = s.slot j) ∧
    (∀ m, (s.updateRecord n f).gate m = s.gate m) ∧ (∀ m, (s.updateRecord n f).pusher m = s.pusher m) ∧
    (∀ m, (s.updateRecord n f).counts m = s.counts m) ∧ (∀ j, (s.updateRecord n f).link j = s.link j) := by
  refine ⟨rfl, rfl, rfl, rfl, fun _ => rfl, fun _ => rfl, fun _ => rfl, fun _ => rfl, fun _ => rfl, fun _ => rfl⟩

@[simp] theorem countLanes_views (s : State) (f : Lane → LaneCounts → LaneCounts) :
    (s.countLanes f).web = s.web ∧ (s.countLanes f).belt = s.belt ∧ (s.countLanes f).profile = s.profile ∧
    (s.countLanes f).mode = s.mode ∧ (∀ m, (s.countLanes f).lane m = s.lane m) ∧
    (∀ j, (s.countLanes f).slot j = s.slot j) ∧ (∀ m, (s.countLanes f).gate m = s.gate m) ∧
    (∀ m, (s.countLanes f).pusher m = s.pusher m) ∧ (∀ n, (s.countLanes f).record n = s.record n) ∧
    (∀ j, (s.countLanes f).link j = s.link j) := by
  refine ⟨rfl, rfl, rfl, rfl, fun _ => rfl, fun _ => rfl, fun _ => rfl, fun _ => rfl, fun _ => rfl, fun _ => rfl⟩

@[simp] theorem setLink_views (s : State) (k : StationLink) (u : LinkUnit) :
    (s.setLink k u).web = s.web ∧ (s.setLink k u).belt = s.belt ∧ (s.setLink k u).profile = s.profile ∧
    (s.setLink k u).mode = s.mode ∧ (∀ m, (s.setLink k u).lane m = s.lane m) ∧
    (∀ j, (s.setLink k u).slot j = s.slot j) ∧ (∀ m, (s.setLink k u).gate m = s.gate m) ∧
    (∀ m, (s.setLink k u).pusher m = s.pusher m) ∧ (∀ m, (s.setLink k u).counts m = s.counts m) ∧
    (∀ n, (s.setLink k u).record n = s.record n) := by
  cases k <;> simp [State.setLink, State.web, State.belt, State.profile, State.mode, State.lane, State.slot, State.gate, State.pusher,
    State.counts, State.record]

@[simp] theorem raiseEvent_views (s : State) (e : Event) :
    (raiseEvent e s).web = s.web ∧ (raiseEvent e s).belt = s.belt ∧ (raiseEvent e s).profile = s.profile ∧
    (raiseEvent e s).mode = s.mode ∧ (∀ m, (raiseEvent e s).lane m = s.lane m) ∧
    (∀ j, (raiseEvent e s).slot j = s.slot j) ∧ (∀ m, (raiseEvent e s).gate m = s.gate m) ∧
    (∀ m, (raiseEvent e s).pusher m = s.pusher m) ∧ (∀ m, (raiseEvent e s).counts m = s.counts m) ∧
    (∀ n, (raiseEvent e s).record n = s.record n) := by
  refine ⟨rfl, rfl, rfl, rfl, fun _ => rfl, fun _ => rfl, fun _ => rfl, fun _ => rfl, fun _ => rfl, fun _ => rfl⟩

@[simp] theorem raiseEvents_views (s : State) (es : List Event) :
    (raiseEvents es s).web = s.web ∧ (raiseEvents es s).belt = s.belt ∧
    (raiseEvents es s).profile = s.profile ∧ (raiseEvents es s).mode = s.mode ∧
    (∀ m, (raiseEvents es s).lane m = s.lane m) ∧ (∀ j, (raiseEvents es s).slot j = s.slot j) ∧
    (∀ m, (raiseEvents es s).gate m = s.gate m) ∧ (∀ m, (raiseEvents es s).pusher m = s.pusher m) ∧
    (∀ m, (raiseEvents es s).counts m = s.counts m) ∧ (∀ n, (raiseEvents es s).record n = s.record n) := by
  simp [State.web, State.belt, State.profile, State.mode, State.lane, State.slot, State.gate, State.pusher, State.counts,
    State.record]

@[simp] theorem raiseIf_views (s : State) (b : Bool) (e : Event) :
    (raiseIf b e s).web = s.web ∧ (raiseIf b e s).belt = s.belt ∧ (raiseIf b e s).profile = s.profile ∧
    (raiseIf b e s).mode = s.mode ∧ (∀ m, (raiseIf b e s).lane m = s.lane m) ∧
    (∀ j, (raiseIf b e s).slot j = s.slot j) ∧ (∀ m, (raiseIf b e s).gate m = s.gate m) ∧
    (∀ m, (raiseIf b e s).pusher m = s.pusher m) ∧ (∀ m, (raiseIf b e s).counts m = s.counts m) ∧
    (∀ n, (raiseIf b e s).record n = s.record n) := by
  simp [State.web, State.belt, State.profile, State.mode, State.lane, State.slot, State.gate, State.pusher, State.counts,
    State.record]

@[simp] theorem answer_views (s : State) (k : StationLink) (r : Response) :
    (s.answer k r).web = s.web ∧ (s.answer k r).belt = s.belt ∧ (s.answer k r).profile = s.profile ∧
    (s.answer k r).mode = s.mode ∧ (∀ m, (s.answer k r).lane m = s.lane m) ∧
    (∀ j, (s.answer k r).slot j = s.slot j) ∧ (∀ m, (s.answer k r).gate m = s.gate m) ∧
    (∀ m, (s.answer k r).pusher m = s.pusher m) ∧ (∀ m, (s.answer k r).counts m = s.counts m) ∧
    (∀ n, (s.answer k r).record n = s.record n) := by
  simp [State.web, State.belt, State.profile, State.mode, State.lane, State.slot, State.gate, State.pusher, State.counts,
    State.record]

@[simp] theorem reply_views (s : State) (k : StationLink) (q : Request) (res : Result) (p : Payload) :
    (s.reply k q res p).web = s.web ∧ (s.reply k q res p).belt = s.belt ∧
    (s.reply k q res p).profile = s.profile ∧ (s.reply k q res p).mode = s.mode ∧
    (∀ m, (s.reply k q res p).lane m = s.lane m) ∧ (∀ j, (s.reply k q res p).slot j = s.slot j) ∧
    (∀ m, (s.reply k q res p).gate m = s.gate m) ∧ (∀ m, (s.reply k q res p).pusher m = s.pusher m) ∧
    (∀ m, (s.reply k q res p).counts m = s.counts m) ∧ (∀ n, (s.reply k q res p).record n = s.record n) := by
  simp [State.web, State.belt, State.profile, State.mode, State.lane, State.slot, State.gate, State.pusher, State.counts,
    State.record]

@[simp] theorem refuse_views (s : State) (k : StationLink) (q : Request) (res : Result) :
    (s.refuse k q res).web = s.web ∧ (s.refuse k q res).belt = s.belt ∧
    (s.refuse k q res).profile = s.profile ∧ (s.refuse k q res).mode = s.mode ∧
    (∀ m, (s.refuse k q res).lane m = s.lane m) ∧ (∀ j, (s.refuse k q res).slot j = s.slot j) ∧
    (∀ m, (s.refuse k q res).gate m = s.gate m) ∧ (∀ m, (s.refuse k q res).pusher m = s.pusher m) ∧
    (∀ m, (s.refuse k q res).counts m = s.counts m) ∧ (∀ n, (s.refuse k q res).record n = s.record n) := by
  simp [State.web, State.belt, State.profile, State.mode, State.lane, State.slot, State.gate, State.pusher, State.counts,
    State.record]

end Sys2Proof.Machine

/-!
PROOFS. The rows of the registration unit that make no mark event: edges and openings (02, R14 to R17).
-/

namespace Sys2Proof.Machine

theorem Mode.takesMarks_iff (m : Mode) : m.takesMarks = true ↔ m = .run ∨ m = .dry := by
  cases m <;> simp [Mode.takesMarks]

/-- A position less than 2^31 ahead is not reached. -/
theorem arm_ahead {now : Pos} {d : Nat} (pos : 0 < d) (near : d < 2 ^ 31) :
    PosEvent.arm now (now + dist d) = ⟨now + dist d, false⟩ := by
  have ahead : atOrBeyond now (now + dist d) = false := by
    rw [atOrBeyond_eq_false]
    unfold dist
    bv_omega
  rw [PosEvent.arm, ahead]

theorem markActive_iff (s : State) : s.markActive = true ↔ s.pins.mark = s.profile.markLevel := by
  simp [State.markActive]

theorem otherLevel_eq (v : Level) : otherLevel v = if v = .high then .low else .high := by cases v <;> rfl

/-- Settles O11: the mode decides whether the edge makes a candidate. -/
theorem leadingEdgeMakesTheCandidate : Obligations.LeadingEdgeMakesTheCandidate := by
  intro s
  have answered : exec .markLeadingEdge s = .next (if s.markActive then s else leadingEdge s) := rfl
  rw [answered]
  refine ⟨fun edge marks pos near => ?_, fun edge notRun notDry => ?_, fun repeated => ?_⟩
  · rw [if_neg (by rwa [markActive_iff])]
    simp only [leadingEdge, (Mode.takesMarks_iff _).mpr marks, if_true, newCandidate, arm_ahead pos near]
    rfl
  · have quiet : ¬s.mode.takesMarks = true := by rw [Mode.takesMarks_iff]; tauto
    rw [if_neg (by rwa [markActive_iff])]
    simp only [leadingEdge, quiet]
    rfl
  · rw [if_pos (by rwa [markActive_iff])]

/-- Without a HELD window a lost candidate releases no expiry. -/
theorem expireIfHeld_of_not_held {s : State} (free : ∀ w ∈ s.reg.window, w.status ≠ .held) : expireIfHeld s = s := by
  unfold expireIfHeld
  split
  · rfl
  · next w window => rw [if_neg (free w (by simp [window]))]

/-- A short mark without a HELD window is discarded and counted (R15). -/
theorem shortMark_of_not_held {s : State} {c : Candidate} (candidate : s.reg.candidate = some c)
    (free : ∀ w ∈ s.reg.window, w.status ≠ .held) :
    shortMark s = (s.setReg { s.reg with candidate := none }).setCnt
      { s.cnt with shortMarks := satInc s.cnt.shortMarks } := by
  rw [shortMark, candidate]
  exact expireIfHeld_of_not_held free

theorem exec_markTrailingEdge (s : State) :
    exec .markTrailingEdge s = .next (if s.pins.mark = s.profile.markLevel then
      shortMark (s.setPins { s.pins with mark := if s.profile.markLevel = .high then .low else .high }) else s) := by
  simp only [exec, execMarkTrailingEdge, markActive_iff, otherLevel_eq]

/-- Settles O12: the candidate, if any, is discarded by the edge. -/
theorem trailingEdgeMakesTheMarkShort : Obligations.TrailingEdgeMakesTheMarkShort := by
  intro s free t
  rw [exec_markTrailingEdge]
  refine ⟨fun edge none => ?_, fun edge some => ?_, fun repeated => by rw [if_neg repeated]⟩
  · rw [if_pos edge, shortMark, setPins_reg, none]
  · obtain ⟨c, candidate⟩ := Option.ne_none_iff_exists'.mp some
    have discarded := shortMark_of_not_held (s := t) candidate free
    rw [if_pos edge]
    refine congrArg Host.Outcome.next (discarded.trans ?_)
    rw [satInc_eq]
    rfl

theorem exec_windowOpening {s : State} {w : MarkWindow} (marks : s.mode.takesMarks = true)
    (window : s.reg.window = some w) (armed : w.status = .armed) (reached : w.opening.reached = true) :
    exec .windowOpening s = .next (openWindow w s) := by
  simp [exec, execWindowOpening, window, marks, armed, reached]

/-- Settles O15: the counter is loaded with the distance between the armed bounds. -/
theorem windowOpensWithItsCounterLoaded : Obligations.WindowOpensWithItsCounterLoaded := by
  intro s marks w window armed reached
  have answered := exec_windowOpening ((Mode.takesMarks_iff _).mpr marks) window armed reached
  refine ⟨answered, fun h bound opening expiry => ⟨_, answered, ?_⟩⟩
  simp only [openWindow, setReg_reg, opening, expiry]
  bv_omega

end Sys2Proof.Machine

/-!
PROOFS. The entry to HALT in closed form (R187), and device reset (R190).
-/

namespace Sys2Proof.Machine

/-! ## Work done lane by lane -/

/-- A fold of work that is each lane's own does that work once for each lane of the list. -/
theorem foldl_lanes {α : Type} {view : State → Lane → α} {op : Lane → State → State} {g : Lane → α → α}
    (own : ∀ l s, view (op l s) l = g l (view s l)) (other : ∀ l m s, m ≠ l → view (op l s) m = view s m)
    {ls : List Lane} (nodup : ls.Nodup) (s : State) (m : Lane) :
    view (ls.foldl (fun s l => op l s) s) m = if m ∈ ls then g m (view s m) else view s m := by
  induction ls generalizing s with
  | nil => simp
  | cons l ls ih =>
    obtain ⟨fresh, nodup⟩ := List.nodup_cons.mp nodup
    rw [List.foldl_cons, ih nodup]
    by_cases mine : m = l
    · subst mine
      rw [if_neg fresh, own, if_pos List.mem_cons_self]
    · rw [other l m s mine]
      simp [mine]

theorem foldl_allLanes {α : Type} {view : State → Lane → α} {op : Lane → State → State} {g : Lane → α → α}
    (own : ∀ l s, view (op l s) l = g l (view s l)) (other : ∀ l m s, m ≠ l → view (op l s) m = view s m)
    (s : State) (m : Lane) :
    view (allLanes.foldl (fun s l => op l s) s) m = g m (view s m) := by
  rw [foldl_lanes own other allLanes_nodup, if_pos (mem_allLanes m)]

/-- Two states with the same blocks are one. -/
theorem State.eq_of_blocks {s t : State} (pos : s.pos = t.pos) (reg : s.reg = t.reg) (cut : s.cut = t.cut)
    (map : s.map = t.map) (lanes : ∀ l, s.lane l = t.lane l) (log : s.log = t.log) (act : s.act = t.act)
    (prof : s.prof = t.prof) (pins : s.pins = t.pins) (cnt : s.cnt = t.cnt) (links : s.links = t.links)
    (races : s.races = t.races) (pending : s.pending = t.pending) : s = t := by
  have lanes : s.lanes = t.lanes := Vector.ext fun i h => lanes ⟨i, h⟩
  cases s
  cases t
  simp_all

/-! ## Stopping the pushers and the knife (R164, R165) -/

/-- What HALT does to the pusher of a lane and to the lane's pulse stack (R165). -/
def haltedPusher (off : Nat) (u : LaneUnit) (p : Pusher) : LaneUnit × Pusher :=
  ({ u with pulseStack := if p.drive.isPulse then none else u.pulseStack },
    { p with
      pendingPulse := false
      drive := match p.drive with
        | .pulse _ => .offTime off
        | d => d })

/-- HALT does to the pusher of one lane. -/
def haltPusher (l : Lane) (s : State) : State :=
  (endPusherPulse l s).setPusher l { (endPusherPulse l s).pusher l with pendingPulse := false }

theorem haltPushers_eq (s : State) : haltPushers s = allLanes.foldl (fun s l => haltPusher l s) s := rfl

theorem haltPusher_own (l : Lane) (s : State) :
    (haltPusher l s).profile = s.profile ∧
    ((haltPusher l s).lane l, (haltPusher l s).pusher l) =
      haltedPusher s.profile.pusherOff (s.lane l) (s.pusher l) := by
  cases drive : (s.pusher l).drive <;>
    simp [haltPusher, endPusherPulse, haltedPusher, drive, Drive.isPulse]

theorem haltPusher_other {l m : Lane} (other : m ≠ l) (s : State) :
    (haltPusher l s).lane m = s.lane m ∧ (haltPusher l s).pusher m = s.pusher m := by
  cases drive : (s.pusher l).drive <;>
    simp [haltPusher, endPusherPulse, drive, Drive.isPulse, setLane_lane_other _ _ _ _ other,
      setPusher_pusher_other _ _ _ _ other]

theorem haltPushers_lane_pusher (s : State) (l : Lane) :
    ((haltPushers s).lane l, (haltPushers s).pusher l) = haltedPusher s.profile.pusherOff (s.lane l) (s.pusher l) := by
  have stopped := foldl_allLanes (view := fun s m => (s.profile, s.lane m, s.pusher m)) (op := haltPusher)
    (g := fun _ v => (v.1, haltedPusher v.1.pusherOff v.2.1 v.2.2))
    (fun l s => Prod.ext (haltPusher_own l s).1 (haltPusher_own l s).2)
    (fun l m s other => by
      obtain ⟨lane, pusher⟩ := haltPusher_other other s
      rw [lane, pusher, (haltPusher_own l s).1]) s l
  rw [haltPushers_eq]
  exact (Prod.ext_iff.mp stopped).2

theorem haltPushers_lane (s : State) (l : Lane) :
    (haltPushers s).lane l =
      { s.lane l with pulseStack := if (s.pusher l).drive.isPulse then none else (s.lane l).pulseStack } :=
  (Prod.mk.inj (haltPushers_lane_pusher s l)).1

theorem haltPushers_pusher (s : State) (l : Lane) :
    (haltPushers s).pusher l = (haltedPusher s.profile.pusherOff (s.lane l) (s.pusher l)).2 :=
  (Prod.mk.inj (haltPushers_lane_pusher s l)).2

theorem endPusherPulse_act_keep {α : Type} (view : Actuators → α)
    (keep : ∀ (a : Actuators) ps, view { a with pushers := ps } = view a) (l : Lane) (s : State) :
    view (endPusherPulse l s).act = view s.act := by
  unfold endPusherPulse
  split
  · exact keep _ _
  · rfl

theorem haltPushers_act_keep {α : Type} (view : Actuators → α)
    (keep : ∀ (a : Actuators) ps, view { a with pushers := ps } = view a) (s : State) :
    view (haltPushers s).act = view s.act := by
  rw [haltPushers_eq]
  exact foldl_keep (fun s : State => view s.act) (fun s l => haltPusher l s)
    (fun s l => (keep _ _).trans (endPusherPulse_act_keep view keep l s)) allLanes s

theorem haltPushers_act (s : State) :
    (haltPushers s).act = { s.act with
      pushers := s.act.pushers.map (fun p => (haltedPusher s.profile.pusherOff LaneUnit.reset p).2) } := by
  have knife := haltPushers_act_keep (fun a => a.knife) (fun _ _ => rfl) s
  have gates := haltPushers_act_keep (fun a => a.gates) (fun _ _ => rfl) s
  have camera := haltPushers_act_keep (fun a => a.camera) (fun _ _ => rfl) s
  have enabled := haltPushers_act_keep (fun a => a.enabled) (fun _ _ => rfl) s
  have pushers : (haltPushers s).act.pushers =
      s.act.pushers.map (fun p => (haltedPusher s.profile.pusherOff LaneUnit.reset p).2) :=
    Vector.ext fun i h => (haltPushers_pusher s ⟨i, h⟩).trans (by rw [Vector.getElem_map]; rfl)
  generalize (haltPushers s).act = a at *
  cases a
  simp_all

theorem knifeStopped_eq (s : State) (k : Knife) (same : k.drive = s.act.knife.drive) :
    (if k.drive.isPulse then { k with drive := afterPulse s.profile.knifeOff } else k) =
      { k with drive := s.knifeStopped } := by
  obtain ⟨drive, latch, filter⟩ := k
  subst same
  cases drive : s.act.knife.drive <;> simp [State.knifeStopped, drive, Drive.isPulse, afterPulse]

theorem endKnifePulse_eq (s : State) :
    endKnifePulse s = s.setKnife (if s.act.knife.drive.isPulse then
      { s.act.knife with drive := afterPulse s.profile.knifeOff } else s.act.knife) := by
  rw [endKnifePulse]
  split <;> rfl

/-! ## The entries to SETUP and HALT -/

/-- An idle mode is entered with the filter times brought up to date, the knife stopped and the mark and cut work gone. -/
theorem enterIdle_eq (m : Mode) (s : State) :
    enterIdle m s = { s with
      prof := { s.prof with mode := m }
      pos := s.levelled
      reg := s.idleReg
      cut := s.emptiedCut
      act := { (refreshFilters s s).act with
        knife := { (refreshFilters s s).act.knife with drive := s.knifeStopped } } } := by
  have same : (refreshFilters s s).act.knife.drive = s.act.knife.drive :=
    congrArg (fun a => a.knife.drive) (refreshFilters_same s s).2
  have stopped := knifeStopped_eq s _ same
  have frame : refreshFilters s s = s.setAct (refreshFilters s s).act := (refreshFilters_same s s).1
  rw [enterIdle, endKnifePulse_eq]
  generalize (refreshFilters s s).act = a at *
  rw [frame, ← stopped]
  rfl

theorem enterSetup_eq (s : State) : enterSetup s = s.afterSetup := enterIdle_eq .setup s

theorem removeHolds_act (s : State) :
    (removeHolds s).act = { s.act with gates := s.act.gates.map (fun g => { g with hold := none }) } := by
  rw [removeHolds, setAct_act, perLane_const]

/-- The filter times do not depend on the profile unit but for its mode. -/
theorem refreshFilters_setProf_act {s : State} {p : ProfileUnit} (mode : p.mode = s.mode) :
    (refreshFilters (s.setProf p) (s.setProf p)).act = (refreshFilters s s).act := by
  have same (o : Output) : (s.setProf p).driven o = s.driven o := by
    rw [State.driven, State.driven, setProf_act]
    exact congrArg (fun m => s.act.driven m o) mode
  have step : ∀ (os : List Output) (t : State),
      (restartFilters (fun o => (s.setProf p).driven o || (s.setProf p).driven o) os (t.setProf p)).act =
        (restartFilters (fun o => s.driven o || s.driven o) os t).act := by
    intro os
    induction os with
    | nil => intro t; rfl
    | cons o os ih =>
      intro t
      rw [restartFilters_cons, restartFilters_cons, same, ← ih]
      congr 2
      cases s.driven o
      · rfl
      · cases o <;> rfl
  rw [refreshFilters_eq, refreshFilters_eq, step]

theorem removeHolds_lane (s : State) (l : Lane) : (removeHolds s).lane l = s.lane l := rfl

theorem ofFn_lane {α : Type} (f : Lane → α) (l : Lane) : (Vector.ofFn f)[l] = f l := by simp

/-- The entry to HALT, block by block (R187). -/
theorem enterHalt_eq (cause : HaltCause) (s : State) : enterHalt cause s = s.afterHalt cause := by
  unfold enterHalt State.afterHalt
  cases halted : s.mode.isHalt with
  | true => rw [if_pos rfl, if_pos rfl]
  | false =>
    rw [if_neg Bool.false_ne_true, if_neg Bool.false_ne_true]
    have filters : (refreshFilters (withdrawCommit s) (withdrawCommit s)).act = (refreshFilters s s).act :=
      refreshFilters_setProf_act rfl
    have pushers (l : Lane) : (refreshFilters s s).act.pushers[l].drive = s.act.pushers[l].drive := by
      have same := congrArg (fun a => a.pushers[l].drive) (refreshFilters_same s s).2
      simpa [Actuators.unfiltered] using same
    rw [enterIdle_eq, filters]
    refine congrArg (raiseEvent .haltEntered) (State.eq_of_blocks ?_ ?_ ?_ ?_ ?_ ?_ ?_ ?_ ?_ ?_ ?_ ?_ ?_)
    case refine_5 =>
      intro l
      have pusher : (((refreshFilters s s).act).pushers[l]).drive.isPulse = (s.pusher l).drive.isPulse := by
        rw [pushers]
        rfl
      refine Eq.trans ?_ (ofFn_lane _ l).symm
      rw [removeHolds_lane, haltPushers_lane]
      exact congrArg (fun b : Bool => { s.lane l with pulseStack := if b then none else (s.lane l).pulseStack }) pusher
    case refine_7 =>
      rw [removeHolds_act, haltPushers_act]
      generalize (refreshFilters s s).act = a
      rfl
    all_goals simp [withdrawCommit]
    all_goals rfl

/-! ## HALT on request and by STOP (R187, R188) -/

theorem knifeStopped_not_pulse (s : State) : s.knifeStopped.isPulse = false := by
  cases drive : s.act.knife.drive
  case pulse => by_cases none : s.profile.knifeOff = 0 <;> simp [State.knifeStopped, drive, none, Drive.isPulse]
  all_goals simp [State.knifeStopped, drive, Drive.isPulse]

/-- After the entry to HALT no output is driven. -/
theorem afterHalt_not_driven {s : State} (cause : HaltCause) (running : s.mode.isHalt = false) (o : Output) :
    (s.afterHalt cause).driven o = false := by
  simp only [State.afterHalt, running, Bool.false_eq_true, if_false, State.driven, raiseEvent_views, raiseEvent_frame]
  cases o with
  | knife => exact knifeStopped_not_pulse s
  | gate l => exact Bool.and_false _
  | pusher l =>
    simp only [Actuators.driven, Fin.getElem_fin, Vector.getElem_map]
    cases (refreshFilters s s).act.pushers[l.val].drive <;> rfl

theorem not_overloaded_of_not_driven {s : State} {o : Output} (still : s.driven o = false) :
    s.overloaded o = false := by
  simp [State.overloaded, still]

theorem haltFor_eq (cause : HaltCause) (s : State) :
    haltFor cause s = if s.mode.isHalt then s else refreshFilters s (s.afterHalt cause) := by
  rw [haltFor, enterHalt_eq]
  cases halted : s.mode.isHalt with
  | true => rfl
  | false =>
    have still (o : Output) := not_overloaded_of_not_driven (afterHalt_not_driven cause halted o)
    rw [if_neg Bool.false_ne_true, if_neg Bool.false_ne_true, finishDrive_of_noOverload still]

/-- Settles O42: the entry to HALT is the closed form of `enterHalt_eq`, after which nothing is driven, so that nothing
latches. -/
theorem haltStopsEveryBlock : Obligations.HaltStopsEveryBlock := by
  intro s
  exact ⟨fun cause => haltFor_eq cause s, fun k whole => taken_of_whole _ whole (by cases k <;> decide), rfl, rfl⟩

/-! ## Device reset (R190) -/

theorem afterReset_eq (p : FramePhase) : p.afterReset = if p = .idle then .idle else .discarded := by
  cases p <;> rfl

/-- Outputs that are driven neither before nor after keep their filter times (R170). -/
theorem refreshFilters_of_undriven {before after : State} (noneBefore : ∀ o, before.driven o = false)
    (noneAfter : ∀ o, after.driven o = false) : refreshFilters before after = after := by
  rw [refreshFilters]
  simp only [noneBefore, noneAfter, Bool.or_self]
  exact foldl_keep id _ (fun _ _ => rfl) _ _

/-- The state of a device reset, before STOP is looked at (R190). -/
def State.restored (s : State) : State :=
  { State.reset with links := s.links.afterReset, pins := s.pins, races := s.races, pending := s.pending }

theorem deviceReset_eq (s : State) :
    deviceReset s = if s.pins.stop then enterHalt .stopInput s.restored else s.restored := rfl

theorem restored_not_driven (s : State) (o : Output) : s.restored.driven o = false := by
  cases o with
  | knife => rfl
  | gate l => simp [State.driven, State.restored, State.reset, Actuators.reset, Actuators.driven]
  | pusher l => simp [State.driven, State.restored, State.reset, Actuators.reset, Actuators.driven, Drive.isPulse]

/-- From the state of a reset the entry to HALT moves the mode and raises its event, and nothing else (R188). -/
theorem enterHalt_restored (cause : HaltCause) (s : State) :
    enterHalt cause s.restored = raiseEvent .haltEntered
      { s.restored with prof := { State.reset.prof with mode := .halt cause } } := by
  have setup : ¬s.restored.mode.isHalt = true := Bool.false_ne_true
  rw [enterHalt_eq, State.afterHalt, if_neg setup,
    refreshFilters_of_undriven (restored_not_driven s) (restored_not_driven s)]
  refine congrArg (raiseEvent .haltEntered) (State.eq_of_blocks rfl rfl rfl rfl ?_ rfl ?_ rfl rfl rfl rfl rfl rfl)
  · intro l
    refine (ofFn_lane _ l).trans ?_
    simp [State.restored, State.reset, State.lane, LaneUnit.reset]
  · simp [State.restored, State.reset, Actuators.reset, State.knifeStopped]

/-- Settles O3: the blocks of the reset are stated values, and HALT entered from them changes the mode alone. -/
theorem deviceResetRestoresTheStatedValues : Obligations.DeviceResetRestoresTheStatedValues := by
  intro s phase links
  have relinked : s.links.afterReset = links := by
    simp only [Links.afterReset, afterReset_eq]
    rfl
  refine ⟨fun quiet => ?_, fun stopped => ?_, ?_⟩
  · rw [exec_deviceReset, deviceReset_eq, quiet, if_neg Bool.false_ne_true, State.restored, relinked]
  · rw [exec_deviceReset, deviceReset_eq, stopped, if_pos rfl, enterHalt_restored, State.restored, relinked]
  · have lanes (l : Lane) : State.reset.lane l = LaneUnit.reset := by simp [State.reset, State.lane]
    have counts (l : Lane) : State.reset.counts l = LaneCounts.zero := by
      simp [State.reset, State.counts, Counters.zero]
    have slots (i : SlotIndex) : State.reset.slot i = .free := by simp [State.reset, State.slot, StackLog.reset]
    refine ⟨rfl, rfl, rfl, rfl, rfl, rfl, rfl, rfl, rfl, rfl, rfl, rfl, rfl, rfl, rfl, rfl, rfl, rfl, rfl, rfl,
      rfl, rfl, rfl, rfl, rfl, rfl, rfl, rfl, rfl, rfl, rfl, rfl, rfl,
      fun l => ?_, slots, rfl, by decide, rfl, rfl, rfl, rfl, ?_⟩
    · rw [lanes]
      exact ⟨rfl, rfl, rfl, rfl, rfl, rfl, rfl, rfl, rfl, counts l⟩
    · intro k _
      cases k <;> exact ⟨rfl, rfl, rfl, rfl, rfl, rfl, rfl, rfl, rfl⟩

/-! ## The invariants after device reset -/

/-- The blocks after device reset are those of `State.reset`, but for the mode that STOP brings. -/
theorem deviceReset_blocks (s : State) :
    (deviceReset s).pos = State.reset.pos ∧ (deviceReset s).reg = Registration.reset ∧
    (deviceReset s).cut = CutScheduler.reset ∧ (deviceReset s).map = TransitMap.reset ∧
    (∀ l, (deviceReset s).lane l = LaneUnit.reset) ∧ (∀ i, (deviceReset s).slot i = .free) ∧
    (deviceReset s).log.ready = [] ∧ (deviceReset s).act = Actuators.reset ∧
    (deviceReset s).prof = { ProfileUnit.reset with mode := if s.pins.stop then .halt .stopInput else .setup } ∧
    (deviceReset s).pins = s.pins := by
  have lanes (l : Lane) : s.restored.lane l = LaneUnit.reset := by simp [State.restored, State.reset, State.lane]
  have slots (i : SlotIndex) : s.restored.slot i = .free := by
    simp [State.restored, State.reset, State.slot, StackLog.reset]
  rw [deviceReset_eq]
  cases s.pins.stop with
  | false => exact ⟨rfl, rfl, rfl, rfl, lanes, slots, rfl, rfl, rfl, rfl⟩
  | true =>
    rw [if_pos rfl, enterHalt_restored]
    exact ⟨rfl, rfl, rfl, rfl, lanes, slots, rfl, rfl, rfl, rfl⟩

theorem deviceReset_eventsCarried (s : State) : EventsCarried (deviceReset s) := by
  have masks (k : StationLink) : (State.reset.link k).mask &&& ~~~carriedEvents k = 0 := by cases k <;> decide
  have quiet (k : StationLink) : (State.reset.link k).flags &&& ~~~carriedEvents k = 0 := by cases k <;> decide
  have halted (k : StationLink) :
      ((raiseEvent .haltEntered State.reset).link k).flags &&& ~~~carriedEvents k = 0 := by cases k <;> decide
  intro k _
  rw [deviceReset_eq]
  cases s.pins.stop with
  | false =>
    rw [if_neg Bool.false_ne_true]
    exact match k with
      | .line => ⟨quiet .line, masks .line⟩
      | .inspection => ⟨quiet .inspection, masks .inspection⟩
      | .delivery => ⟨quiet .delivery, masks .delivery⟩
  | true =>
    rw [if_pos rfl, enterHalt_restored]
    exact match k with
      | .line => ⟨halted .line, masks .line⟩
      | .inspection => ⟨halted .inspection, masks .inspection⟩
      | .delivery => ⟨halted .delivery, masks .delivery⟩

/-- Settles O54: the blocks are empty, no output is driven, and the links carry at most HALT_ENTERED. -/
theorem resetMeetsEveryInvariant : Obligations.ResetMeetsEveryInvariant := by
  intro s
  refine ⟨_, exec_deviceReset s, ?_⟩
  have carried := deviceReset_eventsCarried s
  have counts (l : Lane) : (deviceReset s).counts l = LaneCounts.zero := by
    rw [State.counts, deviceReset_cnt]
    simp [Counters.zero]
  obtain ⟨pos, reg, cut, map, lane, slot, ready, act, prof, pins⟩ := deviceReset_blocks s
  have profile : (deviceReset s).profile = Profile.default := by rw [State.profile, prof]; rfl
  have mode : (deviceReset s).mode = if s.pins.stop then .halt .stopInput else .setup := by rw [State.mode, prof]
  have gate (l : Lane) : (deviceReset s).gate l = ⟨none, none, .settling⟩ := by
    simp [State.gate, act, Actuators.reset]
  have pusher (l : Lane) : (deviceReset s).pusher l = ⟨.free, false, none, .settling⟩ := by
    simp [State.pusher, act, Actuators.reset]
  have unlatched (l : Lane) : (deviceReset s).laneLatched l = false := by
    rw [State.laneLatched, gate, pusher]
    rfl
  generalize deviceReset s = t at *
  refine ⟨?_, ?_, ?_, ?_, ?_, ?_, ?_, ?_, ?_, ?_, ?_, ?_, ?_, carried, ?_, ?_, ?_⟩
  · simp only [PEffInBand, profile, reg]
    decide
  · refine ⟨by simp [State.pendingCuts, cut, CutScheduler.reset], by simp [cut, CutScheduler.reset],
      by simp [map, TransitMap.reset], by simp [map, TransitMap.reset], fun l => ?_⟩
    simp [lane, LaneUnit.reset]
  · exact ⟨by simp [ready], fun i => by simp [ready, slot, Slot.isIn]⟩
  · refine ⟨fun l => ?_, by simp [map, TransitMap.reset]⟩
    rw [counts, map]
    rfl
  · simp [CondemnedNeverStacked, map, TransitMap.reset]
  · simp [RecordsDistinct, map, TransitMap.reset]
  · intro _
    simp [reg, cut, pos, act, Registration.reset, CutScheduler.reset, Actuators.reset, State.reset, EncoderState.reset,
      Drive.isPulse]
  · exact fun _ => ⟨by rw [prof]; rfl, fun l => by simp [gate, pusher, Drive.isPulse]⟩
  · intro stopped
    rw [mode, ← pins, stopped]
    rfl
  · exact ⟨by simp [act, Actuators.reset], fun l => by simp [pusher, gate]⟩
  · intro waiting
    rw [prof] at waiting
    exact absurd waiting Bool.false_ne_true
  · intro draining
    rw [mode] at draining
    split at draining <;> exact absurd draining Bool.false_ne_true
  · intro marks
    rw [mode] at marks
    split at marks <;> exact absurd marks Bool.false_ne_true
  · intro l
    have mask : LaneSet.has t.profile.laneMask l = false := by
      rw [profile]
      exact BitVec.getLsbD_zero
    simp [lane, LaneUnit.reset, mask, unlatched]
  · intro l
    simp [lane, LaneUnit.reset]
  · intro i
    simp [slot, Slot.record?]

end Sys2Proof.Machine

/-!
PROOFS. What the work of a command leaves, whatever it does: the counters, the enable set, what a link owns, and the mode
but for HALT and the end of DRAINING (R1, R185 to R187, R192 to R196). One walk over the operations, in the order of the
model.
-/

namespace Sys2Proof.Machine

/-! ## The relation -/

/-- The flags that the auto-clear of warnings may clear (R76). -/
def clearable : StationLink → EventSet
  | .line => warnings
  | .inspection | .delivery => 0

/-- A link keeps what is its own, and of its flags those that no auto-clear may take; new flags are of its events. -/
structure LinkKeeps (k : StationLink) (u v : LinkUnit) : Prop where
  own : v = { u with flags := v.flags }
  kept : ∀ i, u.flags.getLsbD i = true → v.flags.getLsbD i = true ∨ (clearable k).getLsbD i = true
  carried : ∀ i, v.flags.getLsbD i = true → u.flags.getLsbD i = true ∨ (carriedEvents k).getLsbD i = true

theorem LinkKeeps.refl (k : StationLink) (u : LinkUnit) : LinkKeeps k u u := ⟨rfl, fun _ => .inl, fun _ => .inl⟩

theorem LinkKeeps.trans {k : StationLink} {u v w : LinkUnit} (uv : LinkKeeps k u v) (vw : LinkKeeps k v w) :
    LinkKeeps k u w where
  own := by rw [vw.own, uv.own]
  kept i set := (uv.kept i set).elim (vw.kept i) .inr
  carried i set := (vw.carried i set).elim (uv.carried i) .inr

/-- The counters stand, the enable set too, and each link keeps its own. -/
structure Kept (s t : State) : Prop where
  web : t.web = s.web
  belt : t.belt = s.belt
  enabled : t.act.enabled = s.act.enabled
  links : ∀ k, LinkKeeps k (s.link k) (t.link k)

theorem Kept.refl (s : State) : Kept s s := ⟨rfl, rfl, rfl, fun k => .refl k _⟩

theorem Kept.trans {s t u : State} (st : Kept s t) (tu : Kept t u) : Kept s u where
  web := tu.web.trans st.web
  belt := tu.belt.trans st.belt
  enabled := tu.enabled.trans st.enabled
  links k := (st.links k).trans (tu.links k)

theorem Kept.of_eq {s t : State} (pos : t.pos = s.pos) (links : t.links = s.links)
    (enabled : t.act.enabled = s.act.enabled) : Kept s t where
  web := congrArg (fun p => p.web.counter) pos
  belt := congrArg (fun p => p.belt.counter) pos
  enabled := enabled
  links k := by
    have link : t.link k = s.link k := by cases k <;> simp [State.link, links]
    rw [link]
    exact .refl k _

/-- A mode moves within a command to HALT, or from DRAINING to SETUP at its end, or not at all. -/
def ModeKeeps (s t : State) : Prop :=
  t.mode = s.mode ∨ (s.mode.isHalt = false ∧ t.mode.isHalt = true) ∨
    (s.mode.isDraining = true ∧ t.mode = .setup ∧ t.flag .line .drained = true)

/-- The work of a command: what it keeps, and the ways it may move the mode. -/
structure Internal (s t : State) : Prop extends Kept s t where
  mode : ModeKeeps s t

namespace Internal

theorem refl (s : State) : Internal s s := ⟨.refl s, .inl rfl⟩

/-- DRAINED is not a warning: it stands until it is acknowledged. -/
theorem drained_kept {s t : State} (kept : Kept s t) (set : s.flag .line .drained = true) :
    t.flag .line .drained = true :=
  ((kept.links .line).kept _ set).resolve_right (by decide)

theorem trans {s t u : State} (st : Internal s t) (tu : Internal t u) : Internal s u := by
  refine ⟨st.toKept.trans tu.toKept, ?_⟩
  rcases tu.mode with same | ⟨running, halted⟩ | ⟨draining, setup, flag⟩
  · rcases st.mode with same' | ⟨running, halted⟩ | ⟨draining, setup, flag⟩
    · exact .inl (same.trans same')
    · exact .inr (.inl ⟨running, same ▸ halted⟩)
    · exact .inr (.inr ⟨draining, same.trans setup, drained_kept tu.toKept flag⟩)
  · rcases st.mode with same' | ⟨-, halted'⟩ | ⟨draining, setup, flag⟩
    · exact .inr (.inl ⟨same' ▸ running, halted⟩)
    · exact absurd halted' (by simp [running])
    · refine .inr (.inl ⟨?_, halted⟩)
      cases mode : s.mode <;> simp_all [Mode.isDraining, Mode.isHalt]
  · rcases st.mode with same' | ⟨-, halted'⟩ | ⟨-, setup', -⟩
    · exact .inr (.inr ⟨same' ▸ draining, setup, flag⟩)
    · cases mode : t.mode <;> simp_all [Mode.isDraining, Mode.isHalt]
    · rw [setup'] at draining
      exact absurd draining Bool.false_ne_true

/-- `trans`, from the last operation inwards. -/
theorem after {s t u : State} (last : Internal t u) (work : Internal s t) : Internal s u := work.trans last

theorem of_eq {s t : State} (pos : t.pos = s.pos) (links : t.links = s.links) (mode : t.mode = s.mode)
    (enabled : t.act.enabled = s.act.enabled) : Internal s t :=
  ⟨.of_eq pos links enabled, .inl mode⟩

/-- The frame of an operation that writes no position, no link, no output and no profile. -/
theorem of_frame {s t : State} (frame : t.pos = s.pos ∧ t.links = s.links ∧ t.act = s.act ∧ t.prof = s.prof) :
    Internal s t :=
  .of_eq frame.1 frame.2.1 (congrArg ProfileUnit.mode frame.2.2.2) (congrArg Actuators.enabled frame.2.2.1)

theorem foldl {α : Type} {f : State → α → State} (each : ∀ s a, Internal s (f s a)) (xs : List α) (s : State) :
    Internal s (xs.foldl f s) := by
  induction xs generalizing s with
  | nil => exact .refl s
  | cons x xs ih => exact (each s x).trans (ih (f s x))

theorem raiseIf_of {s t : State} (b : Bool) (yes : Internal s t) : Internal s (if b then t else s) := by
  cases b
  · exact .refl s
  · exact yes

theorem ite {c : Prop} [Decidable c] {s t u : State} (yes : c → Internal s t) (no : ¬c → Internal s u) :
    Internal s (if c then t else u) := by
  split
  · next h => exact yes h
  · next h => exact no h

end Internal

section

variable (s : State)

theorem setReg_internal (b : Registration) : Internal s (s.setReg b) := .of_eq rfl rfl rfl rfl
theorem setCut_internal (b : CutScheduler) : Internal s (s.setCut b) := .of_eq rfl rfl rfl rfl
theorem setMap_internal (b : TransitMap) : Internal s (s.setMap b) := .of_eq rfl rfl rfl rfl
theorem setLog_internal (b : StackLog) : Internal s (s.setLog b) := .of_eq rfl rfl rfl rfl
theorem setCnt_internal (b : Counters) : Internal s (s.setCnt b) := .of_eq rfl rfl rfl rfl
theorem setLane_internal (l : Lane) (u : LaneUnit) : Internal s (s.setLane l u) := .of_eq rfl rfl rfl rfl
theorem setSlot_internal (i : SlotIndex) (x : Slot) : Internal s (s.setSlot i x) := .of_eq rfl rfl rfl rfl
theorem setGate_internal (l : Lane) (g : Gate) : Internal s (s.setGate l g) := .of_eq rfl rfl rfl rfl
theorem setPusher_internal (l : Lane) (p : Pusher) : Internal s (s.setPusher l p) := .of_eq rfl rfl rfl rfl
theorem setKnife_internal (k : Knife) : Internal s (s.setKnife k) := .of_eq rfl rfl rfl rfl
theorem setLaneState_internal (l : Lane) (st : LaneState) : Internal s (s.setLaneState l st) := .of_eq rfl rfl rfl rfl

theorem countLanes_internal (f : Lane → LaneCounts → LaneCounts) : Internal s (s.countLanes f) := .of_eq rfl rfl rfl rfl

theorem updateRecord_internal (n : RepeatNo) (f : RepeatRecord → RepeatRecord) : Internal s (s.updateRecord n f) :=
  .of_eq rfl rfl rfl rfl

/-- The work of a race draw is its count alone (Log 34). -/
theorem drawOrder_internal {α : Type} (key : α → Nat) (xs : List α) : Internal s (drawOrder key xs s).2 :=
  .of_frame (by simp)

end

/-! ## Events -/

theorem or_bit_getLsbD (m : EventSet) (e : Event) (i : Nat) :
    (m ||| e.bit).getLsbD i = true ↔ m.getLsbD i = true ∨ i = e.number := by
  have small : e.number < 32 := by cases e <;> decide
  rw [BitVec.getLsbD_or, Bool.or_eq_true, Event.bit, BitVec.getLsbD_shiftLeft]
  refine or_congr_right ?_
  rw [BitVec.getLsbD_one]
  simp
  omega

/-- The events that a link carries are those of its constant (R195). -/
theorem carriedBy_iff (e : Event) (k : StationLink) :
    e.carriedBy k = (carriedEvents k).getLsbD e.number := by
  cases k <;> cases e <;> rfl

theorem raiseEvent_internal (e : Event) (s : State) : Internal s (raiseEvent e s) := by
  refine ⟨⟨rfl, rfl, rfl, fun k => ?_⟩, .inl rfl⟩
  rw [raiseEvent_link]
  cases carried : e.carriedBy k
  · exact .refl k _
  · refine ⟨rfl, fun i set => .inl ((or_bit_getLsbD _ e i).mpr (.inl set)), fun i set => ?_⟩
    rcases (or_bit_getLsbD _ e i).mp set with old | rfl
    · exact .inl old
    · exact .inr (carriedBy_iff e k ▸ carried)

theorem raiseEvents_internal (es : List Event) (s : State) : Internal s (raiseEvents es s) :=
  .foldl (fun s e => raiseEvent_internal e s) es s

theorem raiseIf_internal (b : Bool) (e : Event) (s : State) : Internal s (raiseIf b e s) :=
  .raiseIf_of b (raiseEvent_internal e s)

/-- The auto-clear takes warnings of the line link alone (R76). -/
theorem acknowledge_warnings_internal (s : State) : Internal s (acknowledge .line warnings s) := by
  refine ⟨⟨rfl, rfl, rfl, fun k => ?_⟩, .inl rfl⟩
  cases k
  case line =>
    refine ⟨rfl, fun i set => ?_, fun i set => ?_⟩
    · have small : i < 32 := BitVec.lt_of_getLsbD set
      cases taken : warnings.getLsbD i
      · refine .inl ?_
        rw [acknowledge, setLink_link_same, LinkUnit.withoutFlags, BitVec.getLsbD_and, set, BitVec.getLsbD_not, taken]
        simp [small]
      · exact .inr taken
    · refine .inl ?_
      simp only [acknowledge, setLink_link_same, LinkUnit.withoutFlags, BitVec.getLsbD_and, Bool.and_eq_true] at set
      exact set.1
  all_goals exact .refl _ _

/-! ## Outputs -/

theorem setFilter_internal (s : State) (o : Output) (f : Filter) : Internal s (s.setFilter o f) := by
  cases o <;> exact .of_eq rfl rfl rfl rfl

theorem requestKnifePulse_internal (s : State) : Internal s (requestKnifePulse s) := by
  unfold requestKnifePulse
  split <;> exact .of_eq rfl rfl rfl rfl

theorem startPusherPulse_internal (l : Lane) (s : State) : Internal s (startPusherPulse l s) := .of_eq rfl rfl rfl rfl

theorem requestPusherPulse_internal (l : Lane) (s : State) : Internal s (requestPusherPulse l s) := by
  unfold requestPusherPulse
  split <;> exact .of_eq rfl rfl rfl rfl

theorem endPusherPulse_internal (l : Lane) (s : State) : Internal s (endPusherPulse l s) :=
  .ite (fun _ => .of_eq rfl rfl rfl rfl) (fun _ => .refl s)

theorem requestCameraPulse_internal (s : State) : Internal s (requestCameraPulse s) := by
  unfold requestCameraPulse
  split <;> exact .of_eq rfl rfl rfl rfl

theorem takeInterval_internal (l : Lane) (a b : Pos) (s : State) : Internal s (takeInterval l a b s) := by
  unfold takeInterval
  split <;> exact .of_eq rfl rfl rfl rfl

theorem removeHolds_internal (s : State) : Internal s (removeHolds s) := .of_eq rfl rfl rfl rfl

theorem refreshFilters_internal (before after : State) : Internal after (refreshFilters before after) :=
  .foldl (fun s o => .raiseIf_of _ (setFilter_internal s o .settling)) _ _

/-! ## Slots and lanes -/

theorem joinReadyList_internal (i : SlotIndex) (s : State) : Internal s (joinReadyList i s) :=
  .after (raiseEvent_internal .recordReady _) (setLog_internal s _)

theorem fillReadySlot_internal (i : SlotIndex) (r : StackRecord) (s : State) : Internal s (fillReadySlot i r s) := by
  unfold fillReadySlot
  split
  · exact .after (joinReadyList_internal i _) (setSlot_internal s i _)
  · exact .refl s

theorem makeReady_internal (i : SlotIndex) (f : StackRecord → StackRecord) (s : State) :
    Internal s (makeReady i f s) := by
  unfold makeReady
  split
  case h_1 | h_2 => exact .after (joinReadyList_internal i _) (setSlot_internal s i _)
  case h_3 | h_4 => exact .refl s

theorem armEjectHead_internal (l : Lane) (s : State) : Internal s (armEjectHead l s) := .of_frame (by simp)

theorem releaseHead_internal (l : Lane) (f : StackRecord → StackRecord) (s : State) :
    Internal s (releaseHead l f s) := by
  unfold releaseHead
  split
  · exact .refl s
  · exact .after (armEjectHead_internal l _) (.after (makeReady_internal _ f _) (setLane_internal s l _))

theorem ejectHead_internal (l : Lane) (s : State) : Internal s (ejectHead l s) := by
  unfold ejectHead
  split
  · exact .refl s
  · refine .ite (fun _ => releaseHead_internal l _ s) fun _ => ?_
    split
    · exact .after (releaseHead_internal l id _) (.after (setLane_internal _ l _) (startPusherPulse_internal l s))
    · exact releaseHead_internal l _ s
    · exact setLane_internal s l _
    · exact setLane_internal s l _

theorem ejectReached_internal (l : Lane) (n : Nat) (s : State) : Internal s (ejectReached l n s) := by
  induction n generalizing s with
  | zero => exact .refl s
  | succ n ih => exact .ite (fun _ => .after (ih _) (ejectHead_internal l s)) fun _ => .refl s

theorem runEjects_internal (l : Lane) (s : State) : Internal s (runEjects l s) := ejectReached_internal l _ s

theorem joinEjects_internal (l : Lane) (i : SlotIndex) (seq : Seq) (target : Pos) (s : State) :
    Internal s (joinEjects l i seq target s) := by
  unfold joinEjects
  split
  · exact .after (runEjects_internal l _) (.after (armEjectHead_internal l _) (setLane_internal s l _))
  · exact setLane_internal s l _

theorem releaseEjects_internal (l : Lane) (f : StackRecord → StackRecord) (s : State) :
    Internal s (releaseEjects l f s) :=
  .after (.foldl (fun s (e : Eject) => makeReady_internal e.slot f s) _ _) (setLane_internal s l _)

theorem closeSlot_internal (i : SlotIndex) (kind : ClosingKind) (s : State) : Internal s (closeSlot i kind s) :=
  .of_frame (by simp)

theorem closeIntoEjects_internal (l : Lane) (o : OpenStack) (seq : Seq) (kind : ClosingKind) (s : State) :
    Internal s (closeIntoEjects l o seq kind s) :=
  .after (joinEjects_internal l _ _ _ _) (.after (closeSlot_internal _ kind _) (setLane_internal s l _))

theorem shortClose_internal (l : Lane) (kind : ClosingKind) (s : State) : Internal s (shortClose l kind s) := by
  unfold shortClose
  split
  · exact .refl s
  · split
    · exact setLane_internal s l _
    · exact .ite (fun _ => .after (makeReady_internal _ _ _) (setLane_internal s l _))
        (fun _ => closeIntoEjects_internal l _ _ kind s)

theorem afterClose_internal (l : Lane) (nogap final : Bool) (s : State) : Internal s (afterClose l nogap final s) :=
  .of_frame (by simp)

theorem openStackToQuarantine_internal (l : Lane) (s : State) : Internal s (openStackToQuarantine l s) :=
  .of_frame (by simp)

theorem enterFault_internal (l : Lane) (s : State) : Internal s (enterFault l s) :=
  .after (setLaneState_internal _ l .fault)
    (.after (releaseEjects_internal l _ _) (openStackToQuarantine_internal l s))

theorem faultLane_internal (l : Lane) (s : State) : Internal s (faultLane l s) := by
  have raised := raiseEvent_internal .laneFault s
  unfold faultLane
  split
  case h_1 | h_2 => exact raised
  all_goals exact .after (enterFault_internal l _) (.after (setLane_internal _ l _) raised)

theorem leaveMask_internal (l : Lane) (s : State) : Internal s (leaveMask l s) := by
  unfold leaveMask
  split
  · exact .after (setLaneState_internal _ l .off) (shortClose_internal l _ s)
  all_goals exact setLane_internal s l _

theorem joinMask_internal (l : Lane) (s : State) : Internal s (joinMask l s) := by
  have quarantined : Internal s (if (s.lane l).quarantine.isSome then s else startEmptyQuarantine l s) :=
    .ite (fun _ => .refl s) (fun _ => .of_frame (by simp))
  exact .ite (fun _ => .after (setLaneState_internal _ l .fault) (.after (releaseEjects_internal l _ _) quarantined))
    (fun _ => setLaneState_internal s l _)

theorem changeMask_internal (old new : LaneSet) (l : Lane) (s : State) : Internal s (changeMask old new l s) := by
  unfold changeMask
  split
  · exact leaveMask_internal l s
  · exact joinMask_internal l s
  all_goals exact .refl s

theorem changeMasks_internal (old new : LaneSet) (s : State) : Internal s (changeMasks old new s) :=
  .after (.foldl (fun s l => changeMask_internal old new l s) _ _)
    (.after (drawOrder_internal _ _ _) (.foldl (fun s l => changeMask_internal old new l s) _ s))

/-! ## HALT, faults, the end of DRAINING -/

/-- The entry to an idle mode keeps all but the mode. -/
theorem enterIdle_kept (m : Mode) (s : State) : Kept s (enterIdle m s) := by
  have enabled : (refreshFilters s s).act.enabled = s.act.enabled := (refreshFilters_internal s s).enabled
  rw [enterIdle_eq]
  exact ⟨rfl, rfl, enabled, fun k => by cases k <;> exact .refl _ _⟩

theorem enterIdle_mode (m : Mode) (s : State) : (enterIdle m s).mode = m := by rw [enterIdle_eq]; rfl

theorem haltPusher_internal (l : Lane) (s : State) : Internal s (haltPusher l s) :=
  .after (setPusher_internal _ l _) (endPusherPulse_internal l s)

theorem haltPushers_internal (s : State) : Internal s (haltPushers s) := by
  rw [haltPushers_eq]
  exact .foldl (fun s l => haltPusher_internal l s) _ _

theorem enterHalt_internal (cause : HaltCause) (s : State) : Internal s (enterHalt cause s) := by
  unfold enterHalt
  cases halted : s.mode.isHalt with
  | true => rw [if_pos rfl]; exact .refl s
  | false =>
    rw [if_neg Bool.false_ne_true]
    have withdrawn : Internal s (withdrawCommit s) := .of_eq rfl rfl rfl rfl
    have idled : Internal s (enterIdle (.halt cause) (withdrawCommit s)) :=
      ⟨withdrawn.toKept.trans (enterIdle_kept _ _), .inr (.inl ⟨halted, by rw [enterIdle_mode]; rfl⟩)⟩
    exact .after (raiseEvent_internal .haltEntered _) (.after (removeHolds_internal _) (.after (haltPushers_internal _) idled))

theorem spoilPulseStack_internal (l : Lane) (s : State) : Internal s (spoilPulseStack l s) := .of_frame (by simp)

theorem latchOutput_internal (o : Output) (kind : Latch) (s : State) : Internal s (latchOutput o kind s) := by
  cases o with
  | knife => exact .after (enterHalt_internal .knifeFault _) (setKnife_internal s _)
  | gate l => exact .after (faultLane_internal l _) (setGate_internal s l _)
  | pusher l =>
    have spoiled : Internal s (if (s.pusher l).drive.isPulse then spoilPulseStack l s else s) :=
      .ite (fun _ => spoilPulseStack_internal l s) (fun _ => .refl s)
    exact .after (faultLane_internal l _) (.after (setPusher_internal _ l _) spoiled)

theorem latchIfOverloaded_internal (o : Output) (s : State) : Internal s (latchIfOverloaded o s) :=
  .ite (fun _ => latchOutput_internal o .overload s) (fun _ => .refl s)

theorem finishDrive_internal (before after : State) : Internal after (finishDrive before after) :=
  .after (.foldl (fun s o => latchIfOverloaded_internal o s) _ _)
    (.after (drawOrder_internal _ _ _) (refreshFilters_internal before after))

theorem haltFor_internal (cause : HaltCause) (s : State) : Internal s (haltFor cause s) :=
  .ite (fun _ => .refl s) (fun _ => .after (finishDrive_internal _ _) (enterHalt_internal cause s))

/-- SETUP entered at the end of DRAINING (R186). -/
theorem endDraining_internal (s : State) : Internal s (endDraining s) := by
  refine .ite (fun ends => ?_) (fun _ => .refl s)
  have raised := raiseEvent_internal .drained (enterSetup s)
  have draining : s.mode.isDraining = true := by
    simp only [State.drainEnds, Bool.and_eq_true] at ends
    exact ends.1.1
  refine ⟨(enterIdle_kept .setup s).trans raised.toKept, .inr (.inr ⟨draining, ?_, ?_⟩)⟩
  · rw [(raiseEvent_views _ _).2.2.2.1, enterSetup, enterIdle_mode]
  · exact (or_bit_getLsbD _ .drained _).mpr (.inr rfl)

theorem reportDrained_internal (s : State) : Internal s (reportDrained s) :=
  .ite (fun _ => .after (finishDrive_internal _ _) (endDraining_internal s)) (fun _ => .refl s)

theorem freePusher_internal (l : Lane) (s : State) : Internal s (freePusher l s) :=
  .ite (fun _ => .after (runEjects_internal l _) (.after (ejectHead_internal l _) (setPusher_internal s l _)))
    (fun _ => setPusher_internal s l _)

theorem endPusherOffTime_internal (l : Lane) (s : State) : Internal s (endPusherOffTime l s) :=
  .ite (fun _ => .of_eq rfl rfl rfl rfl) (fun _ => freePusher_internal l s)

theorem setPins_internal (s : State) (p : Pins) : Internal s (s.setPins p) := .of_eq rfl rfl rfl rfl

theorem senseChange_internal (o : Output) (atFault : Bool) (s : State) : Internal s (senseChange o atFault s) :=
  .ite (fun _ => .after (setFilter_internal _ o _) (setPins_internal s _)) (fun _ => setPins_internal s _)

/-! ## The transit map and the decisions -/

theorem extendPurge_internal (t : Pos) (s : State) : Internal s (extendPurge t s) := by
  unfold extendPurge
  split
  · exact .after (raiseEvent_internal .purgeOn _) (setMap_internal s _)
  · exact .ite (fun _ => setMap_internal s _) (fun _ => .refl s)

theorem breakRun_internal (s : State) : Internal s (breakRun s) := setMap_internal s _

theorem applySpacing_internal (c : Spacing) (t : Pos) (s : State) : Internal s (applySpacing c t s) := by
  cases c with
  | normal =>
    exact .ite (fun _ => .after (acknowledge_warnings_internal _) (setMap_internal s _)) (fun _ => setMap_internal s _)
  | near | tight => exact .after (raiseEvent_internal .spacingWarn _) (breakRun_internal s)
  | jammed =>
    exact .after (extendPurge_internal t _) (.after (raiseEvent_internal .jam _) (breakRun_internal s))

theorem enterMap_internal (cut : Cut) (t : Pos) (s : State) : Internal s (enterMap cut t s) :=
  .ite
    (fun _ => .after (countLanes_internal _ _) (.after (setMap_internal _ _) (.after (setMap_internal _ _)
      (applySpacing_internal _ t s))))
    (fun _ => .after (setMap_internal _ _) (.after (breakRun_internal _) (.after (extendPurge_internal t _)
      (.after (raiseEvent_internal .mapFull _) (countLanes_internal s _)))))

theorem pushNotice_internal (n : Notice) (s : State) : Internal s (pushNotice n s) :=
  .ite (fun _ => .after (raiseEvent_internal .noticeReady _) (setMap_internal s _))
    (fun _ => .after (raiseEvent_internal .noticeReady _) (.after (raiseEvent_internal .noticeOverflow _)
      (.after (setCnt_internal _ _) (setMap_internal s _))))

theorem openStack_internal (l : Lane) (i : SlotIndex) (o : Order) (rest : List Order) (s : State) :
    Internal s (openStack l i o rest s) := .of_frame (by simp)

theorem tryOpen_internal (l : Lane) (s : State) : Internal s (tryOpen l s).1 := by
  unfold tryOpen
  split
  · exact setLaneState_internal s l .idle
  · split
    · exact .after (setLaneState_internal _ l .blocked) (raiseEvent_internal .logFull s)
    · split
      · exact openStack_internal l _ _ _ s
      · exact setLaneState_internal s l .blocked

theorem updateForming_internal (i : SlotIndex) (f : StackRecord → StackRecord) (s : State) :
    Internal s (updateForming i f s) := .of_frame (by simp)

theorem stackLabel_internal (r : RepeatRecord) (l : Lane) (s : State) : Internal s (stackLabel r l s).1 := by
  unfold stackLabel
  split
  · exact .refl s
  · split
    · exact .refl s
    · have counted (o : OpenStack) (f : StackRecord → StackRecord) (u : LaneUnit) :
          Internal s (updateForming o.slot f (s.setLane l u)) :=
        .after (updateForming_internal _ f _) (setLane_internal s l u)
      dsimp only
      split
      · exact .after (closeIntoEjects_internal l _ _ _ _) (.after (afterClose_internal l _ _ _) (counted _ _ _))
      · exact counted _ _ _

theorem rejectInSpan_internal (l : Lane) (s : State) : Internal s (rejectInSpan l s) := .of_frame (by simp)

theorem judge_internal (r : RepeatRecord) (l : Lane) (s : State) : Internal s (judge r l s).1 := by
  unfold judge
  split
  · exact rejectInSpan_internal l s
  · exact stackLabel_internal r l s

theorem openAndJudge_internal (r : RepeatRecord) (l : Lane) (s : State) : Internal s (openAndJudge r l s).1 := by
  have opened := tryOpen_internal l s
  unfold openAndJudge
  split
  · next made => rwa [made] at opened
  · next made =>
    rw [made] at opened
    exact .after (judge_internal r l _) opened

theorem gateChecks_internal (r : RepeatRecord) (l : Lane) (s : State) : Internal s (gateChecks r l s).1 := by
  unfold gateChecks
  split
  · exact .refl s
  · exact setLane_internal s l _
  · exact .refl s
  · exact .refl s
  · exact openAndJudge_internal r l s
  · split
    · exact openAndJudge_internal r l s
    · exact setLane_internal s l _
  · exact judge_internal r l s

theorem rejectInterval_internal (r : RepeatRecord) (l : Lane) (s : State) : Internal s (rejectInterval r l s) :=
  .after (setLane_internal _ l _) (takeInterval_internal l _ _ s)

theorem dispose_internal (r : RepeatRecord) (l : Lane) (d : Disposition) (s : State) :
    Internal s (dispose r l d s) := by
  unfold dispose
  refine .after (countLanes_internal _ _) (.after (updateRecord_internal _ _ _) ?_)
  split
  · exact rejectInterval_internal r l s
  all_goals exact .refl s

theorem decideLane_internal (n : RepeatNo) (l : Lane) (s : State) : Internal s (decideLane n l s) := by
  unfold decideLane
  split
  · exact .refl s
  · exact .ite (fun _ => .after (dispose_internal _ l _ _) (gateChecks_internal _ l s)) (fun _ => .refl s)

theorem decisionEvent_internal (n : RepeatNo) (lanes : List Lane) (s : State) :
    Internal s (decisionEvent n lanes s) :=
  .after (updateRecord_internal _ n _)
    (.after (.foldl (fun s l => decideLane_internal n l s) lanes _) (updateRecord_internal s n _))

theorem cameraEvent_internal (r : RepeatRecord) (s : State) : Internal s (cameraEvent r s) :=
  .after (updateRecord_internal _ _ _) (.after (pushNotice_internal _ _) (requestCameraPulse_internal s))

theorem exitRecord_internal (n : RepeatNo) (s : State) : Internal s (exitRecord n s) :=
  .after (reportDrained_internal _) (setMap_internal s _)

/-! ## Cuts and strikes -/

theorem missStrike_internal (w : ConfirmWindow) (s : State) : Internal s (missStrike w s) :=
  .after (setCut_internal _ _) (updateRecord_internal s _ _)

theorem closeConfirm_internal (s : State) : Internal s (closeConfirm s) := .of_frame (by simp)

theorem openConfirm_internal (n : RepeatNo) (s : State) : Internal s (openConfirm n s) := .of_frame (by simp)

theorem handOver_internal (c : Cut) (s : State) : Internal s (handOver c s) :=
  .after (enterMap_internal _ _ _) (setCut_internal s _)

theorem strike_internal (c : Cut) (s : State) : Internal s (strike c s) :=
  .ite (fun _ => handOver_internal c s)
    (fun _ => .after (openConfirm_internal _ _) (.after (handOver_internal c _)
      (.after (requestKnifePulse_internal _) (closeConfirm_internal s))))

theorem strikeOldest_internal (s : State) : Internal s (strikeOldest s) := by
  unfold strikeOldest
  split
  · exact .refl s
  · exact .after (strike_internal _ _) (setCut_internal s _)

theorem fireCut_internal (c : Cut) (s : State) : Internal s (fireCut c s) :=
  have tested : Internal s (spliceTest c s).2 := setCut_internal s _
  .ite (fun _ => .after (setCut_internal _ _) tested) (fun _ => .after (strike_internal _ _) tested)

theorem fireHead_internal (s : State) : Internal s (fireHead s) := by
  unfold fireHead
  split
  · exact .refl s
  · exact .after (fireCut_internal _ _) (setCut_internal s _)

theorem fireReached_internal (n : Nat) (s : State) : Internal s (fireReached n s) := by
  induction n generalizing s with
  | zero => exact .refl s
  | succ n ih => exact .ite (fun _ => .after (ih _) (fireHead_internal s)) (fun _ => .refl s)

theorem knifeTo_internal (d : Drive) (s : State) : Internal s (knifeTo d s) :=
  .ite (fun _ => .after (strikeOldest_internal _) (setKnife_internal s _)) (fun _ => setKnife_internal s _)

theorem overrun_internal (s : State) : Internal s (overrun s) :=
  .after (raiseEvent_internal .cutOverrun _) (.after (setCut_internal _ _) (countLanes_internal s _))

theorem joinSchedule_internal (c : Cut) (s : State) : Internal s (joinSchedule c s) := .of_frame (by simp)

theorem placeCut_internal (m : MarkRecord) (lanes : LaneSet) (s : State) : Internal s (placeCut m lanes s) :=
  have placed := .after (raiseIf_internal _ .leadLimit _) (setCut_internal s _)
  .ite (fun _ => .after (fireCut_internal _ _) placed) (fun _ => .after (joinSchedule_internal _ _) placed)

theorem receiveMark_internal (m : MarkRecord) (s : State) : Internal s (receiveMark m s) :=
  .ite (fun _ => .after (overrun_internal _) (setCut_internal s _))
    (fun _ => .after (placeCut_internal m _ _) (setCut_internal s _))

theorem spliceSeen_internal (s : State) : Internal s (spliceSeen s) :=
  .after (raiseIf_internal _ .spliceMerged _) (.after (raiseEvent_internal .spliceSeen _) (.of_eq rfl rfl rfl rfl))

/-! ## Commits and mark events -/

theorem applyToRepeatLength_internal (old : Profile) (s : State) : Internal s (applyToRepeatLength old s) :=
  .ite (fun _ => setReg_internal s _) (fun _ => .after (raiseIf_internal _ .stretchLimit _) (setReg_internal s _))

theorem applyToCandidate_internal (old : Profile) (s : State) : Internal s (applyToCandidate old s) :=
  .of_frame (by simp)

theorem applyCommit_internal (s : State) : Internal s (applyCommit s) :=
  .after (changeMasks_internal _ _ _) (.after (applyToCandidate_internal _ _) (.after (applyToRepeatLength_internal _ _)
    (.after (raiseEvent_internal .commitApplied _) (.of_eq rfl rfl rfl rfl))))

theorem testDeficits_internal (s : State) : Internal s (testDeficits s) :=
  .ite
    (fun _ => .ite (fun _ => enterHalt_internal _ s)
      (fun _ => .ite (fun _ => enterHalt_internal _ s) (fun _ => .refl s)))
    (fun _ => .refl s)

theorem classifyAndNumber_internal (m : MarkEvent) (s : State) : Internal s (classifyAndNumber m s) :=
  .after (setReg_internal _ _)
    (.after (.ite (fun _ => setCnt_internal _ _) (fun _ => .refl _)) (raiseEvents_internal m.raised s))

theorem commitAtMark_internal (s : State) : Internal s (commitAtMark s) :=
  .ite (fun _ => .after (setReg_internal _ _) (applyCommit_internal s)) (fun _ => applyCommit_internal s)

theorem filterStage_internal (m : MarkEvent) (s : State) : Internal s (filterStage m s) := by
  unfold filterStage
  split
  · exact .after (raiseIf_internal _ .stretchLimit _) (setReg_internal s _)
  · exact .refl s

theorem armNext_internal (m : Pos) (s : State) : Internal s (armNext m s) := .of_frame (by simp)

theorem recordMark_internal (m : MarkEvent) (n : RepeatNo) (s : State) : Internal s (recordMark m n s) :=
  setReg_internal s _

theorem takeMark_internal (m : MarkEvent) (s : State) : Internal s (takeMark m s) := by
  let opened (due : Bool) : State := if due then commitAtMark (classifyAndNumber m s) else classifyAndNumber m s
  have numbered := classifyAndNumber_internal m s
  have committed (due : Bool) : Internal s (opened due) :=
    .ite (fun _ => .after (commitAtMark_internal _) numbered) (fun _ => numbered)
  have received (due : Bool) (n : RepeatNo) (r : MarkRecord) :
      Internal s (receiveMark r (recordMark m n (armNext m.position (filterStage m (opened due))))) :=
    .after (receiveMark_internal _ _) (.after (recordMark_internal m _ _)
      (.after (armNext_internal m.position _) (.after (filterStage_internal m _) (committed due))))
  exact .ite (fun _ => .after (testDeficits_internal _) (received _ _ _)) (fun _ => received _ _ _)

theorem expireNow_internal (w : MarkWindow) (s : State) : Internal s (expireNow w s) :=
  .after (takeMark_internal _ _) (setReg_internal s _)

theorem nextReached_internal {s : State} {take : State → State} (next : nextReached s = some take) (t : State) :
    Internal t (take t) := by
  unfold nextReached at next
  split at next
  · split at next
    · cases next
      exact takeMark_internal _ t
    · cases next
  · split at next
    · split at next
      · cases next
        exact setReg_internal t _
      · cases next
    · split at next
      · cases next
        exact .ite (fun _ => setReg_internal t _) (fun _ => expireNow_internal _ t)
      · cases next
    · cases next
  · cases next

theorem takePassed_internal (k : Nat) (s : State) : Internal s (takePassed k s) := by
  induction k generalizing s with
  | zero => exact .refl s
  | succ k ih =>
    unfold takePassed
    refine .ite (fun _ => ?_) (fun _ => .refl s)
    split
    · next next => exact .after (ih _) (nextReached_internal next s)
    · exact .refl s

theorem afterMark_internal (s : State) : Internal s (afterMark s) := takePassed_internal _ s

theorem expireIfHeld_internal (s : State) : Internal s (expireIfHeld s) := by
  unfold expireIfHeld
  split
  · exact .refl s
  · exact .ite
      (fun _ => .after (finishDrive_internal _ _) (.after (afterMark_internal _) (expireNow_internal _ s)))
      (fun _ => .refl s)

theorem shortMark_internal (s : State) : Internal s (shortMark s) := by
  unfold shortMark
  split
  · exact .refl s
  · exact .after (expireIfHeld_internal _) (.after (setCnt_internal _ _) (setReg_internal s _))

theorem qualifiedMark_internal (m : Pos) (s : State) : Internal s (qualifiedMark m s) := by
  have marked (e : MarkEvent) : Internal s (finishDrive s (afterMark (takeMark e s))) :=
    .after (finishDrive_internal _ _) (.after (afterMark_internal _) (takeMark_internal e s))
  unfold qualifiedMark
  split
  · exact marked _
  all_goals
    split
    · exact setCnt_internal s _
    · exact .ite (fun _ => marked _) (fun _ => setCnt_internal s _)

theorem commitNow_internal (s : State) : Internal s (commitNow s) := by
  have expired (s : State) : Internal s (expireAtCommit s) := by
    unfold expireAtCommit
    split
    · exact .refl s
    · exact .ite (fun _ => .after (afterMark_internal _) (expireNow_internal _ s)) (fun _ => .refl s)
  have registered (old : Profile) (s : State) : Internal s (immediateRegistration old s) :=
    .ite (fun _ => .ite (fun _ => setReg_internal s _) (fun _ => expired s)) (fun _ => .refl s)
  exact .after (testDeficits_internal _) (.after (registered _ _) (applyCommit_internal s))

/-! ## The work of requests -/

theorem cancelOpenStack_internal (l : Lane) (s : State) : Internal s (cancelOpenStack l s) :=
  .after (setLane_internal _ l _) (shortClose_internal l _ s)

theorem closeOpenStack_internal (l : Lane) (o : OpenStack) (s : State) : Internal s (closeOpenStack l o s) :=
  .after (afterClose_internal l _ _ _) (shortClose_internal l _ s)

theorem clearLane_internal (l : Lane) (i : SlotIndex) (s : State) : Internal s (clearLane l i s) :=
  .after (setLane_internal _ l _) (.after (fillReadySlot_internal i _ _)
    (.after (.ite (fun _ => .refl _) (fun _ => requestPusherPulse_internal l _)) (.of_eq rfl rfl rfl rfl)))

theorem lateVerdict_internal (s : State) : Internal s (lateVerdict s) :=
  .after (raiseEvent_internal .lateVerdict _) (setCnt_internal s _)

theorem abortOpenStack_internal (l : Lane) (s : State) : Internal s (abortOpenStack l s) := by
  unfold abortOpenStack
  split
  · exact .refl s
  · exact .after (makeReady_internal _ _ _) (setLane_internal s l _)

theorem resetLane_internal (l : Lane) (s : State) : Internal s (resetLane l s) :=
  .after (setLane_internal _ l _) (.after (abortOpenStack_internal l _) (releaseEjects_internal l _ s))

theorem resetMap_internal (s : State) : Internal s (resetMap s) :=
  .after (setMap_internal _ _) (countLanes_internal s _)

theorem emptyRange_internal (s : State) : Internal s (emptyRange s) := setCut_internal s _

theorem clearKnifeLatch_internal (s : State) : Internal s (clearKnifeLatch s) :=
  .ite (fun _ => setKnife_internal s _) (fun _ => .refl s)

/-- RESET_TRACK enters SETUP from any mode, and keeps the rest. -/
theorem resetTrack_kept (s : State) : Kept s (resetTrack s) ∧ (resetTrack s).mode = .setup := by
  have emptied := Internal.after (.foldl (fun s l => resetLane_internal l s) allLanes _) (resetMap_internal s)
  have cleared := Internal.after (removeHolds_internal _) (.after (clearKnifeLatch_internal _)
    (.after (emptyRange_internal _) emptied))
  unfold resetTrack enterSetup
  exact ⟨cleared.toKept.trans (enterIdle_kept .setup _), enterIdle_mode .setup _⟩

end Sys2Proof.Machine

/-!
PROOFS. What every row keeps: the counters (R1), what a link owns (R192, R193, R195 to R198, R201), and the ways between
the modes (R185 to R189).
-/

namespace Sys2Proof.Machine

/-! ## The relation of a row -/

/-- The link's response slot is written by a command: a broken frame or a request of the link. -/
def Answers (c : Instr) (k : StationLink) : Prop := (∃ f, c = .brokenFrame k f) ∨ ∃ q, c.request = some (k, q)

/-- What a row may do to a link. -/
structure RowLink (c : Instr) (k : StationLink) (u v : LinkUnit) : Prop where
  snapshot : c ≠ .readStatus k 0 → v.snapshot = u.snapshot ∧ v.snapshotNo = u.snapshotNo
  copy : (∀ n, c ≠ .readRepeat k n 0) → v.copy = u.copy
  output : c ≠ .selectAssert k → v.output = u.output
  mask : (∀ m, c ≠ .setEventMask k m) → v.mask = u.mask
  slot : ¬Answers c k → v.slot = u.slot
  phase : ¬Answers c k → c ≠ .selectAssert k → v.phase = u.phase
  kept : (∀ m, c ≠ .ackEvents k m) → ∀ i, u.flags.getLsbD i = true →
    v.flags.getLsbD i = true ∨ (clearable k).getLsbD i = true
  carried : ∀ i, v.flags.getLsbD i = true → u.flags.getLsbD i = true ∨ (carriedEvents k).getLsbD i = true
  carriedMask : ∀ i, v.mask.getLsbD i = true → u.mask.getLsbD i = true ∨ (carriedEvents k).getLsbD i = true

/-- The ways of the mode within a row (the table before R185). -/
def ModeMoves (c : Instr) (s t : State) : Prop :=
  t.mode = s.mode ∨ (s.mode.isHalt = false ∧ t.mode.isHalt = true) ∨
    (s.mode = .setup ∧ (c = .setMode .line 0 ∧ t.mode = .run ∨ c = .setMode .line 1 ∧ t.mode = .dry)) ∨
    (s.mode = .run ∧ c = .setMode .line 2 ∧ (t.mode = .draining false ∨ t.mode = .setup)) ∨
    (s.mode = .dry ∧ c = .setMode .line 2 ∧ (t.mode = .draining true ∨ t.mode = .setup)) ∨
    (s.mode.isDraining = true ∧ t.mode = .setup ∧ t.flag .line .drained = true) ∨
    (s.mode.isHalt = true ∧ c = .resetTrack .line ∧ t.mode = .setup)

theorem ModeKeeps.moves {s t : State} (keeps : ModeKeeps s t) (c : Instr) : ModeMoves c s t := by
  rcases keeps with same | halted | drained
  · exact .inl same
  · exact .inr (.inl halted)
  · exact .inr (.inr (.inr (.inr (.inr (.inl drained)))))

/-- What a row other than a count or a device reset keeps. -/
structure RowKeeps (c : Instr) (s t : State) : Prop where
  web : t.web = s.web
  belt : t.belt = s.belt
  links : ∀ k, RowLink c k (s.link k) (t.link k)
  mode : ModeMoves c s t

theorem LinkKeeps.row {k : StationLink} {u v : LinkUnit} (keeps : LinkKeeps k u v) (c : Instr) : RowLink c k u v := by
  obtain ⟨own, kept, carried⟩ := keeps
  rw [own]
  exact ⟨fun _ => ⟨rfl, rfl⟩, fun _ => rfl, fun _ => rfl, fun _ => rfl, fun _ => rfl, fun _ _ => rfl, fun _ => kept,
    carried, fun _ => .inl⟩

theorem Internal.row {s t : State} (work : Internal s t) (c : Instr) : RowKeeps c s t :=
  ⟨work.web, work.belt, fun k => (work.links k).row c, work.mode.moves c⟩

/-- A response moves the slot of its link, and the place in its frames. -/
theorem LinkKeeps.answered {c : Instr} {k : StationLink} {u v : LinkUnit} (answers : Answers c k)
    (keeps : LinkKeeps k u v) (phase : FramePhase) (r : Response) :
    RowLink c k u { v with phase := phase, slot := r } := by
  obtain ⟨own, kept, carried⟩ := keeps
  rw [own]
  exact ⟨fun _ => ⟨rfl, rfl⟩, fun _ => rfl, fun _ => rfl, fun _ => rfl, (absurd answers ·), fun none => absurd answers none,
    fun _ => kept, carried, fun _ => .inl⟩

theorem answer_flag (s : State) (k j : StationLink) (r : Response) (e : Event) :
    (s.answer k r).flag j e = s.flag j e := by
  cases k <;> cases j <;> rfl

theorem answer_link (s : State) (k j : StationLink) (r : Response) :
    (s.answer k r).link j = if j = k then { s.link k with phase := .idle, slot := r } else s.link j := by
  cases k <;> cases j <;> rfl

/-- The work of a request and its response. -/
theorem RowKeeps.answered {c : Instr} {k : StationLink} {s u : State} (answers : Answers c k) (work : Kept s u)
    (mode : ModeMoves c s u) (r : Response) : RowKeeps c s (u.answer k r) := by
  refine ⟨by simp [work.web], by simp [work.belt], fun j => ?_, ?_⟩
  · rw [answer_link]
    split
    · next same => exact same ▸ (work.links k).answered answers .idle r
    · exact (work.links j).row c
  · rw [ModeMoves, (answer_views u k r).2.2.2.1, answer_flag]
    exact mode

theorem RowKeeps.replied {c : Instr} {k : StationLink} {q : Request} {s u : State} (request : c.request = some (k, q))
    (work : Internal s u) (res : Result) (p : Payload) : RowKeeps c s (u.reply k q res p) :=
  .answered (.inr ⟨q, request⟩) work.toKept (work.mode.moves c) _

theorem RowKeeps.refused {c : Instr} {k : StationLink} {q : Request} {s : State} (request : c.request = some (k, q))
    (res : Result) : RowKeeps c s (s.refuse k q res) :=
  .replied request (.refl s) res .none

/-- What is kept does not depend on the blocks other than these. -/
theorem RowKeeps.of_start {c : Instr} {s u t : State} (work : RowKeeps c u t) (pos : u.pos = s.pos)
    (links : u.links = s.links) (mode : u.mode = s.mode) : RowKeeps c s t := by
  refine ⟨?_, ?_, fun k => ?_, ?_⟩
  · rw [work.web, State.web, pos, ← State.web]
  · rw [work.belt, State.belt, pos, ← State.belt]
  · have link : u.link k = s.link k := by cases k <;> simp [State.link, links]
    exact link ▸ work.links k
  · have moves := work.mode
    rwa [ModeMoves, mode] at moves

/-- A row answers with a state that it keeps so. -/
def RowAnswers (c : Instr) (s : State) (a : Answer) : Prop := ∃ t, a = .next t ∧ RowKeeps c s t

theorem RowAnswers.of_internal {s t : State} (work : Internal s t) (c : Instr) : RowAnswers c s (.next t) :=
  ⟨t, rfl, work.row c⟩

/-- A request is discarded, denied, or taken (R192). -/
theorem rowAnswers_taken {c : Instr} {k : StationLink} {q : Request} {s body : State}
    (request : c.request = some (k, q)) (work : q.allowedOn k = true → RowKeeps c s body) :
    RowAnswers c s (taken k q s body) := by
  refine ⟨_, rfl, ?_⟩
  split
  · exact (Internal.refl s).row c
  · split
    · next allowed => exact work allowed
    · exact .refused request .denied

/-! ## The requests that write what a link owns -/

theorem rowKeeps_ownLink {c : Instr} {k : StationLink} {s : State} {u : LinkUnit}
    (link : RowLink c k (s.link k) u) : RowKeeps c s (s.setLink k u) := by
  refine ⟨?_, ?_, fun j => ?_, .inl ?_⟩
  · rw [(setLink_views s k u).1]
  · rw [(setLink_views s k u).2.1]
  · by_cases mine : j = k
    · rw [mine, setLink_link_same]
      exact link
    · rw [setLink_link_other _ _ _ _ mine]
      exact (LinkKeeps.refl j _).row c
  · rw [(setLink_views s k u).2.2.2.1]

/-- A link written and then answered. -/
theorem setLink_answer (s : State) (k : StationLink) (u : LinkUnit) (r : Response) :
    (s.setLink k u).answer k r = s.setLink k { u with phase := .idle, slot := r } := by
  cases k <;> rfl

theorem rowKeeps_ownAnswer {c : Instr} {k : StationLink} {s : State} {u : LinkUnit} {r : Response}
    (link : RowLink c k (s.link k) { u with phase := .idle, slot := r }) : RowKeeps c s ((s.setLink k u).answer k r) :=
  setLink_answer s k u r ▸ rowKeeps_ownLink link

theorem rowKeeps_readStatus (k : StationLink) (page : Nat) (s : State) :
    RowKeeps (.readStatus k page) s (readStatus k page s) := by
  have replied {t : State} (res : Result) (p : Payload) (work : Internal s t) :
      RowKeeps (.readStatus k page) s (t.reply k .readStatus res p) := .replied rfl work res p
  unfold readStatus
  split
  · exact replied _ _ (.refl s)
  · split
    · next first =>
      subst first
      rw [pageReply, takeSnapshot, setLink_link_same]
      refine rowKeeps_ownAnswer ?_
      exact ⟨fun other => absurd rfl other, fun _ => rfl, fun _ => rfl, fun _ => rfl, fun none => absurd (.inr ⟨_, rfl⟩) none,
        fun none => absurd (.inr ⟨_, rfl⟩) none, fun _ _ => .inl, fun _ => .inl, fun _ => .inl⟩
    · unfold pageReply
      (repeat' split) <;> exact replied _ _ (.refl s)

theorem rowKeeps_readRepeat (k : StationLink) (n : RepeatNo) (part : Nat) (s : State) :
    RowKeeps (.readRepeat k n part) s (readRepeat k n part s) := by
  have replied {t : State} (res : Result) (p : Payload) (work : Internal s t) :
      RowKeeps (.readRepeat k n part) s (t.reply k .readRepeat res p) := .replied rfl work res p
  unfold readRepeat
  split
  · exact replied _ _ (.refl s)
  · split
    · next first =>
      subst first
      have copied (c : Option RepeatCopy) (res : Result) (p : Payload) :
          RowKeeps (.readRepeat k n 0) s ((s.setCopy k c).reply k .readRepeat res p) := by
        refine rowKeeps_ownAnswer ?_
        exact ⟨fun _ => ⟨rfl, rfl⟩, fun other => absurd rfl (other n), fun _ => rfl, fun _ => rfl,
          fun none => absurd (.inr ⟨_, rfl⟩) none, fun none => absurd (.inr ⟨_, rfl⟩) none, fun _ _ => .inl,
          fun _ => .inl, fun _ => .inl⟩
      unfold readIdentity
      split <;> exact copied _ _ _
    · unfold readPart
      (repeat' split) <;> exact replied _ _ (.refl s)

theorem rowKeeps_setEventMask (k : StationLink) (m : EventSet) (s : State) (p : Payload) :
    RowKeeps (.setEventMask k m) s ((setMask k m s).reply k .setEventMask .ok p) := by
  refine rowKeeps_ownAnswer ?_
  refine ⟨fun _ => ⟨rfl, rfl⟩, fun _ => rfl, fun _ => rfl, fun other => absurd rfl (other m),
    fun none => absurd (.inr ⟨_, rfl⟩) none, fun none => absurd (.inr ⟨_, rfl⟩) none, fun _ _ => .inl,
    fun _ => .inl, fun i set => .inr ?_⟩
  rw [BitVec.getLsbD_and, Bool.and_eq_true] at set
  exact set.2

theorem rowKeeps_ackEvents (k : StationLink) (m : EventSet) (s : State) (p : Payload) :
    RowKeeps (.ackEvents k m) s ((acknowledge k m s).reply k .ackEvents .ok p) := by
  refine rowKeeps_ownAnswer ?_
  refine ⟨fun _ => ⟨rfl, rfl⟩, fun _ => rfl, fun _ => rfl, fun _ => rfl,
    fun none => absurd (.inr ⟨_, rfl⟩) none, fun none => absurd (.inr ⟨_, rfl⟩) none,
    fun other => absurd rfl (other m), fun i set => .inl ?_, fun _ => .inl⟩
  rw [LinkUnit.withoutFlags, BitVec.getLsbD_and, Bool.and_eq_true] at set
  exact set.1

theorem rowKeeps_selectAssert (k : StationLink) (s : State) :
    RowKeeps (.selectAssert k) s
      (s.setLink k { s.link k with phase := .shifting, output := some (s.link k).slot }) :=
  rowKeeps_ownLink ⟨fun _ => ⟨rfl, rfl⟩, fun _ => rfl, fun other => absurd rfl other, fun _ => rfl, fun _ => rfl,
    fun _ other => absurd rfl other, fun _ _ => .inl, fun _ => .inl, fun _ => .inl⟩

/-! ## The requests that move the mode -/

theorem allowed_setMode {k : StationLink} (allowed : Request.allowedOn .setMode k = true) : k = .line := by
  cases k <;> first | rfl | exact absurd allowed (by decide)

theorem allowed_resetTrack {k : StationLink} (allowed : Request.allowedOn .resetTrack k = true) : k = .line := by
  cases k <;> first | rfl | exact absurd allowed (by decide)

theorem startRun_kept (m : Mode) (s : State) : Kept s (startRun m s) :=
  ⟨rfl, rfl, rfl, fun k => by cases k <;> exact .refl _ _⟩

theorem haltIfLatched_internal (s : State) : Internal s (haltIfLatched s) :=
  .ite (fun _ => enterHalt_internal _ s) (fun _ => .refl s)

/-- SET_MODE RUN and DRY, after what follows the start within the request (R185). -/
theorem modeMoves_started {target : Nat} {m : Mode} {s t : State}
    (row : target = 0 ∧ m = .run ∨ target = 1 ∧ m = .dry) (setup : s.mode = .setup)
    (work : Internal (startRun m s) t) : ModeMoves (.setMode .line target) s t := by
  have started : (startRun m s).mode = m := rfl
  rcases work.mode with same | ⟨-, halted⟩ | ⟨draining, -⟩
  · rw [started] at same
    rcases row with ⟨rfl, rfl⟩ | ⟨rfl, rfl⟩
    · exact .inr (.inr (.inl ⟨setup, .inl ⟨rfl, same⟩⟩))
    · exact .inr (.inr (.inl ⟨setup, .inr ⟨rfl, same⟩⟩))
  · exact .inr (.inl ⟨by rw [setup]; rfl, halted⟩)
  · rw [started] at draining
    rcases row with ⟨-, rfl⟩ | ⟨-, rfl⟩ <;> exact absurd draining Bool.false_ne_true

/-- SET_MODE STOP, after what follows the start of DRAINING within the request (R186). -/
theorem modeMoves_stopped {isDry : Bool} {s t u : State} (mode : s.mode = if isDry then .dry else .run)
    (draining : u.mode = .draining isDry) (work : Internal u t) : ModeMoves (.setMode .line 2) s t := by
  have running : s.mode.isHalt = false := by rw [mode]; cases isDry <;> rfl
  rcases work.mode with same | ⟨-, halted⟩ | ⟨-, setup, -⟩
  · rw [draining] at same
    cases isDry
    · exact .inr (.inr (.inr (.inl ⟨mode, rfl, .inl same⟩)))
    · exact .inr (.inr (.inr (.inr (.inl ⟨mode, rfl, .inl same⟩))))
  · exact .inr (.inl ⟨running, halted⟩)
  · cases isDry
    · exact .inr (.inr (.inr (.inl ⟨mode, rfl, .inr setup⟩)))
    · exact .inr (.inr (.inr (.inr (.inl ⟨mode, rfl, .inr setup⟩))))

theorem startDraining_internal (isDry : Bool) (s : State) :
    Internal ((s.setMode (.draining isDry)).setReg s.reg.drained) (startDraining isDry s) :=
  .ite (fun _ => endDraining_internal _)
    (fun _ => .after (endDraining_internal _) (haltIfLatched_internal _))

/-- What a SET_MODE that is not refused keeps, and the way of the mode. -/
theorem modeAfter_moves {target : Nat} {s u t : State} (taken : modeAfter target s = some u) (work : Internal u t) :
    Kept s t ∧ ModeMoves (.setMode .line target) s t := by
  have drained (m : Mode) : Kept s ((s.setMode m).setReg s.reg.drained) :=
    ⟨rfl, rfl, rfl, fun k => by cases k <;> exact .refl _ _⟩
  unfold modeAfter at taken
  split at taken
  · next setup =>
    split at taken
    · next run =>
      cases taken
      have work := (haltIfLatched_internal _).trans work
      exact ⟨(startRun_kept .run s).trans work.toKept, modeMoves_started (.inl ⟨run, rfl⟩) setup work⟩
    · split at taken
      · next dry =>
        cases taken
        exact ⟨(startRun_kept .dry s).trans work.toKept, modeMoves_started (.inr ⟨dry, rfl⟩) setup work⟩
      · cases taken
  · next run =>
    split at taken
    · next stop =>
      cases taken
      subst stop
      have work := (startDraining_internal false s).trans work
      exact ⟨(drained _).trans work.toKept, modeMoves_stopped (isDry := false) run rfl work⟩
    · cases taken
  · next dry =>
    split at taken
    · next stop =>
      cases taken
      subst stop
      have work := (startDraining_internal true s).trans work
      exact ⟨(drained _).trans work.toKept, modeMoves_stopped (isDry := true) dry rfl work⟩
    · cases taken
  · split at taken
    · cases taken
      exact ⟨work.toKept, work.mode.moves _⟩
    · cases taken
  · cases taken

theorem rowKeeps_changeMode (target : Nat) (s : State) :
    RowKeeps (.setMode .line target) s (changeMode .line target s) := by
  unfold changeMode
  split
  · exact .refused rfl .range
  · split
    · exact .refused rfl .mode
    · next taken =>
      obtain ⟨kept, moves⟩ := modeAfter_moves taken (finishDrive_internal s _)
      exact .answered (.inr ⟨_, rfl⟩) kept moves _

/-- Only a knife that is driven can bring HALT at the end of a step. -/
theorem finishDrive_prof {before after : State} (still : after.driven .knife = false) :
    (finishDrive before after).prof = after.prof := by
  have quiet : (refreshFilters before after).overloaded .knife = false :=
    not_overloaded_of_not_driven ((refreshFilters_same before after).driven .knife ▸ still)
  have other (o : Output) (s : State) (apart : o ≠ .knife) : (latchIfOverloaded o s).prof = s.prof := by
    unfold latchIfOverloaded
    split
    · cases o with
      | knife => exact absurd rfl apart
      | gate l => exact (latchGate_frame l .overload s).2.2.2.2.1
      | pusher l => exact (latchPusher_frame l .overload s).2.2.2.2.1
    · rfl
  have fold (os : List Output) (s : State) (apart : ∀ o ∈ os, o ≠ .knife) :
      (os.foldl (fun s o => latchIfOverloaded o s) s).prof = s.prof := by
    induction os generalizing s with
    | nil => rfl
    | cons o os ih =>
      rw [List.foldl_cons, ih _ fun o mem => apart o (.tail _ mem), other o s (apart o (.head _))]
  rw [finishDrive, fold _ _ fun o mem => ?_]
  · rw [(drawOrder_frame _ _ _).2.2.2.2.2.2.2.1, (refreshFilters_frame _ _).2.2.2.2.2.2.1]
  · rintro rfl
    have listed := (drawOrder_perm outputKey _ _).mem_iff.mp mem
    rw [List.mem_filter, quiet] at listed
    exact absurd listed.2 Bool.false_ne_true

theorem enterIdle_knife_still (m : Mode) (s : State) : (enterIdle m s).driven .knife = false := by
  rw [enterIdle_eq]
  exact knifeStopped_not_pulse s

theorem rowKeeps_answerResetTrack (s : State) :
    RowKeeps (.resetTrack .line) s (answerResetTrack .line s) := by
  unfold answerResetTrack
  split
  · exact .refused rfl .mode
  · next idle =>
    split
    · exact .refused rfl .state
    · obtain ⟨kept, setup⟩ := resetTrack_kept s
      have still : (resetTrack s).driven .knife = false := by
        rw [resetTrack]
        exact enterIdle_knife_still .setup _
      have mode : (finishDrive s (resetTrack s)).mode = .setup := by
        rw [State.mode, finishDrive_prof still]
        exact setup
      refine .answered (.inr ⟨_, rfl⟩) (kept.trans (finishDrive_internal s _).toKept) ?_ _
      cases before : s.mode with
      | setup => exact .inl (mode.trans before.symm)
      | halt cause =>
        exact .inr (.inr (.inr (.inr (.inr (.inr ⟨by rw [before]; rfl, rfl, mode⟩)))))
      | run | dry | draining _ => exact absurd (by rw [before]; rfl) idle

/-! ## Every request -/

theorem setProf_internal {s : State} {p : ProfileUnit} (mode : p.mode = s.prof.mode) : Internal s (s.setProf p) :=
  .of_eq rfl rfl mode rfl

theorem withdrawCommit_internal (s : State) : Internal s (withdrawCommit s) := setProf_internal rfl

theorem lineRejected_internal (run future : List RepeatNo) (m : LaneSet) (s : State) :
    Internal s (takeFuture future m (run.foldl (fun p n => rejectRepeat m n p) (s, ⟨0, 0⟩)).1) := by
  have kept := foldl_keep (fun p : State × RejectTally => (p.1.pos, p.1.links, p.1.act, p.1.prof))
    (fun p n => rejectRepeat m n p) (fun p n => by simp) run (s, ⟨0, 0⟩)
  simp only [Prod.mk.injEq] at kept
  refine .after (t := (run.foldl (fun p n => rejectRepeat m n p) (s, ⟨0, 0⟩)).1) ?_ (.of_frame kept)
  unfold takeFuture
  split
  · exact .refl _
  · exact setCut_internal _ _

theorem execRequest_rowAnswers {c : Instr} (request : c.request.isSome = true) (s : State) :
    RowAnswers c s (execRequest c s) := by
  have still : ∀ {k : StationLink} {q : Request} {u : State}, c.request = some (k, q) → Internal s u →
      ∀ res p, RowKeeps c s (u.reply k q res p) := fun spelled work => .replied spelled work
  cases c with
  | nop k => exact rowAnswers_taken rfl fun _ => still rfl (.refl s) _ _
  | readStatus k page => exact rowAnswers_taken rfl fun _ => rowKeeps_readStatus k page s
  | readEvents k => exact rowAnswers_taken rfl fun _ => still rfl (.refl s) _ _
  | ackEvents k m => exact rowAnswers_taken rfl fun _ => rowKeeps_ackEvents k m s _
  | setEventMask k m => exact rowAnswers_taken rfl fun _ => rowKeeps_setEventMask k m s _
  | readRepeat k n part => exact rowAnswers_taken rfl fun _ => rowKeeps_readRepeat k n part s
  | readRecord k slot => exact rowAnswers_taken rfl fun _ => by split <;> exact still rfl (.refl s) _ _
  | haltRequest k => exact rowAnswers_taken rfl fun _ => still rfl (haltFor_internal _ s) _ _
  | setProfileField k field value =>
    refine rowAnswers_taken rfl fun _ => ?_
    unfold setProfileField
    split
    · exact still rfl (.refl s) _ _
    · split
      · exact still rfl (setProf_internal (s := s) (by rfl)) _ _
      · exact still rfl (.refl s) _ _
  | readProfile k selector field =>
    refine rowAnswers_taken rfl fun _ => ?_
    unfold readProfile
    (repeat' split) <;> exact still rfl (.refl s) _ _
  | commitProfile k source n =>
    refine rowAnswers_taken rfl fun _ => ?_
    unfold commitProfile
    split
    · exact still rfl (.refl s) _ _
    · split
      · exact still rfl (.refl s) _ _
      · unfold acceptCommit
        split
        · exact still rfl (.after (finishDrive_internal _ _) (commitNow_internal s)) _ _
        · exact still rfl (setProf_internal (s := s) (by rfl)) _ _
  | cancelCommit k =>
    refine rowAnswers_taken rfl fun _ => ?_
    split
    · exact still rfl (withdrawCommit_internal s) _ _
    · exact still rfl (.refl s) _ _
  | setMode k target =>
    refine rowAnswers_taken rfl fun allowed => ?_
    obtain rfl := allowed_setMode allowed
    exact rowKeeps_changeMode target s
  | resetTrack k =>
    refine rowAnswers_taken rfl fun allowed => ?_
    obtain rfl := allowed_resetTrack allowed
    exact rowKeeps_answerResetTrack s
  | queueOrder k l tag job target nogap final =>
    refine rowAnswers_taken rfl fun _ => ?_
    unfold queueOrder queueOrderOn
    (repeat' split) <;> first | exact still rfl (.refl s) _ _ | exact still rfl (setLane_internal s _ _) _ _
  | cancelOrder k lane tag =>
    refine rowAnswers_taken rfl fun _ => ?_
    have queued (l : Lane) : RowKeeps (.cancelOrder k lane tag) s (cancelQueued k l tag s) := by
      unfold cancelQueued
      split
      · exact still rfl (.refl s) _ _
      · exact still rfl (setLane_internal s _ _) _ _
    split
    · exact still rfl (.refl s) _ _
    · unfold cancelOn
      split
      · exact queued _
      · split
        · exact still rfl (.after (finishDrive_internal _ _) (cancelOpenStack_internal _ s)) _ _
        · exact queued _
  | laneResume k l =>
    refine rowAnswers_taken rfl fun _ => ?_
    (repeat' split) <;> first | exact still rfl (.refl s) _ _ | exact still rfl (setLaneState_internal s _ _) _ _
  | laneClear k l =>
    refine rowAnswers_taken rfl fun _ => ?_
    split
    · exact still rfl (.refl s) _ _
    · unfold laneClear
      (repeat' split) <;>
        first
        | exact still rfl (.refl s) _ _
        | exact still rfl (.after (finishDrive_internal _ _) (clearLane_internal _ _ s)) _ _
  | lineReject k first count mask =>
    refine rowAnswers_taken rfl fun _ => ?_
    unfold lineReject
    (repeat' split)
    · exact still rfl (.refl s) _ _
    · exact still rfl (.refl s) _ _
    · exact still rfl (lineRejected_internal _ _ _ s) _ _
  | readCounters k group =>
    refine rowAnswers_taken rfl fun _ => ?_
    split <;> exact still rfl (.refl s) _ _
  | clearCounters k => exact rowAnswers_taken rfl fun _ => still rfl (setCnt_internal s _) _ _
  | setDiagEnable k knife gates pushers =>
    refine rowAnswers_taken rfl fun _ => ?_
    obtain ⟨pos, -, -, -, -, -, prof, -, -, links, -⟩ := setDiagEnable_frame ⟨knife, gates, pushers⟩ s
    exact .of_start (.replied rfl (finishDrive_internal s _) .ok .none) pos links (congrArg ProfileUnit.mode prof)
  | verdict k n mask defectClass =>
    refine rowAnswers_taken rfl fun _ => ?_
    unfold verdict
    split
    · exact still rfl (.refl s) _ _
    · split
      · unfold verdictInMap
        split
        · exact still rfl (lateVerdict_internal s) _ _
        · refine still rfl ?_ _ _
          exact .ite (fun _ => updateRecord_internal s _ _)
            (fun _ => .after (lateVerdict_internal _) (updateRecord_internal s _ _))
      · split
        · exact still rfl (lateVerdict_internal s) _ _
        all_goals exact still rfl (.refl s) _ _
  | fetchNotice k =>
    refine rowAnswers_taken rfl fun _ => ?_
    split
    · exact still rfl (.refl s) _ _
    · exact still rfl (setMap_internal s _) _ _
  | fetchRecord k selector =>
    refine rowAnswers_taken rfl fun _ => ?_
    (repeat' split) <;> exact still rfl (.refl s) _ _
  | ackRecord k slot seq =>
    refine rowAnswers_taken rfl fun _ => ?_
    split
    · exact still rfl (.refl s) _ _
    · exact still rfl (.of_frame (by simp)) _ _
  | closeNow k l =>
    refine rowAnswers_taken rfl fun _ => ?_
    split
    · exact still rfl (.refl s) _ _
    · unfold closeNow
      (repeat' split) <;>
        first
        | exact still rfl (.refl s) _ _
        | exact still rfl (.after (finishDrive_internal _ _) (closeOpenStack_internal _ _ s)) _ _
  | _ => simp [Instr.request] at request

/-! ## Every row -/

/-- The rows that are no request, no count and no device reset. -/
theorem exec_rowAnswers_of_event {c : Instr} (event : c.request = none) (count : ∀ a d, c ≠ .countArrival a d)
    (frame : ∀ k f, c ≠ .brokenFrame k f) (reset : c ≠ .deviceReset) (s : State) : RowAnswers c s (exec c s) := by
  cases c with
  | skippedTransition a => exact .of_internal (setCnt_internal s _) _
  | speedSample =>
    refine .of_internal ?_ _
    refine .after (raiseIf_internal _ .speedClamp _) ⟨⟨rfl, rfl, rfl, fun k => ?_⟩, .inl rfl⟩
    cases k <;> exact .refl _ _
  | markLeadingEdge =>
    refine .of_internal (.ite (fun _ => .refl s) fun _ => ?_) _
    exact .ite (fun _ => .after (setReg_internal _ _) (setPins_internal s _)) (fun _ => setPins_internal s _)
  | markTrailingEdge =>
    exact .of_internal (.ite (fun _ => .after (shortMark_internal _) (setPins_internal s _)) fun _ => .refl s) _
  | qualificationPoint =>
    refine .of_internal ?_ _
    split
    · exact .refl s
    · exact .ite (fun _ => .after (qualifiedMark_internal _ _) (setReg_internal s _)) fun _ => .refl s
  | windowOpening =>
    refine .of_internal ?_ _
    split
    · exact .refl s
    · exact .ite (fun _ => setReg_internal s _) fun _ => .refl s
  | windowExpiry =>
    refine .of_internal ?_ _
    split
    · exact .refl s
    · exact .ite
        (fun _ => .ite (fun _ => setReg_internal s _)
          fun _ => .after (finishDrive_internal _ _) (.after (afterMark_internal _) (expireNow_internal _ s)))
        fun _ => .refl s
  | virtualMarkTarget =>
    refine .of_internal ?_ _
    split
    · exact .refl s
    · exact .ite (fun _ => .after (finishDrive_internal _ _) (.after (afterMark_internal _) (takeMark_internal _ s)))
        fun _ => .refl s
  | firePosition =>
    exact .of_internal (.ite (fun _ => .after (finishDrive_internal _ _) (fireReached_internal _ s)) fun _ => .refl s) _
  | knifeConfirm =>
    refine .of_internal ?_ _
    split
    · exact setCnt_internal s _
    · exact .after (reportDrained_internal _) (.after (setCut_internal _ _) (updateRecord_internal s _ _))
  | confirmWindowExpiry =>
    refine .of_internal ?_ _
    split
    · exact .refl s
    · exact .ite (fun _ => .after (reportDrained_internal _) (missStrike_internal _ s)) fun _ => .refl s
  | knifePulseEnd =>
    refine .of_internal ?_ _
    split
    · exact .after (finishDrive_internal _ _) (knifeTo_internal _ s)
    all_goals exact .refl s
  | knifeOffTimeEnd =>
    refine .of_internal ?_ _
    split
    · exact .after (finishDrive_internal _ _) (knifeTo_internal _ s)
    all_goals exact .refl s
  | spliceDetection => exact .of_internal (.ite (fun _ => spliceSeen_internal s) fun _ => .refl s) _
  | lastStampExpiry =>
    refine .of_internal ?_ _
    split
    · exact .refl s
    · exact .ite (fun _ => setMap_internal s _) fun _ => .refl s
  | cameraPosition n =>
    refine .of_internal ?_ _
    split
    · exact .refl s
    · exact .ite (fun _ => cameraEvent_internal _ s) fun _ => .refl s
  | cameraPulseEnd =>
    have stopped : Internal s (s.setAct { s.act with camera := none }) := .of_eq rfl rfl rfl rfl
    exact .of_internal stopped _
  | decisionPosition n lanes =>
    refine .of_internal ?_ _
    split
    · exact .refl s
    · exact .ite (fun _ => .after (finishDrive_internal _ _) (decisionEvent_internal n lanes s)) fun _ => .refl s
  | rejectEndExpiry l =>
    refine .of_internal ?_ _
    split
    · exact .refl s
    · exact .ite (fun _ => setLane_internal s l _) fun _ => .refl s
  | recordExit n =>
    refine .of_internal ?_ _
    split
    · exact .refl s
    · exact .ite (fun _ => exitRecord_internal n s) fun _ => .refl s
  | purgeEnd =>
    refine .of_internal ?_ _
    split
    · exact .refl s
    · exact .ite (fun _ => .after (raiseEvent_internal .purgeOff _) (setMap_internal s _)) fun _ => .refl s
  | ejectPosition l =>
    exact .of_internal (.ite (fun _ => .after (finishDrive_internal _ _) (runEjects_internal l s)) fun _ => .refl s) _
  | pusherPulseEnd l =>
    refine .of_internal ?_ _
    split
    · exact .after (finishDrive_internal _ _) (endPusherPulse_internal l s)
    all_goals exact .refl s
  | pusherOffTimeEnd l =>
    refine .of_internal ?_ _
    split
    · exact .after (finishDrive_internal _ _) (endPusherOffTime_internal l s)
    all_goals exact .refl s
  | gateHoldEnd l =>
    refine .of_internal ?_ _
    split
    · exact .refl s
    · exact .ite (fun _ => .after (finishDrive_internal _ _) (setGate_internal s l _)) fun _ => .refl s
  | senseLineChange o v => exact .of_internal (.after (finishDrive_internal _ _) (senseChange_internal o _ s)) _
  | inactiveTimeElapsed o => exact .of_internal (.ite (fun _ => setFilter_internal s o _) fun _ => .refl s) _
  | openLoadLatch o =>
    exact .of_internal
      (.ite (fun _ => .after (finishDrive_internal _ _) (latchOutput_internal o .opened s)) fun _ => .refl s) _
  | stopInputActive => exact .of_internal (.after (haltFor_internal .stopInput _) (setPins_internal s _)) _
  | stopInputInactive => exact .of_internal (setPins_internal s _) _
  | selectAssert k => exact ⟨_, rfl, rowKeeps_selectAssert k s⟩
  | deviceReset => exact absurd rfl reset
  | countArrival a d => exact absurd rfl (count a d)
  | brokenFrame k f => exact absurd rfl (frame k f)
  | _ => simp [Instr.request] at event

/-- The command that a passing frame spells is the request of the frame's own link (R192). -/
theorem Frame.command_request {k : StationLink} {f : Frame} {c : Instr} (spells : f.command k = some c) :
    c.request.isSome = true := by
  unfold Frame.command at spells
  split at spells
  · cases spells
  · obtain ⟨q, -, rfl⟩ := Option.map_eq_some_iff.mp spells
    cases q <;> rfl

theorem Instr.spelled_of_ne {c : Instr} (frame : ∀ k f, c ≠ .brokenFrame k f) : c.spelled = c := by
  cases c with
  | brokenFrame k f => exact absurd rfl (frame k f)
  | _ => rfl

theorem brokenFrame_rowAnswers (k : StationLink) (f : Frame) (s : State) :
    RowAnswers (Instr.brokenFrame k f).spelled s (exec (.brokenFrame k f) s) := by
  have answered : exec (.brokenFrame k f) s = execBrokenFrame k f s := rfl
  rw [answered, execBrokenFrame]
  split
  · exact .of_internal (.refl s) _
  · cases refusal : f.refusal k with
    | some r =>
      have spelled : (Instr.brokenFrame k f).spelled = .brokenFrame k f := by simp [Instr.spelled, refusal]
      rw [spelled]
      exact ⟨_, rfl, .answered (.inl ⟨f, rfl⟩) (.refl s) (.inl rfl) _⟩
    | none =>
      cases spells : f.command k with
      | none => exact .of_internal (.refl s) _
      | some c =>
        have spelled : (Instr.brokenFrame k f).spelled = c := by simp [Instr.spelled, refusal, spells]
        rw [spelled]
        exact execRequest_rowAnswers (Frame.command_request spells) s

/-- Every row but a count and a device reset. -/
theorem exec_rowAnswers {c : Instr} (count : ∀ a d, c ≠ .countArrival a d) (reset : c ≠ .deviceReset) (s : State) :
    RowAnswers c.spelled s (exec c s) := by
  by_cases frame : ∃ k f, c = .brokenFrame k f
  · obtain ⟨k, f, rfl⟩ := frame
    exact brokenFrame_rowAnswers k f s
  · have other : ∀ k f, c ≠ .brokenFrame k f := fun k f same => frame ⟨k, f, same⟩
    rw [Instr.spelled_of_ne other]
    by_cases request : c.request.isSome = true
    · rw [exec_eq_execRequest request]
      exact execRequest_rowAnswers request s
    · exact exec_rowAnswers_of_event (by simpa using request) count other reset s

/-! ## Counts -/

/-- A count moves its counter, and then does the work of its events. -/
theorem exec_countArrival (a : Axis) (d : Direction) (s : State) :
    ∃ u t, exec (.countArrival a d) s = .next t ∧ Internal u t ∧ u.links = s.links ∧ u.mode = s.mode ∧
      u.pos = (s.setEncoder a (match d with
        | .forward => (s.encoder a).forward s.mode.idle
        | .reverse => (s.encoder a).reverse s.mode.idle)).pos := by
  cases d with
  | forward =>
    refine ⟨countForward a s, _, rfl, .refl _, by simp, ?_, ?_⟩
    · exact congrArg ProfileUnit.mode (countForward_frame a s).2.1
    · unfold countForward
      split <;> simp
  | reverse =>
    refine ⟨countBack a s, _, rfl, .ite (fun _ => haltFor_internal _ _) (fun _ => .refl _), by simp, ?_, by simp [countBack]⟩
    exact congrArg ProfileUnit.mode (countBack_frame a s).2.2.2.2.2.1

/-- A count keeps what the other rows keep, but for its counter. -/
theorem exec_links_and_mode {c : Instr} (reset : c ≠ .deviceReset) (s : State) : ∃ t, exec c s = .next t ∧
    (∀ k, RowLink c.spelled k (s.link k) (t.link k)) ∧ ModeMoves c.spelled s t := by
  by_cases count : ∃ a d, c = .countArrival a d
  · obtain ⟨a, d, rfl⟩ := count
    obtain ⟨u, t, answered, work, links, mode, -⟩ := exec_countArrival a d s
    refine ⟨t, answered, fun k => ?_, ?_⟩
    · have link : u.link k = s.link k := by cases k <;> simp [State.link, links]
      exact link ▸ (work.links k).row _
    · have moves := work.mode.moves (Instr.countArrival a d).spelled
      rwa [ModeMoves, mode] at moves
  · obtain ⟨t, answered, keeps⟩ := exec_rowAnswers (fun a d same => count ⟨a, d, same⟩) reset s
    exact ⟨t, answered, keeps.links, keeps.mode⟩

/-! ## Events that a link carries (R195, R196) -/

theorem sub_carried_iff {m c : EventSet} : m &&& ~~~c = 0 ↔ ∀ i, m.getLsbD i = true → c.getLsbD i = true := by
  refine ⟨fun none i set => ?_, fun sub => BitVec.eq_of_getLsbD_eq fun i small => ?_⟩
  · have small : i < 32 := BitVec.lt_of_getLsbD set
    have bit := congrArg (fun v => v.getLsbD i) none
    simpa [set, small] using bit
  · cases set : m.getLsbD i
    · simp [set]
    · simp [sub i set]

theorem EventsCarried.of_rowLink {c : Instr} {s t : State} (carried : EventsCarried s)
    (links : ∀ k, RowLink c k (s.link k) (t.link k)) : EventsCarried t := by
  intro k mem
  obtain ⟨flags, mask⟩ := carried k mem
  rw [sub_carried_iff] at flags mask ⊢
  exact ⟨fun i set => ((links k).carried i set).elim (flags i) id,
    sub_carried_iff.mpr fun i set => ((links k).carriedMask i set).elim (mask i) id⟩

theorem exec_eventsCarried {c : Instr} {s t : State} (answered : exec c s = .next t) (carried : EventsCarried s) :
    EventsCarried t := by
  by_cases reset : c = .deviceReset
  · subst reset
    rw [exec_deviceReset] at answered
    cases answered
    exact deviceReset_eventsCarried s
  · obtain ⟨u, same, links, -⟩ := exec_links_and_mode reset s
    rw [same] at answered
    cases answered
    exact carried.of_rowLink links

/-! ## The obligations -/

/-- Settles O4: the work of a row leaves both counters, and a count moves its own. -/
theorem countersMoveOnlyByCounts : Obligations.CountersMoveOnlyByCounts := by
  have counted (a : Axis) (d : Direction) (s : State) : ∃ t, exec (.countArrival a d) s = .next t ∧
      t.web = (s.setEncoder a (match d with
        | .forward => (s.encoder a).forward s.mode.idle
        | .reverse => (s.encoder a).reverse s.mode.idle)).web ∧
      t.belt = (s.setEncoder a (match d with
        | .forward => (s.encoder a).forward s.mode.idle
        | .reverse => (s.encoder a).reverse s.mode.idle)).belt := by
    obtain ⟨u, t, answered, work, -, -, pos⟩ := exec_countArrival a d s
    exact ⟨t, answered, work.web.trans (congrArg (fun p => p.web.counter) pos),
      work.belt.trans (congrArg (fun p => p.belt.counter) pos)⟩
  refine ⟨fun s => ⟨counted .web .forward s, counted .web .reverse s, ?_, ?_, ?_⟩, fun c s count reset => ?_⟩
  · obtain ⟨t, answered, web, belt⟩ := counted .belt .forward s
    exact ⟨t, answered, belt, web⟩
  · obtain ⟨t, answered, web, belt⟩ := counted .belt .reverse s
    exact ⟨t, answered, belt, web⟩
  · obtain ⟨pos, -⟩ := deviceReset_blocks s
    refine ⟨_, exec_deviceReset s, ?_, ?_⟩
    · rw [State.web, pos]; rfl
    · rw [State.belt, pos]; rfl
  · obtain ⟨t, answered, keeps⟩ := exec_rowAnswers count reset s
    exact ⟨t, answered, keeps.web, keeps.belt⟩

/-- Settles O60: the ways of the mode are those of `ModeMoves`, which every row keeps to. -/
theorem modesMoveOnlyByTheirWays : Obligations.ModesMoveOnlyByTheirWays := by
  intro row s reset
  obtain ⟨t, answered, -, moves⟩ := exec_links_and_mode reset s
  exact ⟨t, answered, moves⟩

/-- Settles O47: what a row may do to a link is `RowLink`. -/
theorem linksMoveOnlyByTheirOwnCommands : Obligations.LinksMoveOnlyByTheirOwnCommands := by
  intro row k s reset
  obtain ⟨t, answered, links, -⟩ := exec_links_and_mode reset s
  obtain ⟨snapshot, copy, output, mask, slot, phase, kept, -, -⟩ := links k
  refine ⟨t, answered, snapshot, copy, output, mask, slot, phase, fun none => ?_⟩
  refine BitVec.eq_of_getLsbD_eq fun i small => ?_
  have clear : (if k = .line then 0x208#32 else 0) = clearable k := by cases k <;> rfl
  have flag := kept none i
  rw [clear]
  cases before : (s.link k).flags.getLsbD i with
  | false => simp [before]
  | true => rcases flag before with set | set <;> simp [set]

end Sys2Proof.Machine

/-!
PROOFS. The work of a row as a run of operations: one walk over the rows, from which the invariants are read off.
-/

namespace Sys2Proof.Machine

/-! ## Operations -/

/-- What a record keeps under the operations that decide nothing. -/
def Touched (r r' : RepeatRecord) : Prop :=
  r' = { r with
    confirmed := r'.confirmed, uncut := r'.uncut, lineLanes := r'.lineLanes, vision := r'.vision
    defectClass := r'.defectClass, verdict := r'.verdict, cameraTaken := r'.cameraTaken }

/-- What a lane keeps under the operations that move no stack: all but its pulse stack, its reject end, and the due flag
and the position of its ejects. -/
def LaneUnit.SameStacks (u u' : LaneUnit) : Prop :=
  u'.state = u.state ∧ u'.orders = u.orders ∧ u'.openStack = u.openStack ∧ u'.gap = u.gap ∧
  u'.quarantine = u.quarantine ∧ u'.ejects.map (fun e => (e.slot, e.seq)) = u.ejects.map (fun e => (e.slot, e.seq))

/-- One operation of a row, with the number of mark events it makes. -/
inductive Work : Nat → State → State → Prop
  | pos (s : State) (p : PositionUnit) : Work 0 s (s.setPos p)
  | reg (s : State) (r : Registration) (pEff : r.pEff = s.reg.pEff) (number : r.number = s.reg.number) :
    Work 0 s (s.setReg r)
  | cut (s : State) (c : CutScheduler)
    (schedule : c.schedule.map (fun x => x.repeatNo) = s.cut.schedule.map (fun x => x.repeatNo))
    (queue : c.queue.map (fun x => x.repeatNo) = s.cut.queue.map (fun x => x.repeatNo))
    (splices : c.splices = s.cut.splices) : Work 0 s (s.setCut c)
  | map (s : State) (m : TransitMap) (records : m.records = s.map.records)
    (notices : m.notices.length ≤ s.map.notices.length) : Work 0 s (s.setMap m)
  | touch (s : State) (n : RepeatNo) (f : RepeatRecord → RepeatRecord) (touches : ∀ r, Touched r (f r)) :
    Work 0 s (s.updateRecord n f)
  | lane (s : State) (l : Lane) (u : LaneUnit) (same : (s.lane l).SameStacks u) : Work 0 s (s.setLane l u)
  | act (s : State) (a : Actuators) (gates : ∀ l : Lane, a.gates[l].latch = (s.gate l).latch)
    (pushers : ∀ l : Lane, a.pushers[l].latch = (s.pusher l).latch) : Work 0 s (s.setAct a)
  | prof (s : State) (p : ProfileUnit) (active : p.active = s.prof.active) : Work 0 s (s.setProf p)
  | pins (s : State) (p : Pins) : Work 0 s (s.setPins p)
  | links (s : State) (k : Links) : Work 0 s (s.setLinks k)
  | cnt (s : State) (c : Counters) (lanes : c.lanes = s.cnt.lanes) : Work 0 s (s.setCnt c)
  | races (s : State) (n : Nat) : Work 0 s (s.setRaces n)
  | pending (s : State) (q : List Instr) : Work 0 s (s.setPending q)
  | reached (s : State) (a : Axis) (now : Pos) : Work 0 s (markReached a now s)
  | idle (s : State) (m : Mode) : Work 0 s (enterIdle m s)
  | latchGate (s : State) (l : Lane) (kind : Latch) : Work 0 s (latchGate l kind s)
  | latchPusher (s : State) (l : Lane) (kind : Latch) : Work 0 s (latchPusher l kind s)
  | commit (s : State) : Work 0 s (applyCommit s)
  | mark (s : State) (m : MarkEvent) : Work 1 s (takeMark m s)
  | fire (s : State) : Work 0 s (fireHead s)
  | strike (s : State) : Work 0 s (strikeOldest s)
  | splice (s : State) (z : Zone) : Work 0 s (s.setCut { s.cut with splices := addZone z s.cut.splices })
  | notice (s : State) (n : Notice) : Work 0 s (pushNotice n s)
  | purge (s : State) (n : RepeatNo) : Work 0 s (testPurge n s)
  | decide (s : State) (n : RepeatNo) (l : Lane)
    (due : ∀ r, s.record n = some r → r.decisionTaken = false ∧ r.purgeTested = true) : Work 0 s (decideLane n l s)
  | decided (s : State) (n : RepeatNo) : Work 0 s (markDecided n s)
  | resetLane (s : State) (l : Lane) : Work 0 s (resetLane l s)
  | release (s : State) (l : Lane) (f : StackRecord → StackRecord)
    (same : ∀ r, (f r).lane = r.lane ∧ (f r).seq = r.seq) : Work 0 s (releaseHead l f s)
  | close (s : State) (l : Lane) (o : OpenStack) (opened : (s.lane l).openStack = some o)
    (forming : (s.formingRecord o).isSome = true) : Work 0 s (closeOpenStack l o s)
  | cancel (s : State) (l : Lane) (o : OpenStack) (opened : (s.lane l).openStack = some o)
    (forming : (s.formingRecord o).isSome = true) : Work 0 s (cancelOpenStack l s)
  | order (s : State) (l : Lane) (o : Order) (room : (s.lane l).orders.length < Config.maxOrders) :
    Work 0 s (s.setLane l ((s.lane l).withOrder o))
  | unqueue (s : State) (l : Lane) (p : Order → Bool) :
    Work 0 s (s.setLane l { s.lane l with orders := removeFirst p (s.lane l).orders })
  | resume (s : State) (l : Lane) (held : (s.lane l).state = .held) :
    Work 0 s (s.setLaneState l (s.lane l).idleState)
  | clear (s : State) (l : Lane) (i : SlotIndex) (fault : (s.lane l).state = .fault) (free : s.freeSlot = some i) :
    Work 0 s (clearLane l i s)
  | ack (s : State) (i : SlotIndex) : Work 0 s (freeReadySlot i s)
  | clearCounters (s : State) : Work 0 s (s.setCnt (clearedCounters s))

/-- The removal of records from the map: of one whose decision is taken, or of all. -/
inductive Removal : State → State → Prop
  | exit (s : State) (n : RepeatNo) (r : RepeatRecord) (record : s.record n = some r)
    (taken : r.decisionTaken = true) :
    Removal s (s.setMap { s.map with records := removeFirst (fun r => r.repeatNo == n) s.map.records })
  | emptied (s : State) : Removal s (resetMap s)

/-- A run of operations with at most `n` mark events. -/
inductive Runs : Nat → State → State → Prop
  | refl (n : Nat) (s : State) : Runs n s s
  | step {k n : Nat} {s t u : State} (first : Work k s t) (rest : Runs n t u) : Runs (k + n) s u

namespace Runs

theorem mono {m n : Nat} {s t : State} (run : Runs m s t) (more : m ≤ n) : Runs n s t := by
  induction run generalizing n with
  | refl => exact .refl n _
  | @step k m s t u first rest ih =>
    obtain ⟨d, rfl⟩ := Nat.exists_eq_add_of_le more
    exact Nat.add_assoc k m d ▸ .step first (ih (Nat.le_add_right m d))

theorem trans {m n : Nat} {s t u : State} (st : Runs m s t) (tu : Runs n t u) : Runs (m + n) s u := by
  induction st with
  | refl m => exact tu.mono (Nat.le_add_left n m)
  | step first rest ih => exact Nat.add_assoc _ _ _ ▸ .step first (ih tu)

theorem work {k : Nat} {s t : State} (one : Work k s t) : Runs k s t := .step one (.refl 0 t)

/-- `trans` for work without mark events, from the last operation inwards. -/
theorem after {n : Nat} {s t u : State} (last : Runs 0 t u) (run : Runs n s t) : Runs n s u := run.trans last

/-- Work without mark events before a run. -/
theorem behind {n : Nat} {s t u : State} (run : Runs n t u) (first : Runs 0 s t) : Runs n s u :=
  Nat.zero_add n ▸ first.trans run

theorem ite {n : Nat} {c : Prop} [Decidable c] {s t u : State} (yes : c → Runs n s t) (no : ¬c → Runs n s u) :
    Runs n s (if c then t else u) := by
  split
  · next h => exact yes h
  · next h => exact no h

theorem foldl {α : Type} {f : State → α → State} (each : ∀ s a, Runs 0 s (f s a)) (xs : List α) (s : State) :
    Runs 0 s (xs.foldl f s) := by
  induction xs generalizing s with
  | nil => exact .refl 0 s
  | cons x xs ih => exact .after (ih (f s x)) (each s x)

/-- What every operation keeps, a run keeps. -/
theorem keeps {P : State → Prop} (each : ∀ {k s t}, Work k s t → P s → P t) {n : Nat} {s t : State} (run : Runs n s t)
    (start : P s) : P t := by
  induction run with
  | refl => exact start
  | step first rest ih => exact ih (each first start)

end Runs

/-! ## Writes to one block -/

theorem setLink_runs (s : State) (k : StationLink) (u : LinkUnit) : Runs 0 s (s.setLink k u) := by
  cases k <;> exact .work (.links s _)

theorem raiseEvent_runs (e : Event) (s : State) : Runs 0 s (raiseEvent e s) := .work (.links s _)

theorem raiseIf_runs (b : Bool) (e : Event) (s : State) : Runs 0 s (raiseIf b e s) :=
  .ite (fun _ => raiseEvent_runs e s) (fun _ => .refl 0 s)

theorem answer_runs (s : State) (k : StationLink) (r : Response) : Runs 0 s (s.answer k r) := setLink_runs s k _

theorem reply_runs {n : Nat} {s u : State} (run : Runs n s u) (k : StationLink) (q : Request) (res : Result)
    (p : Payload) : Runs n s (u.reply k q res p) := .after (answer_runs u k _) run

theorem set_getElem {α : Type} (v : Vector α 8) (l m : Lane) (x : α) :
    (v.set l.val x l.isLt)[m] = if m = l then x else v[m] := by
  rw [Fin.getElem_fin, Vector.getElem_set]
  simp [Fin.ext_iff, eq_comm]

theorem setGate_runs {s : State} {l : Lane} {g : Gate} (latch : g.latch = (s.gate l).latch) :
    Runs 0 s (s.setGate l g) := by
  refine .work (.act s _ (fun m => ?_) (fun _ => rfl))
  rw [set_getElem]
  split
  · next same => exact same ▸ latch
  · rfl

theorem setPusher_runs {s : State} {l : Lane} {p : Pusher} (latch : p.latch = (s.pusher l).latch) :
    Runs 0 s (s.setPusher l p) := by
  refine .work (.act s _ (fun _ => rfl) (fun m => ?_))
  rw [set_getElem]
  split
  · next same => exact same ▸ latch
  · rfl

theorem setKnife_runs (s : State) (k : Knife) : Runs 0 s (s.setKnife k) :=
  .work (.act s _ (fun _ => rfl) (fun _ => rfl))

theorem setFilter_runs (s : State) (o : Output) (f : Filter) : Runs 0 s (s.setFilter o f) := by
  cases o with
  | knife => exact setKnife_runs s _
  | gate l => exact setGate_runs rfl
  | pusher l => exact setPusher_runs rfl

theorem setLane_runs {s : State} {l : Lane} {u : LaneUnit} (same : (s.lane l).SameStacks u) :
    Runs 0 s (s.setLane l u) := .work (.lane s l u same)

theorem drawOrder_runs {α : Type} (key : α → Nat) (xs : List α) (s : State) : Runs 0 s (drawOrder key xs s).2 := by
  unfold drawOrder
  split
  · exact .refl 0 s
  · exact .refl 0 s
  · exact .work (.races s _)

/-! ## HALT and the end of a step -/

theorem endPusherPulse_runs (l : Lane) (s : State) : Runs 0 s (endPusherPulse l s) := by
  refine .ite (fun _ => .after (setLane_runs ?_) (setPusher_runs rfl)) (fun _ => .refl 0 s)
  exact ⟨rfl, rfl, rfl, rfl, rfl, rfl⟩

theorem haltPusher_runs (l : Lane) (s : State) : Runs 0 s (haltPusher l s) :=
  .after (setPusher_runs rfl) (endPusherPulse_runs l s)

theorem haltPushers_runs (s : State) : Runs 0 s (haltPushers s) := by
  rw [haltPushers_eq]
  exact .foldl (fun s l => haltPusher_runs l s) _ _

theorem removeHolds_runs (s : State) : Runs 0 s (removeHolds s) :=
  .work (.act s _ (fun l => by simp only [perLane_getElem]; rfl) (fun _ => rfl))

theorem enterHalt_runs (cause : HaltCause) (s : State) : Runs 0 s (enterHalt cause s) :=
  .ite (fun _ => .refl 0 s)
    (fun _ => .after (raiseEvent_runs .haltEntered _) (.after (removeHolds_runs _) (.after (haltPushers_runs _)
      (.after (.work (.idle _ _)) (.work (.prof s _ rfl))))))

theorem latchOutput_runs (o : Output) (kind : Latch) (s : State) : Runs 0 s (latchOutput o kind s) := by
  cases o with
  | knife => exact .after (enterHalt_runs .knifeFault _) (setKnife_runs s _)
  | gate l => exact .work (.latchGate s l kind)
  | pusher l => exact .work (.latchPusher s l kind)

theorem refreshFilters_runs (before after : State) : Runs 0 after (refreshFilters before after) :=
  .foldl (fun s o => .ite (fun _ => setFilter_runs s o .settling) (fun _ => .refl 0 s)) _ _

theorem finishDrive_runs (before after : State) : Runs 0 after (finishDrive before after) :=
  .after (.foldl (fun s o => .ite (fun _ => latchOutput_runs o .overload s) (fun _ => .refl 0 s)) _ _)
    (.after (drawOrder_runs _ _ _) (refreshFilters_runs before after))

theorem haltFor_runs (cause : HaltCause) (s : State) : Runs 0 s (haltFor cause s) :=
  .ite (fun _ => .refl 0 s) (fun _ => .after (finishDrive_runs _ _) (enterHalt_runs cause s))

theorem endDraining_runs (s : State) : Runs 0 s (endDraining s) :=
  .ite (fun _ => .after (raiseEvent_runs .drained _) (.work (.idle s .setup))) (fun _ => .refl 0 s)

theorem reportDrained_runs (s : State) : Runs 0 s (reportDrained s) :=
  .ite (fun _ => .after (finishDrive_runs _ _) (endDraining_runs s)) (fun _ => .refl 0 s)

/-! ## Ejects and pushers -/

theorem startPusherPulse_runs (l : Lane) (s : State) : Runs 0 s (startPusherPulse l s) := setPusher_runs rfl

theorem releaseHead_runs {l : Lane} {f : StackRecord → StackRecord} (same : ∀ r, (f r).lane = r.lane ∧ (f r).seq = r.seq)
    (s : State) : Runs 0 s (releaseHead l f s) := .work (.release s l f same)

theorem ejectHead_runs (l : Lane) (s : State) : Runs 0 s (ejectHead l s) := by
  have faulted (r : StackRecord) : r.withEjectFault.lane = r.lane ∧ r.withEjectFault.seq = r.seq := ⟨rfl, rfl⟩
  unfold ejectHead
  split
  · exact .refl 0 s
  · next e rest ejects =>
    have due (e' : Eject) (same : (e'.slot, e'.seq) = (e.slot, e.seq)) :
        Runs 0 s (s.setLane l { s.lane l with ejects := e' :: rest }) :=
      setLane_runs ⟨rfl, rfl, rfl, rfl, rfl, by rw [ejects, List.map_cons, List.map_cons, same]⟩
    refine .ite (fun _ => releaseHead_runs (fun r => by split <;> exact ⟨rfl, rfl⟩) s) (fun _ => ?_)
    split
    · exact .after (releaseHead_runs (fun _ => ⟨rfl, rfl⟩) _)
        (.after (setLane_runs ⟨rfl, rfl, rfl, rfl, rfl, rfl⟩) (startPusherPulse_runs l s))
    · exact releaseHead_runs faulted s
    · exact due _ rfl
    · exact due _ rfl

theorem ejectReached_runs (l : Lane) (n : Nat) (s : State) : Runs 0 s (ejectReached l n s) := by
  induction n generalizing s with
  | zero => exact .refl 0 s
  | succ n ih => exact .ite (fun _ => .after (ih _) (ejectHead_runs l s)) fun _ => .refl 0 s

theorem runEjects_runs (l : Lane) (s : State) : Runs 0 s (runEjects l s) := ejectReached_runs l _ s

theorem freePusher_runs (l : Lane) (s : State) : Runs 0 s (freePusher l s) :=
  .ite (fun _ => .after (runEjects_runs l _) (.after (ejectHead_runs l _) (setPusher_runs rfl)))
    (fun _ => setPusher_runs rfl)

theorem endPusherOffTime_runs (l : Lane) (s : State) : Runs 0 s (endPusherOffTime l s) := by
  refine .ite (fun _ => .after (startPusherPulse_runs l _) (setPusher_runs rfl)) (fun _ => freePusher_runs l s)

theorem senseChange_runs (o : Output) (atFault : Bool) (s : State) : Runs 0 s (senseChange o atFault s) :=
  .ite (fun _ => .after (setFilter_runs _ o _) (.work (.pins s _))) (fun _ => .work (.pins s _))

/-! ## Records -/

theorem requestCameraPulse_runs (s : State) : Runs 0 s (requestCameraPulse s) := by
  unfold requestCameraPulse
  split
  · exact .refl 0 s
  · exact .work (.act s _ (fun _ => rfl) (fun _ => rfl))

theorem updateRecord_runs {f : RepeatRecord → RepeatRecord} (touches : ∀ r, Touched r (f r)) (s : State) (n : RepeatNo) :
    Runs 0 s (s.updateRecord n f) := .work (.touch s n f touches)

theorem touched_confirm (confirmed uncut taken : Bool) (r : RepeatRecord) :
    Touched r { r with confirmed := confirmed, uncut := uncut, cameraTaken := taken } := rfl

theorem cameraEvent_runs (r : RepeatRecord) (s : State) : Runs 0 s (cameraEvent r s) :=
  .after (updateRecord_runs (fun r => touched_confirm r.confirmed r.uncut true r) _ _) (.after (.work (.notice _ _)) (requestCameraPulse_runs s))

theorem missStrike_runs (w : ConfirmWindow) (s : State) : Runs 0 s (missStrike w s) :=
  .after (.work (.cut _ _ rfl rfl rfl))
    (updateRecord_runs (fun r => touched_confirm r.confirmed true r.cameraTaken r) s _)

theorem confirmStrike_runs (w : ConfirmWindow) (s : State) : Runs 0 s (confirmStrike w s) :=
  .after (.work (.cut _ _ rfl rfl rfl))
    (updateRecord_runs (fun r => touched_confirm true r.uncut r.cameraTaken r) s _)

/-- The record of a number after an update of that number (R85). -/
theorem record_updateRecord_same (s : State) {n : RepeatNo} {f : RepeatRecord → RepeatRecord}
    (number : ∀ r, (f r).repeatNo = r.repeatNo) : (s.updateRecord n f).record n = (s.record n).map f :=
  find?_updateFirst _ f (fun r same => by rw [number]; exact same) _

/-- The label of a lane in a record is given its disposition. -/
def RepeatRecord.dispose (r : RepeatRecord) (l : Lane) (d : Disposition) : RepeatRecord :=
  { r with dispositions := r.dispositions.set l.val d }

/-- A disposition is written into its record and counted for its lane (R85, R116). -/
theorem dispose_map_counts (r : RepeatRecord) (l : Lane) (d : Disposition) (s : State) :
    (dispose r l d s).map = (s.updateRecord r.repeatNo (fun q => q.dispose l d)).map ∧
    ∀ m, (dispose r l d s).counts m = if m = l then (s.counts m).decided d else s.counts m := by
  have written (t : State) (map : t.map = s.map) (cnt : t.cnt = s.cnt) :
      (((t.updateRecord r.repeatNo (fun q => q.dispose l d)).countLanes
        (fun m c => if m = l then c.decided d else c))).map = (s.updateRecord r.repeatNo (fun q => q.dispose l d)).map ∧
      ∀ m, ((t.updateRecord r.repeatNo (fun q => q.dispose l d)).countLanes
        (fun m c => if m = l then c.decided d else c)).counts m =
          if m = l then (s.counts m).decided d else s.counts m := by
    have counts (m : Lane) : t.counts m = s.counts m := by rw [State.counts, cnt, State.counts]
    refine ⟨?_, fun m => ?_⟩
    · rw [countLanes_map, State.updateRecord, State.updateRecord, map]
      rfl
    · rw [countLanes_counts, (updateRecord_views _ _ _).2.2.2.2.2.2.2.2.1, counts]
  cases d with
  | rejected cause => exact written (rejectInterval r l s) (by simp) (by simp)
  | undecided | stacked _ | quarantined => exact written s rfl rfl

/-- A lane that decides gives an undecided label the disposition of its gate checks; any other leaves the state. -/
theorem decideLane_cases (n : RepeatNo) (l : Lane) (s : State) :
    decideLane n l s = s ∨ ∃ r d, s.record n = some r ∧ r.undecided l = true ∧ d = (gateChecks r l s).2 ∧
      decideLane n l s = dispose r l d (gateChecks r l s).1 ∧
      (decideLane n l s).map = (s.updateRecord n (fun q => q.dispose l d)).map ∧
      ∀ m, (decideLane n l s).counts m = if m = l then (s.counts m).decided d else s.counts m := by
  unfold decideLane
  split
  · exact .inl rfl
  · next r record =>
    split
    · next undecided =>
      obtain ⟨map, counts⟩ := dispose_map_counts r l (gateChecks r l s).2 (gateChecks r l s).1
      refine .inr ⟨r, _, record, undecided, rfl, rfl, ?_, fun m => ?_⟩
      · rw [map, State.updateRecord, State.updateRecord, repeatNo_of_record record]
        simp
      · rw [counts, State.counts, (gateChecks_frame r l s).2.2.2.2.2.2.1, State.counts]
    · exact .inl rfl

/-- A decision row works on a record that is not taken, and whose purge test is made. -/
theorem decideLane_due {s : State} {n : RepeatNo}
    (due : ∀ r, s.record n = some r → r.decisionTaken = false ∧ r.purgeTested = true) (l : Lane) :
    ∀ r, (decideLane n l s).record n = some r → r.decisionTaken = false ∧ r.purgeTested = true := by
  intro r record
  rcases decideLane_cases n l s with same | ⟨r₀, d, -, -, -, -, map, -⟩
  · exact due r (same ▸ record)
  · rw [State.record, map, ← State.record, record_updateRecord_same s (f := fun q => q.dispose l d) (fun _ => rfl)]
      at record
    obtain ⟨r₁, found, rfl⟩ := Option.map_eq_some_iff.mp record
    exact due r₁ found

theorem decisionEvent_runs {s : State} {n : RepeatNo} {r : RepeatRecord} (record : s.record n = some r)
    (due : r.decisionTaken = false) (lanes : List Lane) : Runs 0 s (decisionEvent n lanes s) := by
  have fold (lanes : List Lane) (t : State)
      (due : ∀ r, t.record n = some r → r.decisionTaken = false ∧ r.purgeTested = true) :
      Runs 0 t (lanes.foldl (fun s l => decideLane n l s) t) := by
    induction lanes generalizing t with
    | nil => exact .refl 0 t
    | cons l lanes ih => exact .after (ih _ (decideLane_due due l)) (.work (.decide t n l due))
  refine .after (.work (.decided _ n)) (.after (fold lanes _ fun r' record' => ?_) (.work (.purge s n)))
  rw [testPurge, record_updateRecord_same s (fun r => by split <;> rfl), record] at record'
  have same := Option.some.inj record'
  dsimp only at same
  split at same
  · next tested => exact same ▸ ⟨due, tested⟩
  · exact same ▸ ⟨due, rfl⟩

/-! ## Cuts, commits and mark events -/

theorem fireReached_runs (n : Nat) (s : State) : Runs 0 s (fireReached n s) := by
  induction n generalizing s with
  | zero => exact .refl 0 s
  | succ n ih => exact .ite (fun _ => .after (ih _) (.work (.fire s))) (fun _ => .refl 0 s)

theorem knifeTo_runs (d : Drive) (s : State) : Runs 0 s (knifeTo d s) :=
  .ite (fun _ => .after (.work (.strike _)) (setKnife_runs s _)) (fun _ => setKnife_runs s _)

theorem spliceSeen_runs (s : State) : Runs 0 s (spliceSeen s) :=
  .after (raiseIf_runs _ .spliceMerged _) (.after (raiseEvent_runs .spliceSeen _)
    (.after (.work (.prof _ _ rfl)) (.work (.splice s _))))

theorem testDeficits_runs (s : State) : Runs 0 s (testDeficits s) :=
  .ite
    (fun _ => .ite (fun _ => enterHalt_runs _ s)
      (fun _ => .ite (fun _ => enterHalt_runs _ s) (fun _ => .refl 0 s)))
    (fun _ => .refl 0 s)

theorem setReg_runs {s : State} {r : Registration} (pEff : r.pEff = s.reg.pEff) (number : r.number = s.reg.number) :
    Runs 0 s (s.setReg r) := .work (.reg s r pEff number)

theorem expireNow_runs (w : MarkWindow) (s : State) : Runs 1 s (expireNow w s) :=
  .behind (.work (.mark _ _)) (setReg_runs rfl rfl)

theorem nextReached_runs {s : State} {take : State → State} (next : nextReached s = some take) (t : State) :
    Runs 1 t (take t) := by
  have moved {r : Registration} (pEff : r.pEff = t.reg.pEff) (number : r.number = t.reg.number) :
      Runs 1 t (t.setReg r) := (setReg_runs pEff number).mono (Nat.zero_le 1)
  unfold nextReached at next
  split at next
  · split at next
    · cases next
      exact .work (.mark t _)
    · cases next
  · split at next
    · split at next
      · cases next
        exact moved rfl rfl
      · cases next
    · split at next
      · cases next
        exact .ite (fun _ => moved rfl rfl) (fun _ => expireNow_runs _ t)
      · cases next
    · cases next
  · cases next

theorem takePassed_runs (k : Nat) (s : State) : Runs k s (takePassed k s) := by
  induction k generalizing s with
  | zero => exact .refl 0 s
  | succ k ih =>
    unfold takePassed
    refine .ite (fun _ => ?_) (fun _ => .refl _ s)
    split
    · next next => exact Nat.add_comm 1 k ▸ (nextReached_runs next s).trans (ih _)
    · exact .refl _ s

/-- A mark event and the events that it finds passed: at most 65 mark events (R16). -/
theorem afterMark_runs {s t : State} (first : Runs 1 s t) : Runs 65 s (afterMark t) :=
  first.trans (takePassed_runs 64 t)

theorem expireIfHeld_runs (s : State) : Runs 65 s (expireIfHeld s) := by
  unfold expireIfHeld
  split
  · exact .refl _ s
  · exact .ite (fun _ => .after (finishDrive_runs _ _) (afterMark_runs (expireNow_runs _ s))) (fun _ => .refl _ s)

theorem counters_runs {s : State} {c : Counters} (lanes : c.lanes = s.cnt.lanes) : Runs 0 s (s.setCnt c) :=
  .work (.cnt s c lanes)

theorem shortMark_runs (s : State) : Runs 65 s (shortMark s) := by
  unfold shortMark
  split
  · exact .refl _ s
  · exact .behind (expireIfHeld_runs _) (.after (counters_runs rfl) (setReg_runs rfl rfl))

theorem qualifiedMark_runs (m : Pos) (s : State) : Runs 65 s (qualifiedMark m s) := by
  have marked (e : MarkEvent) : Runs 65 s (finishDrive s (afterMark (takeMark e s))) :=
    .after (finishDrive_runs _ _) (afterMark_runs (.work (.mark s e)))
  have stray : Runs 65 s (strayMark s) := (counters_runs rfl : Runs 0 s (strayMark s)).mono (Nat.zero_le 65)
  unfold qualifiedMark
  split
  · exact marked _
  all_goals
    split
    · exact stray
    · exact .ite (fun _ => marked _) (fun _ => stray)

theorem commitNow_runs (s : State) : Runs 65 s (commitNow s) := by
  have expired (s : State) : Runs 65 s (expireAtCommit s) := by
    unfold expireAtCommit
    split
    · exact .refl _ s
    · exact .ite (fun _ => afterMark_runs (expireNow_runs _ s)) (fun _ => .refl _ s)
  have registered (old : Profile) (s : State) : Runs 65 s (immediateRegistration old s) :=
    .ite (fun _ => .ite (fun _ => .mono (setReg_runs rfl rfl) (Nat.zero_le 65)) (fun _ => expired s))
      (fun _ => .refl _ s)
  exact .after (testDeficits_runs _) (.behind (registered _ _) (.work (.commit s)))

/-! ## Requests -/

theorem condemnCut_runs (n : RepeatNo) (m : LaneSet) (s : State) : Runs 0 s (condemnCut n m s) := by
  have same (c : Cut) : (c.withLine n m).repeatNo = c.repeatNo := by
    unfold Cut.withLine
    split <;> rfl
  exact .work (.cut s _ (by simp [same]) (by simp [same]) rfl)

theorem rejectRepeat_runs (m : LaneSet) (n : RepeatNo) (p : State × RejectTally) :
    Runs 0 p.1 (rejectRepeat m n p).1 := by
  unfold rejectRepeat
  split
  · split
    · exact .refl 0 _
    · exact updateRecord_runs (fun _ => by rfl) _ _
  · split
    · exact condemnCut_runs n m _
    · split <;> exact .refl 0 _

theorem lineRejected_runs (run future : List RepeatNo) (m : LaneSet) (s : State) :
    Runs 0 s (takeFuture future m (run.foldl (fun p n => rejectRepeat m n p) (s, ⟨0, 0⟩)).1) := by
  have folded (run : List RepeatNo) (p : State × RejectTally) :
      Runs 0 p.1 (run.foldl (fun p n => rejectRepeat m n p) p).1 := by
    induction run generalizing p with
    | nil => exact .refl 0 _
    | cons n run ih => exact .after (ih _) (rejectRepeat_runs m n p)
  refine .after ?_ (folded run (s, ⟨0, 0⟩))
  unfold takeFuture
  split
  · exact .refl 0 _
  · exact .work (.cut _ _ rfl rfl rfl)

theorem lateVerdict_runs (s : State) : Runs 0 s (lateVerdict s) :=
  .after (raiseEvent_runs .lateVerdict _) (counters_runs rfl)

theorem withVerdict_runs (s : State) (n : RepeatNo) (m : LaneSet) (c : Nat) :
    Runs 0 s (s.updateRecord n (fun r => r.withVerdict m c)) :=
  updateRecord_runs (fun _ => by rfl) s n

theorem setMode_runs (m : Mode) (s : State) : Runs 0 s (s.setMode m) := .work (.prof s _ rfl)

theorem haltIfLatched_runs (s : State) : Runs 0 s (haltIfLatched s) :=
  .ite (fun _ => enterHalt_runs _ s) (fun _ => .refl 0 s)

theorem startRun_runs (m : Mode) (s : State) : Runs 0 s (startRun m s) :=
  .after (setReg_runs rfl rfl) (.after (.work (.pos _ _)) (setMode_runs m s))

theorem startDraining_runs (isDry : Bool) (s : State) : Runs 0 s (startDraining isDry s) := by
  have begun : Runs 0 s ((s.setMode (.draining isDry)).setReg s.reg.drained) :=
    .after (setReg_runs rfl rfl) (setMode_runs _ s)
  exact .ite (fun _ => .after (endDraining_runs _) begun)
    (fun _ => .after (endDraining_runs _) (.after (haltIfLatched_runs _) begun))

theorem modeAfter_runs {target : Nat} {s t : State} (taken : modeAfter target s = some t) : Runs 0 s t := by
  unfold modeAfter at taken
  split at taken
  · split at taken
    · cases taken
      exact .after (haltIfLatched_runs _) (startRun_runs _ s)
    · split at taken
      · cases taken
        exact startRun_runs _ s
      · cases taken
  · split at taken
    · cases taken
      exact startDraining_runs _ s
    · cases taken
  · split at taken
    · cases taken
      exact startDraining_runs _ s
    · cases taken
  · split at taken
    · cases taken
      exact .refl 0 s
    · cases taken
  · cases taken

theorem resetTrack_runs (s : State) : Runs 0 (resetMap s) (resetTrack s) := by
  have lanes (ls : List Lane) (t : State) : Runs 0 t (ls.foldl (fun s l => resetLane l s) t) :=
    .foldl (fun s l => .work (.resetLane s l)) ls t
  have cleared (s : State) : Runs 0 s (clearKnifeLatch s) :=
    .ite (fun _ => setKnife_runs s _) (fun _ => .refl 0 s)
  have ranged (s : State) : Runs 0 s (emptyRange s) := .work (.cut s _ rfl rfl rfl)
  have worked : Runs 0 (resetMap s) (emptyRange (allLanes.foldl (fun s l => resetLane l s) (resetMap s))) :=
    .after (ranged _) (lanes allLanes _)
  unfold resetTrack enterSetup
  exact .after (.work (.idle _ _)) (.after (removeHolds_runs _) (.after (cleared _) worked))

theorem resetTrack_map (s : State) : (resetTrack s).map = (resetMap s).map := by
  have lanes (ls : List Lane) (t : State) : (ls.foldl (fun s l => resetLane l s) t).map = t.map :=
    foldl_keep State.map (fun s l => resetLane l s) (fun s l => by simp) ls t
  unfold resetTrack enterSetup
  simp [lanes]

theorem setDiagEnable_runs (d : DiagEnable) (s : State) : Runs 0 s (setDiagEnable d s) := by
  rw [setDiagEnable_eq, restartFilters]
  exact .after (.foldl (fun t o => .ite (fun _ => setFilter_runs t o .settling) (fun _ => .refl 0 t)) _ _)
    (.work (.act s _ (fun _ => rfl) (fun _ => rfl)))

theorem formingStack_eq {s : State} {l : Lane} {o : OpenStack} {r : StackRecord}
    (forming : s.formingStack l = some (o, r)) :
    (s.lane l).openStack = some o ∧ s.formingRecord o = some r := by
  unfold State.formingStack at forming
  split at forming
  · cases forming
  · next opened =>
    obtain ⟨r', record, same⟩ := Option.map_eq_some_iff.mp forming
    cases same
    exact ⟨opened, record⟩

/-- A row's work: a run of operations, or a removal of records and then work that leaves the records. -/
def Reaches (s t : State) : Prop :=
  Runs 65 s t ∨ ∃ u, Removal s u ∧ Runs 65 u t ∧ t.map.records = u.map.records

/-- A row answers with a state that its work reaches. -/
def RunAnswers (s : State) (a : Answer) : Prop := ∃ t, a = .next t ∧ Reaches s t

theorem RunAnswers.of_runs {s t : State} (run : Runs 0 s t) : RunAnswers s (.next t) :=
  ⟨t, rfl, .inl (run.mono (Nat.zero_le 65))⟩

theorem reaches_taken {k : StationLink} {q : Request} {s body : State} (work : Reaches s body) :
    RunAnswers s (taken k q s body) := by
  refine ⟨_, rfl, ?_⟩
  split
  · exact .inl (.refl _ s)
  · split
    · exact work
    · exact .inl (reply_runs (.refl _ s) k q .denied .none)

theorem runAnswers_taken {k : StationLink} {q : Request} {s body : State} (run : Runs 65 s body) :
    RunAnswers s (taken k q s body) := reaches_taken (.inl run)

theorem execRequest_runs (c : Instr) (s : State) : RunAnswers s (execRequest c s) := by
  have replied {u : State} (run : Runs 0 s u) (k : StationLink) (q : Request) (res : Result) (p : Payload) :
      Runs 65 s (u.reply k q res p) := reply_runs (run.mono (Nat.zero_le 65)) k q res p
  have answered (k : StationLink) (q : Request) (res : Result) (p : Payload) : Runs 65 s (s.reply k q res p) :=
    replied (.refl 0 s) k q res p
  cases c with
  | nop k => exact runAnswers_taken (answered _ _ _ _)
  | readStatus k page =>
    refine runAnswers_taken ?_
    have paged (t : State) (run : Runs 0 s t) : Runs 65 s (pageReply k page t) := by
      unfold pageReply
      (repeat' split) <;> exact replied run _ _ _ _
    unfold readStatus
    split
    · exact answered _ _ _ _
    · split
      · next first => exact first ▸ paged _ (setLink_runs s k _)
      · exact paged s (.refl 0 s)
  | readEvents k => exact runAnswers_taken (answered _ _ _ _)
  | ackEvents k m => exact runAnswers_taken (replied (setLink_runs s k _) _ _ _ _)
  | setEventMask k m => exact runAnswers_taken (replied (setLink_runs s k _) _ _ _ _)
  | readRepeat k n part =>
    refine runAnswers_taken ?_
    unfold readRepeat readIdentity readPart
    (repeat' split) <;> first | exact answered _ _ _ _ | exact replied (setLink_runs s k _) _ _ _ _
  | readRecord k slot => exact runAnswers_taken (by split <;> exact answered _ _ _ _)
  | haltRequest k => exact runAnswers_taken (replied (haltFor_runs _ s) _ _ _ _)
  | setProfileField k field value =>
    refine runAnswers_taken ?_
    unfold setProfileField
    split
    · exact answered _ _ _ _
    · split
      · exact replied (.work (.prof s _ (by rfl))) _ _ _ _
      · exact answered _ _ _ _
  | readProfile k selector field =>
    refine runAnswers_taken ?_
    unfold readProfile
    (repeat' split) <;> exact answered _ _ _ _
  | commitProfile k source n =>
    refine runAnswers_taken ?_
    unfold commitProfile
    split
    · exact answered _ _ _ _
    · split
      · exact answered _ _ _ _
      · unfold acceptCommit
        split
        · exact reply_runs (.after (finishDrive_runs _ _) (commitNow_runs s)) _ _ _ _
        · exact replied (.work (.prof s _ (by rfl))) _ _ _ _
  | cancelCommit k =>
    refine runAnswers_taken ?_
    split
    · exact replied (u := withdrawCommit s) (.work (.prof s _ rfl)) _ _ _ _
    · exact answered _ _ _ _
  | setMode k target =>
    refine runAnswers_taken ?_
    unfold changeMode
    split
    · exact answered _ _ _ _
    · split
      · exact answered _ _ _ _
      · next taken => exact replied (.after (finishDrive_runs _ _) (modeAfter_runs taken)) _ _ _ _
  | resetTrack k =>
    refine reaches_taken ?_
    unfold answerResetTrack
    split
    · exact .inl (answered _ _ _ _)
    · split
      · exact .inl (answered _ _ _ _)
      · exact .inr ⟨_, .emptied s, (reply_runs (.after (finishDrive_runs _ _) (resetTrack_runs s)) _ _ _ _).mono
          (Nat.zero_le 65), by simp [resetTrack_map]⟩
  | queueOrder k lane tag job target nogap final =>
    refine runAnswers_taken ?_
    unfold queueOrder queueOrderOn
    split
    · exact answered _ _ _ _
    · split
      · split
        · next room => exact replied (.work (.order s _ _ room)) _ _ _ _
        · exact answered _ _ _ _
      · exact answered _ _ _ _
  | cancelOrder k lane tag =>
    refine runAnswers_taken ?_
    have queued (l : Lane) : Runs 65 s (cancelQueued k l tag s) := by
      unfold cancelQueued
      split
      · exact answered _ _ _ _
      · exact replied (.work (.unqueue s l _)) _ _ _ _
    split
    · exact answered _ _ _ _
    · unfold cancelOn
      split
      · exact queued _
      · next forming =>
        split
        · obtain ⟨opened, record⟩ := formingStack_eq forming
          exact replied (.after (finishDrive_runs _ _)
            (.work (.cancel s _ _ opened (Option.isSome_of_eq_some record)))) _ _ _ _
        · exact queued _
  | laneResume k lane =>
    refine runAnswers_taken ?_
    split
    · exact answered _ _ _ _
    · split
      · next held => exact replied (.work (.resume s _ held)) _ _ _ _
      · exact answered _ _ _ _
  | laneClear k lane =>
    refine runAnswers_taken ?_
    split
    · exact answered _ _ _ _
    · unfold laneClear
      split
      · exact answered _ _ _ _
      · next fault =>
        split
        · exact answered _ _ _ _
        · split
          · exact answered _ _ _ _
          · next free =>
            exact replied (.after (finishDrive_runs _ _) (.work (.clear s _ _ (not_not.mp fault) free))) _ _ _ _
  | lineReject k first count mask =>
    refine runAnswers_taken ?_
    unfold lineReject
    (repeat' split) <;> first | exact answered _ _ _ _ | exact replied (lineRejected_runs _ _ _ s) _ _ _ _
  | readCounters k group => exact runAnswers_taken (by split <;> exact answered _ _ _ _)
  | clearCounters k => exact runAnswers_taken (replied (.work (.clearCounters s)) _ _ _ _)
  | setDiagEnable k knife gates pushers =>
    exact runAnswers_taken (replied (.after (finishDrive_runs _ _) (setDiagEnable_runs _ s)) _ _ _ _)
  | verdict k n mask defectClass =>
    refine runAnswers_taken ?_
    unfold verdict
    split
    · exact answered _ _ _ _
    · split
      · unfold verdictInMap
        split
        · exact replied (lateVerdict_runs s) _ _ _ _
        · refine replied (.ite (fun _ => ?_) (fun _ => .after (lateVerdict_runs _) ?_)) _ _ _ _ <;>
            exact withVerdict_runs s _ mask _
      · split
        · exact replied (lateVerdict_runs s) _ _ _ _
        all_goals exact answered _ _ _ _
  | fetchNotice k =>
    refine runAnswers_taken ?_
    split
    · exact answered _ _ _ _
    · next n rest notices => exact replied (.work (.map s _ (by rfl) (by simp [notices]))) _ _ _ _
  | fetchRecord k selector => exact runAnswers_taken (by (repeat' split) <;> exact answered _ _ _ _)
  | ackRecord k slot seq =>
    refine runAnswers_taken ?_
    split
    · exact answered _ _ _ _
    · next i _ =>
      have acknowledged : Runs 0 s (acknowledgeSlot i seq s) := by
        unfold acknowledgeSlot
        split
        · exact .work (.ack s i)
        · exact .refl 0 s
      exact replied acknowledged _ _ _ _
  | closeNow k lane =>
    refine runAnswers_taken ?_
    split
    · exact answered _ _ _ _
    · unfold closeNow
      split
      · exact answered _ _ _ _
      · next opened =>
        split
        · exact answered _ _ _ _
        · next record =>
          exact replied (.after (finishDrive_runs _ _)
            (.work (.close s _ _ opened (Option.isSome_of_eq_some record)))) _ _ _ _
  | _ => exact .of_runs (.refl 0 s)

/-! ## Every row -/

theorem runWindow_runs (a : Axis) (d : Direction) (s : State) : Runs 0 s (runWindow a d s) := by
  cases a with
  | web =>
    refine setReg_runs ?_ ?_ <;>
      (unfold Registration.runWindow; (repeat' split) <;> rfl)
  | belt => exact .refl 0 s

theorem setEncoder_runs (s : State) (a : Axis) (e : EncoderState) : Runs 0 s (s.setEncoder a e) := by
  cases a <;> exact .work (.pos s _)

theorem countForward_runs (a : Axis) (s : State) : Runs 0 s (countForward a s) := by
  have moved (e : EncoderState) : Runs 0 s (runWindow a .forward (s.setEncoder a e)) :=
    .after (runWindow_runs a .forward _) (setEncoder_runs s a e)
  exact .ite (fun _ => moved _) (fun _ => .after (.work (.reached _ a _)) (moved _))

theorem countReverse_runs (a : Axis) (s : State) : Runs 0 s (countReverse a s) := by
  have moved : Runs 0 s (countBack a s) := .after (runWindow_runs a .reverse _) (setEncoder_runs s a _)
  exact .ite (fun _ => .after (haltFor_runs _ _) moved) (fun _ => moved)

/-- The rows that are no request, no frame and no device reset. -/
theorem exec_runs_of_event {c : Instr} (event : c.request = none) (frame : ∀ k f, c ≠ .brokenFrame k f)
    (reset : c ≠ .deviceReset) (s : State) : RunAnswers s (exec c s) := by
  have finished {u : State} (run : Runs 0 s u) : Runs 0 s (finishDrive s u) := .after (finishDrive_runs _ _) run
  have same : Runs 0 s s := .refl 0 s
  cases c with
  | deviceReset => exact absurd rfl reset
  | countArrival a d =>
    cases d with
    | forward => exact .of_runs (countForward_runs a s)
    | reverse => exact .of_runs (countReverse_runs a s)
  | skippedTransition a => cases a <;> exact .of_runs (counters_runs rfl)
  | speedSample => exact .of_runs (.after (raiseIf_runs _ .speedClamp _) (.work (.pos s _)))
  | markLeadingEdge =>
    exact .of_runs (.ite (fun _ => same)
      (fun _ => .ite (fun _ => .after (setReg_runs rfl rfl) (.work (.pins s _))) (fun _ => .work (.pins s _))))
  | markTrailingEdge =>
    exact ⟨_, rfl, .inl (.ite (fun _ => .behind (shortMark_runs _) (.work (.pins s _))) (fun _ => .refl _ s))⟩
  | qualificationPoint =>
    refine ⟨_, rfl, .inl ?_⟩
    split
    · exact .refl _ s
    · exact .ite (fun _ => .behind (qualifiedMark_runs _ _) (setReg_runs rfl rfl)) fun _ => .refl _ s
  | windowOpening =>
    refine .of_runs ?_
    split
    · exact same
    · exact .ite (fun _ => setReg_runs rfl rfl) fun _ => same
  | windowExpiry =>
    refine ⟨_, rfl, .inl ?_⟩
    split
    · exact .refl _ s
    · exact .ite
        (fun _ => .ite (fun _ => .mono (setReg_runs rfl rfl) (Nat.zero_le 65))
          fun _ => .after (finishDrive_runs _ _) (afterMark_runs (expireNow_runs _ s)))
        fun _ => .refl _ s
  | virtualMarkTarget =>
    refine ⟨_, rfl, .inl ?_⟩
    split
    · exact .refl _ s
    · exact .ite (fun _ => .after (finishDrive_runs _ _) (afterMark_runs (.work (.mark s _)))) fun _ => .refl _ s
  | firePosition => exact .of_runs (.ite (fun _ => finished (fireReached_runs _ s)) fun _ => same)
  | knifeConfirm =>
    refine .of_runs ?_
    split
    · exact counters_runs rfl
    · exact .after (reportDrained_runs _) (confirmStrike_runs _ s)
  | confirmWindowExpiry =>
    refine .of_runs ?_
    split
    · exact same
    · exact .ite (fun _ => .after (reportDrained_runs _) (missStrike_runs _ s)) fun _ => same
  | knifePulseEnd =>
    refine .of_runs ?_
    split
    · exact finished (knifeTo_runs _ s)
    all_goals exact same
  | knifeOffTimeEnd =>
    refine .of_runs ?_
    split
    · exact finished (knifeTo_runs _ s)
    all_goals exact same
  | spliceDetection => exact .of_runs (.ite (fun _ => spliceSeen_runs s) fun _ => same)
  | lastStampExpiry =>
    refine .of_runs ?_
    split
    · exact same
    · exact .ite (fun _ => .work (.map s _ rfl (le_refl _))) fun _ => same
  | cameraPosition n =>
    refine .of_runs ?_
    split
    · exact same
    · exact .ite (fun _ => cameraEvent_runs _ s) fun _ => same
  | cameraPulseEnd => exact .of_runs (.work (.act s _ (fun _ => rfl) (fun _ => rfl)))
  | decisionPosition n lanes =>
    refine .of_runs ?_
    split
    · exact same
    · next record =>
      refine .ite (fun due => ?_) fun _ => same
      simp only [RepeatRecord.decisionDue, Bool.and_eq_true, Bool.not_eq_true'] at due
      exact finished (decisionEvent_runs record due.2.2 lanes)
  | rejectEndExpiry l =>
    refine .of_runs ?_
    split
    · exact same
    · exact .ite (fun _ => setLane_runs ⟨rfl, rfl, rfl, rfl, rfl, rfl⟩) fun _ => same
  | recordExit n =>
    refine ⟨_, rfl, ?_⟩
    split
    · exact .inl (.refl _ s)
    · next record =>
      split
      case isFalse => exact .inl (.refl _ s)
      next due =>
      simp only [RepeatRecord.exitDue, Bool.and_eq_true] at due
      have run := (reportDrained_runs (s.setMap
        { s.map with records := removeFirst (fun r => r.repeatNo == n) s.map.records })).mono (Nat.zero_le 65)
      exact .inr ⟨_, .exit s n _ record due.2.2, run, by simp [exitRecord]⟩
  | purgeEnd =>
    refine .of_runs ?_
    split
    · exact same
    · exact .ite (fun _ => .after (raiseEvent_runs .purgeOff _) (.work (.map s _ rfl (le_refl _)))) fun _ => same
  | ejectPosition l => exact .of_runs (.ite (fun _ => finished (runEjects_runs l s)) fun _ => same)
  | pusherPulseEnd l =>
    refine .of_runs ?_
    split
    · exact finished (endPusherPulse_runs l s)
    all_goals exact same
  | pusherOffTimeEnd l =>
    refine .of_runs ?_
    split
    · exact finished (endPusherOffTime_runs l s)
    all_goals exact same
  | gateHoldEnd l =>
    refine .of_runs ?_
    split
    · exact same
    · exact .ite (fun _ => finished (setGate_runs rfl)) fun _ => same
  | senseLineChange o v => exact .of_runs (finished (senseChange_runs o _ s))
  | inactiveTimeElapsed o => exact .of_runs (.ite (fun _ => setFilter_runs s o _) fun _ => same)
  | openLoadLatch o => exact .of_runs (.ite (fun _ => finished (latchOutput_runs o .opened s)) fun _ => same)
  | stopInputActive => exact .of_runs (.after (haltFor_runs .stopInput _) (.work (.pins s _)))
  | stopInputInactive => exact .of_runs (.work (.pins s _))
  | selectAssert k => exact .of_runs (setLink_runs s k _)
  | brokenFrame k f => exact absurd rfl (frame k f)
  | _ => simp [Instr.request] at event

/-- Every row but a device reset is a run of operations with at most 65 mark events. -/
theorem exec_runs {c : Instr} (reset : c ≠ .deviceReset) (s : State) : RunAnswers s (exec c s) := by
  by_cases request : c.request.isSome = true
  · rw [exec_eq_execRequest request]
    exact execRequest_runs c s
  · by_cases frame : ∃ k f, c = .brokenFrame k f
    · obtain ⟨k, f, rfl⟩ := frame
      have answered : exec (.brokenFrame k f) s = execBrokenFrame k f s := rfl
      rw [answered, execBrokenFrame]
      split
      · exact .of_runs (.refl 0 s)
      · split
        · exact .of_runs (answer_runs s k _)
        · split
          · exact execRequest_runs _ s
          · exact .of_runs (.refl 0 s)
    · exact exec_runs_of_event (by simpa using request) (fun k f same => frame ⟨k, f, same⟩) reset s

/-- A step is the work of a row on the queue without its front command, or a device reset. -/
theorem step_reaches {s t : State} (stepped : step s = .next t) :
    (∃ rest, Reaches (s.setPending rest) t) ∨ ∃ u, t = deviceReset u := by
  unfold step at stepped
  split at stepped
  · next empty =>
    cases stepped
    exact .inl ⟨s.pending, .inl (.refl _ s)⟩
  · next c rest _ =>
    by_cases reset : c = .deviceReset
    · subst reset
      cases stepped
      exact .inr ⟨_, rfl⟩
    · obtain ⟨u, answered, work⟩ := exec_runs reset (s.setPending rest)
      rw [answered] at stepped
      cases stepped
      exact .inl ⟨rest, work⟩

/-- What every operation and every removal keeps, and device reset leaves, a step keeps. -/
theorem step_keeps {P : State → Prop} (each : ∀ {k s t}, Work k s t → P s → P t)
    (removal : ∀ {s t}, Removal s t → P s → P t) (reset : ∀ s, P (deviceReset s))
    {s t : State} (stepped : step s = .next t) (start : P s) : P t := by
  rcases step_reaches stepped with ⟨rest, run | ⟨u, removed, run, -⟩⟩ | ⟨u, rfl⟩
  · exact run.keeps each (each (.pending s rest) start)
  · exact run.keeps each (removal removed (each (.pending s rest) start))
  · exact reset u

end Sys2Proof.Machine

/-!
PROOFS. The repeat length in its band, and what the cut and map operations do to their lists (R39, R50, R57, R71, R82).
-/

namespace Sys2Proof.Machine

/-! ## The entry to HALT keeps the repeat length, the numbers and the profile -/

theorem enterIdle_keeps (m : Mode) (s : State) :
    (enterIdle m s).reg.pEff = s.reg.pEff ∧ (enterIdle m s).reg.number = s.reg.number ∧
    (enterIdle m s).prof.active = s.prof.active ∧ (enterIdle m s).cut.schedule = [] ∧ (enterIdle m s).cut.queue = [] ∧
    (enterIdle m s).cut.splices = [] := by
  rw [enterIdle_eq]
  exact ⟨rfl, rfl, rfl, rfl, rfl, rfl⟩

/-- The entry to HALT empties the cut lists, or is made already. -/
theorem enterHalt_keeps (cause : HaltCause) (s : State) :
    (enterHalt cause s).reg.pEff = s.reg.pEff ∧ (enterHalt cause s).reg.number = s.reg.number ∧
    (enterHalt cause s).prof.active = s.prof.active ∧
    ((enterHalt cause s).cut = s.cut ∨ (enterHalt cause s).cut.schedule = [] ∧ (enterHalt cause s).cut.queue = [] ∧
      (enterHalt cause s).cut.splices = []) := by
  rw [enterHalt_eq, State.afterHalt]
  split
  · exact ⟨rfl, rfl, rfl, .inl rfl⟩
  · exact ⟨rfl, rfl, rfl, .inr ⟨rfl, rfl, rfl⟩⟩

theorem testDeficits_cases (s : State) : testDeficits s = s ∨ ∃ cause, testDeficits s = enterHalt cause s := by
  unfold testDeficits
  (repeat' split)
  · exact .inr ⟨_, rfl⟩
  · exact .inr ⟨_, rfl⟩
  · exact .inl rfl
  · exact .inl rfl

theorem testDeficits_keeps (s : State) :
    (testDeficits s).reg.pEff = s.reg.pEff ∧ (testDeficits s).reg.number = s.reg.number ∧
    (testDeficits s).prof.active = s.prof.active ∧
    ((testDeficits s).cut = s.cut ∨ (testDeficits s).cut.schedule = [] ∧ (testDeficits s).cut.queue = [] ∧
      (testDeficits s).cut.splices = []) := by
  rcases testDeficits_cases s with same | ⟨cause, same⟩
  · rw [same]
    exact ⟨rfl, rfl, rfl, .inl rfl⟩
  · rw [same]
    exact enterHalt_keeps cause s

/-! ## The band (R39) -/

theorem bandLow_le_nominal (p : Profile) : bandLow p ≤ p.pNom * 256 := by
  unfold bandLow
  rw [Nat.div_le_iff_le_mul_add_pred (by decide)]
  have : p.pNom * 256 * (1024 - p.stretchLimit) ≤ p.pNom * 256 * 1024 := Nat.mul_le_mul_left _ (Nat.sub_le _ _)
  omega

theorem nominal_le_bandHigh (p : Profile) : p.pNom * 256 ≤ bandHigh p := by
  unfold bandHigh
  rw [Nat.le_div_iff_mul_le (by decide)]
  exact Nat.mul_le_mul_left _ (Nat.le_add_right _ _)

theorem clampToBand_inBand (p : Profile) (x : Int) : bandLow p ≤ clampToBand p x ∧ clampToBand p x ≤ bandHigh p := by
  have ordered := (bandLow_le_nominal p).trans (nominal_le_bandHigh p)
  unfold clampToBand
  (repeat' split) <;> omega

theorem PEffInBand.of_same {s t : State} (band : PEffInBand s) (pEff : t.reg.pEff = s.reg.pEff)
    (active : t.prof.active = s.prof.active) : PEffInBand t := by
  have profile : t.profile = s.profile := active
  rw [PEffInBand, pEff, profile]
  exact band

/-- The repeat length at a commit: the new nominal length, or the old length clamped to the new band (R31, R39). -/
theorem applyToRepeatLength_inBand (old : Profile) (s : State) : PEffInBand (applyToRepeatLength old s) := by
  unfold applyToRepeatLength
  split
  · exact ⟨bandLow_le_nominal _, nominal_le_bandHigh _⟩
  · have kept : PEffInBand (s.setReg { s.reg with pEff := clampToBand s.profile s.reg.pEff }) := clampToBand_inBand _ _
    exact kept.of_same (by simp) (by simp)

theorem applyToCandidate_keeps (old : Profile) (s : State) :
    (applyToCandidate old s).reg.pEff = s.reg.pEff ∧ (applyToCandidate old s).reg.number = s.reg.number := by
  unfold applyToCandidate
  split <;> exact ⟨rfl, rfl⟩

theorem applyToRepeatLength_number (old : Profile) (s : State) :
    (applyToRepeatLength old s).reg.number = s.reg.number := by
  unfold applyToRepeatLength
  split
  · rfl
  · simp

theorem applyCommit_inBand (s : State) : PEffInBand (applyCommit s) := by
  unfold applyCommit
  refine (applyToRepeatLength_inBand s.profile
    (raiseEvent .commitApplied (s.setProf { s.prof with active := s.prof.pending, commit := none }))).of_same ?_ ?_
  · rw [(changeMasks_frame _ _ _).2.1, (applyToCandidate_keeps _ _).1]
  · simp

theorem applyCommit_number (s : State) : (applyCommit s).reg.number = s.reg.number := by
  unfold applyCommit
  rw [(changeMasks_frame _ _ _).2.1, (applyToCandidate_keeps _ _).2, applyToRepeatLength_number]
  simp

theorem classifyAndNumber_keeps (m : MarkEvent) (s : State) :
    (classifyAndNumber m s).reg.pEff = s.reg.pEff ∧ (classifyAndNumber m s).reg.number = s.reg.number + 1 := by
  have raised : ((if m.missed then (raiseEvents m.raised s).setCnt
      { (raiseEvents m.raised s).cnt with misses := satInc (raiseEvents m.raised s).cnt.misses }
      else raiseEvents m.raised s)).reg = s.reg := by split <;> simp
  simp only [classifyAndNumber, setReg_reg, raised, and_self]

theorem commitAtMark_keeps (s : State) :
    PEffInBand (commitAtMark s) ∧ (commitAtMark s).reg.number = s.reg.number := by
  have band := applyCommit_inBand s
  have number := applyCommit_number s
  unfold commitAtMark
  dsimp only
  split
  · exact ⟨band.of_same rfl rfl, number⟩
  · exact ⟨band, number⟩

theorem filterStage_keeps (m : MarkEvent) (s : State) :
    (PEffInBand s → PEffInBand (filterStage m s)) ∧ (filterStage m s).reg.number = s.reg.number := by
  unfold filterStage
  split
  · refine ⟨fun _ => ?_, by simp⟩
    have kept (x : Int) : PEffInBand (s.setReg { s.reg with pEff := clampToBand s.profile x }) := clampToBand_inBand _ _
    exact .of_same (kept _) (congrArg Registration.pEff (raiseIf_frame _ _ _).2.1) (by simp)
  · exact ⟨id, rfl⟩

theorem armNext_keeps (m : Pos) (s : State) :
    (armNext m s).reg.pEff = s.reg.pEff ∧ (armNext m s).reg.number = s.reg.number := by
  unfold armNext
  split <;> exact ⟨rfl, rfl⟩

/-! ## The parts of a mark event -/

/-- A mark event numbered, with the commit that comes to its point (R28, R31). -/
def classified (m : MarkEvent) (s : State) : State :=
  if s.commitDue s.reg.number then commitAtMark (classifyAndNumber m s) else classifyAndNumber m s

/-- The state that a mark event hands to the cut scheduler (R29, R30). -/
def markedFor (m : MarkEvent) (s : State) : State :=
  recordMark m s.reg.number (armNext m.position (filterStage m (classified m s)))

/-- The record that a mark event hands to the cut scheduler (R30, R31). -/
def handedRecord (m : MarkEvent) (s : State) : MarkRecord :=
  ⟨s.reg.number, m.kind, m.position, m.error, m.reg || (classified m s).profile.pNom != s.profile.pNom⟩

/-- A mark event is its registration work, its cut, and the deficits of a commit applied in it. -/
theorem takeMark_eq (m : MarkEvent) (s : State) :
    takeMark m s = if s.commitDue s.reg.number then testDeficits (receiveMark (handedRecord m s) (markedFor m s))
      else receiveMark (handedRecord m s) (markedFor m s) := rfl

theorem markedFor_keeps (m : MarkEvent) (s : State) :
    (PEffInBand s → PEffInBand (markedFor m s)) ∧ (markedFor m s).reg.number = s.reg.number + 1 ∧
    (markedFor m s).cut = s.cut ∧ (markedFor m s).map = s.map ∧ (markedFor m s).cnt.lanes = s.cnt.lanes := by
  have numbered := classifyAndNumber_keeps m s
  have lanes : (classifyAndNumber m s).cnt.lanes = s.cnt.lanes := by
    simp only [classifyAndNumber, setReg_cnt]
    split <;> simp
  have opened : (PEffInBand s → PEffInBand (classified m s)) ∧ (classified m s).reg.number = s.reg.number + 1 := by
    unfold Machine.classified
    split
    · obtain ⟨band, number⟩ := commitAtMark_keeps (classifyAndNumber m s)
      exact ⟨fun _ => band, number.trans numbered.2⟩
    · exact ⟨fun band => band.of_same numbered.1 (by simp), numbered.2⟩
  have frame : (classified m s).cut = s.cut ∧ (classified m s).map = s.map ∧
      (classified m s).cnt.lanes = s.cnt.lanes := by
    unfold Machine.classified
    split <;> simp [lanes]
  obtain ⟨band, number⟩ := opened
  have arm (t : State) := armNext_keeps m.position t
  refine ⟨fun inBand => ?_, ?_, ?_, ?_, ?_⟩
  · refine PEffInBand.of_same ((filterStage_keeps m _).1 (band inBand)) (arm _).1 ?_
    simp [markedFor]
  · exact (arm _).2.trans ((filterStage_keeps m _).2.trans number)
  all_goals simp [markedFor, frame]

theorem takeMark_inBand (m : MarkEvent) {s : State} (band : PEffInBand s) : PEffInBand (takeMark m s) := by
  have received : PEffInBand (receiveMark (handedRecord m s) (markedFor m s)) :=
    ((markedFor_keeps m s).1 band).of_same (by simp) (by simp)
  rw [takeMark_eq]
  split
  · obtain ⟨pEff, -, active, -⟩ := testDeficits_keeps (receiveMark (handedRecord m s) (markedFor m s))
    exact received.of_same pEff active
  · exact received

theorem takeMark_number (m : MarkEvent) (s : State) : (takeMark m s).reg.number = s.reg.number + 1 := by
  have received : (receiveMark (handedRecord m s) (markedFor m s)).reg.number = s.reg.number + 1 := by
    rw [(receiveMark_frame _ _).2.1, (markedFor_keeps m s).2.1]
  rw [takeMark_eq]
  split
  · rw [(testDeficits_keeps _).2.1, received]
  · exact received

/-- Every operation keeps the repeat length in its band (R39). -/
theorem Work.inBand {k : Nat} {s t : State} (work : Work k s t) (band : PEffInBand s) : PEffInBand t := by
  cases work with
  | mark _ m => exact takeMark_inBand m band
  | commit => exact applyCommit_inBand s
  | idle _ m =>
    obtain ⟨pEff, -, active, -⟩ := enterIdle_keeps m s
    exact band.of_same pEff active
  | reg _ r pEff number => exact band.of_same pEff rfl
  | prof _ p active => exact band.of_same rfl active
  | reached _ a now => cases a <;> exact band.of_same rfl rfl
  | _ => exact band.of_same (by simp) (by simp)

end Sys2Proof.Machine

/-!
PROOFS. What strikes, fired cuts and mark records do to the cut lists, the records and the label counts (R47, R50 to R52,
R58 to R61, R71, R77).
-/

namespace Sys2Proof.Machine

/-! ## A struck cut enters the map (R71, R77) -/

/-- A record as it enters the map. -/
def RepeatRecord.Fresh (r : RepeatRecord) : Prop :=
  r.dispositions = Vector.replicate 8 .undecided ∧ r.purgeTested = false ∧ r.purge = false ∧ r.decisionTaken = false

/-- From the one state to the other a cut of a number has entered the map, or was lost in a full one. -/
def Entered (n : RepeatNo) (s t : State) : Prop :=
  t.map.notices = s.map.notices ∧
  ((∃ r, r.repeatNo = n ∧ r.Fresh ∧ s.map.records.length < 48 ∧ t.map.records = s.map.records ++ [r] ∧
      ∀ l, t.counts l = if LaneSet.has r.laneSet l then { s.counts l with cut := (s.counts l).cut + 1 }
        else s.counts l) ∨
    (t.map.records = s.map.records ∧ ∃ m : LaneSet, ∀ l, t.counts l = if LaneSet.has m l then
      { s.counts l with cut := (s.counts l).cut + 1, lost := (s.counts l).lost + 1 } else s.counts l))

theorem extendPurge_lists (t : Pos) (s : State) :
    (extendPurge t s).map.records = s.map.records ∧ (extendPurge t s).map.notices = s.map.notices := by
  unfold extendPurge
  dsimp only
  split
  · simp
  · split <;> exact ⟨rfl, rfl⟩

theorem applySpacing_lists (c : Spacing) (t : Pos) (s : State) :
    (applySpacing c t s).map.records = s.map.records ∧ (applySpacing c t s).map.notices = s.map.notices := by
  cases c with
  | normal =>
    unfold applySpacing normalEntry
    dsimp only
    split <;> simp
  | near | tight => simp [applySpacing, breakRun]
  | jammed => simp [applySpacing, extendPurge_lists, breakRun]

theorem enterMap_entered (cut : Cut) (t : Pos) (s : State) : Entered cut.repeatNo s (enterMap cut t s) := by
  unfold enterMap
  split
  · next room =>
    obtain ⟨records, notices⟩ := applySpacing_lists (spacingClass s.profile s.map.lastStamp t) t s
    refine ⟨?_, .inl ⟨makeRecord s.profile s.belt s.mode.isDryKind (spacingClass s.profile s.map.lastStamp t) cut t,
      rfl, ⟨rfl, rfl, rfl, rfl⟩, room, ?_, fun l => ?_⟩⟩
    · simp [enterRecord, setLastStamp, notices]
    · simp [enterRecord, setLastStamp, records]
    · unfold enterRecord
      rw [countLanes_counts]
      simp [setLastStamp, State.counts]
  · refine ⟨?_, .inr ⟨?_, s.profile.laneMask, fun l => ?_⟩⟩
    · simp [untrackedRepeat, setLastStamp, breakRun, extendPurge_lists, State.countUntracked]
    · simp [untrackedRepeat, setLastStamp, breakRun, extendPurge_lists, State.countUntracked]
    · have same : (untrackedRepeat t s).cnt = (s.countUntracked s.profile.laneMask).cnt := by
        simp [untrackedRepeat, setLastStamp, breakRun]
      rw [State.counts, same, ← State.counts, State.countUntracked, countLanes_counts]

/-! ## Strikes (R61) -/

/-- From the one state to the other some record has been touched, and no more of the records and counts. -/
def MapTouched (s t : State) : Prop :=
  (∃ n f, (∀ r, Touched r (f r)) ∧ t.map.records = updateFirst (fun r => r.repeatNo == n) f s.map.records) ∧
  t.map.notices = s.map.notices ∧ t.cnt = s.cnt

theorem MapTouched.of_eq {s t : State} (map : t.map = s.map) (cnt : t.cnt = s.cnt) : MapTouched s t := by
  refine ⟨⟨0, id, fun _ => rfl, ?_⟩, by rw [map], cnt⟩
  rw [map, updateFirst_id]

theorem closeConfirm_touched (s : State) : MapTouched s (closeConfirm s) := by
  unfold closeConfirm
  split
  · exact .of_eq rfl rfl
  · next w _ => exact ⟨⟨w.repeatNo, _, fun r => touched_confirm r.confirmed true r.cameraTaken r, rfl⟩, rfl, rfl⟩

/-- A strike touches the record of the confirm window that it ends, and hands its cut to the map. -/
theorem strike_entered (c : Cut) (s : State) : ∃ u, MapTouched s u ∧ Entered c.repeatNo u (strike c s) := by
  have handed (t : State) : Entered c.repeatNo t (handOver c t) :=
    enterMap_entered (c.withCarry t.cut.strikeCarry) t.belt (t.setCut { t.cut with strikeCarry := false })
  unfold strike
  split
  · exact ⟨s, .of_eq rfl rfl, handed s⟩
  · refine ⟨requestKnifePulse (closeConfirm s), ?_, ?_⟩
    · obtain ⟨records, notices, -⟩ := closeConfirm_touched s
      exact ⟨by simpa using records, by simpa using notices, by simp⟩
    · obtain ⟨notices, entered⟩ := handed (requestKnifePulse (closeConfirm s))
      have counts (l : Lane) (t : State) : (openConfirm c.repeatNo t).counts l = t.counts l := by
        rw [State.counts, (openConfirm_frame _ _).2.2.2.2.2.2.2.2.1, State.counts]
      refine ⟨by simpa using notices, ?_⟩
      simpa only [openConfirm_frame, counts] using entered

/-- A strike leaves the cut lists. -/
theorem strike_lists (c : Cut) (s : State) :
    (strike c s).cut.schedule = s.cut.schedule ∧ (strike c s).cut.queue = s.cut.queue ∧
    (strike c s).cut.splices = s.cut.splices := by
  have handed (t : State) : (handOver c t).cut.schedule = t.cut.schedule ∧ (handOver c t).cut.queue = t.cut.queue ∧
      (handOver c t).cut.splices = t.cut.splices := by simp [handOver]
  have closed (t : State) : (closeConfirm t).cut.schedule = t.cut.schedule ∧ (closeConfirm t).cut.queue = t.cut.queue ∧
      (closeConfirm t).cut.splices = t.cut.splices := by
    unfold closeConfirm
    split <;> exact ⟨rfl, rfl, rfl⟩
  have opened (t : State) : (openConfirm c.repeatNo t).cut.schedule = t.cut.schedule ∧
      (openConfirm c.repeatNo t).cut.queue = t.cut.queue ∧
      (openConfirm c.repeatNo t).cut.splices = t.cut.splices := by
    unfold openConfirm
    split <;> exact ⟨rfl, rfl, rfl⟩
  unfold strike
  split
  · exact handed s
  · simp [opened, handed, closed]

/-! ## Fired cuts (R58 to R60) -/

/-- A fired cut waits in the strike queue, or is struck. -/
theorem fireCut_cases (c : Cut) (s : State) :
    (fireCut c s).cut.schedule = s.cut.schedule ∧ (fireCut c s).cut.splices.length ≤ s.cut.splices.length ∧
    (((fireCut c s).cut.queue.map (fun x => x.repeatNo) = s.cut.queue.map (fun x => x.repeatNo) ++ [c.repeatNo] ∧
        (fireCut c s).map = s.map ∧ (fireCut c s).cnt = s.cnt) ∨
      ((fireCut c s).cut.queue = s.cut.queue ∧
        ∃ u, MapTouched s u ∧ Entered c.repeatNo u (fireCut c s))) := by
  have passed : (s.cut.splices.filter (fun z => !atOrBeyond c.fire z.stop)).length ≤ s.cut.splices.length :=
    List.length_filter_le _ _
  unfold fireCut
  dsimp only
  split
  · exact ⟨rfl, passed, .inl ⟨by simp [spliceTest], rfl, rfl⟩⟩
  · obtain ⟨schedule, queue, splices⟩ := strike_lists (spliceTest c s).1 (spliceTest c s).2
    obtain ⟨u, touched, entered⟩ := strike_entered (spliceTest c s).1 (spliceTest c s).2
    exact ⟨schedule, splices ▸ passed, .inr ⟨queue, u, touched, entered⟩⟩

/-! ## Mark records (R51, R52) -/

theorem joinSchedule_lists (c : Cut) (s : State) :
    (joinSchedule c s).cut.schedule = s.cut.schedule ++ [c] ∧ (joinSchedule c s).cut.queue = s.cut.queue ∧
    (joinSchedule c s).cut.splices = s.cut.splices := by
  unfold joinSchedule
  split
  · next empty =>
    have empty : s.cut.schedule = [] := by simpa using empty
    exact ⟨by simp [empty], rfl, rfl⟩
  · exact ⟨rfl, rfl, rfl⟩

/-- The cut of a mark record is fired at once, or joins the schedule. -/
theorem placeCut_cases (m : MarkRecord) (lanes : LaneSet) (s : State) :
    (∃ u : State, u.map = s.map ∧ u.cnt = s.cnt ∧ u.cut.schedule = s.cut.schedule ∧ u.cut.queue = s.cut.queue ∧
      u.cut.splices = s.cut.splices ∧ placeCut m lanes s = fireCut (placedCut s m lanes) u) ∨
    ((placeCut m lanes s).cut.schedule = s.cut.schedule ++ [placedCut s m lanes] ∧
      (placeCut m lanes s).cut.queue = s.cut.queue ∧ (placeCut m lanes s).cut.splices = s.cut.splices ∧
      (placeCut m lanes s).map = s.map ∧ (placeCut m lanes s).cnt = s.cnt) := by
  unfold placeCut
  dsimp only
  split
  · exact .inl ⟨_, by simp, by simp, by simp, by simp, by simp, rfl⟩
  · refine .inr ⟨?_, ?_, ?_, by simp, by simp⟩
    · rw [(joinSchedule_lists _ _).1]
      simp
    · rw [(joinSchedule_lists _ _).2.1]
      simp
    · rw [(joinSchedule_lists _ _).2.2]
      simp

/-- A mark record is lost, joins the schedule, or is fired at once. -/
theorem receiveMark_cases (m : MarkRecord) (s : State) :
    (receiveMark m s).cut.splices.length ≤ s.cut.splices.length ∧
    ((∃ lanes : LaneSet, (receiveMark m s).cut.schedule = s.cut.schedule ∧ (receiveMark m s).cut.queue = s.cut.queue ∧
        (receiveMark m s).map = s.map ∧ ∀ l, (receiveMark m s).counts l = if LaneSet.has lanes l then
          { s.counts l with cut := (s.counts l).cut + 1, lost := (s.counts l).lost + 1 } else s.counts l) ∨
      (s.pendingCuts < 16 ∧
        ((∃ c : Cut, c.repeatNo = m.repeatNo ∧ (receiveMark m s).cut.schedule = s.cut.schedule ++ [c] ∧
            (receiveMark m s).cut.queue = s.cut.queue ∧ (receiveMark m s).map = s.map ∧
            (receiveMark m s).cnt = s.cnt) ∨
          ∃ (c : Cut) (u : State), c.repeatNo = m.repeatNo ∧ u.map = s.map ∧ u.cnt = s.cnt ∧
            u.cut.schedule = s.cut.schedule ∧ u.cut.queue = s.cut.queue ∧ receiveMark m s = fireCut c u))) := by
  unfold receiveMark
  dsimp only
  split
  · refine ⟨by simp [overrun], .inl ⟨s.profile.laneMask, by simp [overrun], by simp [overrun], by simp, fun l => ?_⟩⟩
    unfold overrun
    rw [(raiseEvent_views _ _).2.2.2.2.2.2.2.2.1]
    simp only [setCut_view_counts, State.countUntracked, countLanes_counts]
    rfl
  · next room =>
    have room : s.pendingCuts < 16 := Nat.lt_of_not_le room
    rcases placeCut_cases m (s.cut.range.lanesFor m.repeatNo)
        (s.setCut { s.cut with range := s.cut.range.consume m.repeatNo }) with
      ⟨u, map, cnt, schedule, queue, splices, fired⟩ | ⟨schedule, queue, splices, map, cnt⟩
    · rw [fired]
      exact ⟨splices ▸ (fireCut_cases _ u).2.1, .inr ⟨room, .inr ⟨_, u, rfl, map, cnt, schedule, queue, rfl⟩⟩⟩
    · exact ⟨(congrArg List.length splices).le, .inr ⟨room, .inl ⟨_, rfl, schedule, queue, map, cnt⟩⟩⟩

end Sys2Proof.Machine

/-!
PROOFS. What the operations of a row do to the records of the map and to the label counts (R71, R84, R85, R88, R116, R199).
-/

namespace Sys2Proof.Machine

/-! ## Records revised, entered and disposed -/

/-- What a record keeps as long as no lane decides: all by which its labels are judged and counted. -/
structure Revised (r r' : RepeatRecord) : Prop where
  repeatNo : r'.repeatNo = r.repeatNo
  stamp : r'.stamp = r.stamp
  laneSet : r'.laneSet = r.laneSet
  decision : r'.decision.target = r.decision.target
  exit : r'.exit.target = r.exit.target
  camera : r'.camera.map (fun e => e.target) = r.camera.map (fun e => e.target)
  dispositions : r'.dispositions = r.dispositions
  causes : r'.reg = r.reg ∧ r'.splice = r.splice ∧ r'.spacing = r.spacing
  tested : r.purgeTested = true → r'.purgeTested = true ∧ r'.purge = r.purge
  untested : r'.purgeTested = false → r'.purge = r.purge
  taken : r.decisionTaken = true → r'.decisionTaken = true
  takes : r'.decisionTaken = true → r.decisionTaken = true ∨ r.decided = true

theorem Revised.refl (r : RepeatRecord) : Revised r r :=
  ⟨rfl, rfl, rfl, rfl, rfl, rfl, rfl, ⟨rfl, rfl, rfl⟩, fun tested => ⟨tested, rfl⟩, fun _ => rfl, id, .inl⟩

theorem Revised.undecided {r r' : RepeatRecord} (revised : Revised r r') (l : Lane) :
    r'.undecided l = r.undecided l := by
  rw [RepeatRecord.undecided, revised.laneSet, revised.dispositions, RepeatRecord.undecided]

theorem Revised.decided {r r' : RepeatRecord} (revised : Revised r r') : r'.decided = r.decided := by
  simp only [RepeatRecord.decided, revised.undecided]

theorem Touched.revised {r r' : RepeatRecord} (touched : Touched r r') : Revised r r' := by
  rw [touched]
  exact ⟨rfl, rfl, rfl, rfl, rfl, rfl, rfl, ⟨rfl, rfl, rfl⟩, fun tested => ⟨tested, rfl⟩, fun _ => rfl, id, .inl⟩

/-- A count marks events of a record as reached, and moves none (R5). -/
theorem Revised.of_count (now : Pos) (r : RepeatRecord) : Revised r (r.count now) := by
  refine ⟨rfl, rfl, rfl, ?_, rfl, ?_, rfl, ⟨rfl, rfl, rfl⟩, fun tested => ⟨tested, rfl⟩, fun _ => rfl, id, .inl⟩
  · unfold RepeatRecord.count
    dsimp only
    split <;> rfl
  · unfold RepeatRecord.count
    dsimp only
    split
    · rfl
    · rw [Option.map_map]
      rfl

theorem forall₂_updateFirst {α : Type} {R : α → α → Prop} (refl : ∀ x, R x x) {p : α → Bool} {f : α → α}
    (xs : List α) (each : ∀ x, xs.find? p = some x → R x (f x)) : List.Forall₂ R xs (updateFirst p f xs) := by
  induction xs with
  | nil => exact .nil
  | cons x xs ih =>
    rw [updateFirst]
    cases found : p x with
    | true => exact .cons (each x (by simp [found])) (List.forall₂_same.mpr fun x _ => refl x)
    | false => exact .cons (refl x) (ih (fun y later => each y (by simp [found, later])))

/-- The records of the one state are those of the other, revised. -/
def RecordsRevised (rs rs' : List RepeatRecord) : Prop := List.Forall₂ Revised rs rs'

theorem RecordsRevised.refl (rs : List RepeatRecord) : RecordsRevised rs rs := List.forall₂_same.mpr (fun r _ => .refl r)

theorem MapTouched.revised {s t : State} (touched : MapTouched s t) : RecordsRevised s.map.records t.map.records := by
  obtain ⟨⟨n, f, touches, records⟩, -⟩ := touched
  rw [records]
  exact forall₂_updateFirst .refl _ (fun r _ => (touches r).revised)

theorem undecidedIn_revised {rs rs' : List RepeatRecord} (revised : RecordsRevised rs rs') (l : Lane) :
    undecidedIn rs' l = undecidedIn rs l := by
  induction revised with
  | nil => rfl
  | @cons r r' rs rs' first _ ih =>
    simp only [undecidedIn, List.filter_cons, first.undecided] at ih ⊢
    split <;> simp [ih]

/-- The label counts of a struck cut, or of a lost one (R71, R77, R52). -/
def countCut (m : LaneSet) (l : Lane) (c : LaneCounts) : LaneCounts :=
  if LaneSet.has m l then { c with cut := c.cut + 1 } else c

def countLost (m : LaneSet) (l : Lane) (c : LaneCounts) : LaneCounts :=
  if LaneSet.has m l then { c with cut := c.cut + 1, lost := c.lost + 1 } else c

/-- What an operation does to the records and to the label counts. -/
inductive Recorded (s t : State) : Prop
  | revised (records : RecordsRevised s.map.records t.map.records) (counts : ∀ l, t.counts l = s.counts l)
  | entered (mid : List RepeatRecord) (r : RepeatRecord) (fresh : r.Fresh) (room : s.map.records.length < 48)
    (records : RecordsRevised s.map.records mid) (added : t.map.records = mid ++ [r])
    (counts : ∀ l, t.counts l = countCut r.laneSet l (s.counts l))
  | lost (m : LaneSet) (records : RecordsRevised s.map.records t.map.records)
    (counts : ∀ l, t.counts l = countLost m l (s.counts l))
  | disposed (l : Lane) (d : Disposition) (before after : List RepeatRecord) (r : RepeatRecord)
    (records : s.map.records = before ++ r :: after) (disposed : t.map.records = before ++ r.dispose l d :: after)
    (due : r.decisionTaken = false ∧ r.purgeTested = true) (undecided : r.undecided l = true) (made : d ≠ .undecided)
    (sound : d.isStacked = true → (r.reg || r.splice || r.spacing || r.purge) = false)
    (counts : ∀ m, t.counts m = if m = l then (s.counts m).decided d else s.counts m)
  | cleared (records : t.map.records = s.map.records) (counts : t.cnt = clearedCounters s)

theorem Recorded.same {s t : State} (map : t.map.records = s.map.records) (cnt : t.cnt.lanes = s.cnt.lanes) :
    Recorded s t :=
  .revised (map ▸ .refl _) (fun l => by rw [State.counts, cnt, State.counts])

theorem Recorded.of_updated {s t : State} {n : RepeatNo} {f : RepeatRecord → RepeatRecord}
    (each : ∀ r, Revised r (f r)) (map : t.map = (s.updateRecord n f).map) (cnt : t.cnt = s.cnt) : Recorded s t := by
  refine .revised ?_ (fun l => by rw [State.counts, cnt, State.counts])
  rw [map]
  exact forall₂_updateFirst .refl _ (fun r _ => each r)

/-- A struck cut, after the confirm window that its strike ended. -/
theorem Recorded.of_entered {n : RepeatNo} {s u t : State} (touched : MapTouched s u) (entered : Entered n u t) :
    Recorded s t := by
  have revised := touched.revised
  have same (l : Lane) : u.counts l = s.counts l := by rw [State.counts, touched.2.2, State.counts]
  have length := revised.length_eq
  rcases entered.2 with ⟨r, -, fresh, room, records, counts⟩ | ⟨records, m, counts⟩
  · exact .entered _ r fresh (length ▸ room) revised records (fun l => by rw [counts, same, countCut])
  · exact .lost m (records ▸ revised) (fun l => by rw [counts, same, countLost])

/-- Work that moves no record and no label count, after or before other work. -/
theorem Recorded.of_frame {s u t : State} (recorded : Recorded s u) (map : t.map.records = u.map.records)
    (cnt : t.cnt = u.cnt) : Recorded s t := by
  have counts (l : Lane) : t.counts l = u.counts l := by rw [State.counts, cnt, State.counts]
  cases recorded with
  | revised records same => exact .revised (map ▸ records) (fun l => (counts l).trans (same l))
  | entered mid r fresh room records added moved =>
    exact .entered mid r fresh room records (map.trans added) (fun l => (counts l).trans (moved l))
  | lost m records moved => exact .lost m (map ▸ records) (fun l => (counts l).trans (moved l))
  | disposed l d before after r records disposed due undecided made sound moved =>
    exact .disposed l d before after r records (map.trans disposed) due undecided made sound
      (fun l => (counts l).trans (moved l))
  | cleared records moved => exact .cleared (map.trans records) (cnt.trans moved)

/-! ## Cuts and mark events -/

theorem fireCut_recorded (c : Cut) {s u : State} (map : u.map = s.map) (cnt : u.cnt.lanes = s.cnt.lanes) :
    Recorded s (fireCut c u) := by
  rcases (fireCut_cases c u).2.2 with ⟨-, sameMap, sameCnt⟩ | ⟨-, v, ⟨⟨n, f, touches, records⟩, notices, same⟩, entered⟩
  · exact .same (by rw [sameMap, map]) (by rw [sameCnt, cnt])
  · have lists : RecordsRevised s.map.records v.map.records := by
      rw [records, map]
      exact forall₂_updateFirst .refl _ (fun r _ => (touches r).revised)
    have counts (l : Lane) : v.counts l = s.counts l := by rw [State.counts, same, cnt, State.counts]
    rcases entered.2 with ⟨r, -, fresh, room, added, moved⟩ | ⟨kept, m, moved⟩
    · exact .entered _ r fresh (lists.length_eq ▸ room) lists added (fun l => by rw [moved, counts, countCut])
    · exact .lost m (kept ▸ lists) (fun l => by rw [moved, counts, countLost])

theorem receiveMark_recorded (m : MarkRecord) {s u : State} (map : u.map = s.map) (cnt : u.cnt.lanes = s.cnt.lanes) :
    Recorded s (receiveMark m u) := by
  have counts (l : Lane) : u.counts l = s.counts l := by rw [State.counts, cnt, State.counts]
  rcases (receiveMark_cases m u).2 with ⟨lanes, -, -, same, moved⟩ | ⟨-, ⟨c, -, -, -, same, sameCnt⟩ |
      ⟨c, v, -, same, sameCnt, -, -, fired⟩⟩
  · exact .lost lanes (by rw [same, map]; exact .refl _) (fun l => by rw [moved, counts, countLost])
  · exact .same (by rw [same, map]) (by rw [sameCnt, cnt])
  · rw [fired]
    exact fireCut_recorded c (same.trans map) (by rw [sameCnt, cnt])

/-- The registration work of a mark event leaves the map; its cut may be lost, struck or scheduled. -/
theorem takeMark_map_cnt (m : MarkEvent) (s : State) :
    (takeMark m s).map = (receiveMark (handedRecord m s) (markedFor m s)).map ∧
    (takeMark m s).cnt = (receiveMark (handedRecord m s) (markedFor m s)).cnt := by
  rw [takeMark_eq]
  split
  · exact ⟨by simp, by simp⟩
  · exact ⟨rfl, rfl⟩

theorem takeMark_recorded (m : MarkEvent) (s : State) : Recorded s (takeMark m s) := by
  obtain ⟨-, -, -, map, lanes⟩ := markedFor_keeps m s
  obtain ⟨sameMap, sameCnt⟩ := takeMark_map_cnt m s
  exact (receiveMark_recorded _ map lanes).of_frame (by rw [sameMap]) sameCnt

/-! ## Decisions -/

/-- The label is stacked or rejected; it is stacked only when no cause stands against it (R104 to R115). -/
theorem judge_disposition (r : RepeatRecord) (l : Lane) (s : State) :
    (judge r l s).2 ≠ .undecided ∧
    ((judge r l s).2.isStacked = true → (r.reg || r.splice || r.spacing || r.purge) = false) := by
  unfold judge
  split
  · exact ⟨nofun, nofun⟩
  · next clear =>
    have none : recordCause s.profile r l = none := by
      unfold labelCause at clear
      split at clear
      · cases clear
      · assumption
    have sound : (r.reg || r.splice || r.spacing || r.purge) = false := by
      unfold recordCause RepeatRecord.firstCause at none
      revert none
      cases r.purge <;> cases r.reg <;> cases r.splice <;> cases r.spacing <;> cases r.uncut <;> simp
    refine ⟨?_, fun _ => sound⟩
    unfold stackLabel
    (repeat' split) <;> exact nofun

theorem gateChecks_disposition (r : RepeatRecord) (l : Lane) (s : State) :
    (gateChecks r l s).2 ≠ .undecided ∧
    ((gateChecks r l s).2.isStacked = true → (r.reg || r.splice || r.spacing || r.purge) = false) := by
  have opened : (openAndJudge r l s).2 ≠ .undecided ∧
      ((openAndJudge r l s).2.isStacked = true → (r.reg || r.splice || r.spacing || r.purge) = false) := by
    unfold openAndJudge
    split
    · exact ⟨nofun, nofun⟩
    · exact judge_disposition r l _
  unfold gateChecks
  split
  case h_5 => exact opened
  case h_6 =>
    split
    · exact opened
    · exact ⟨nofun, nofun⟩
  case h_7 => exact judge_disposition r l s
  all_goals exact ⟨nofun, nofun⟩

theorem decideLane_recorded {s : State} {n : RepeatNo} (l : Lane)
    (due : ∀ r, s.record n = some r → r.decisionTaken = false ∧ r.purgeTested = true) :
    Recorded s (decideLane n l s) := by
  rcases decideLane_cases n l s with same | ⟨r, d, record, undecided, made, -, map, counts⟩
  · exact .same (by rw [same]) (by rw [same])
  · obtain ⟨-, before, after, split, others⟩ := List.find?_eq_some_iff_append.mp record
    obtain ⟨decided, sound⟩ := made ▸ gateChecks_disposition r l s
    refine .disposed l d before after r split ?_ (due r record) undecided decided sound counts
    have updated : updateFirst (fun q => q.repeatNo == n) (fun q => q.dispose l d) (before ++ r :: after) =
        before ++ r.dispose l d :: after := by
      have found : (r.repeatNo == n) = true := by simpa using repeatNo_of_record record
      clear split record
      induction before with
      | nil => simp [updateFirst, found]
      | cons b before ih =>
        obtain ⟨first, rest⟩ := List.forall_mem_cons.mp others
        rw [List.cons_append, updateFirst, ih rest]
        simp at first
        simp [first]
    rw [map, State.updateRecord, split]
    exact updated

/-! ## Every operation -/

theorem Revised.of_purgeTest (inForce : Bool) (r : RepeatRecord) :
    Revised r (if r.purgeTested then r else { r with purge := inForce, purgeTested := true }) := by
  split
  · exact .refl r
  · next untested =>
    exact ⟨rfl, rfl, rfl, rfl, rfl, rfl, rfl, ⟨rfl, rfl, rfl⟩, (absurd · untested), nofun, id, .inl⟩

theorem Revised.of_markDecided (r : RepeatRecord) :
    Revised r (if r.decided then { r with decisionTaken := true } else r) := by
  split
  · next decided =>
    exact ⟨rfl, rfl, rfl, rfl, rfl, rfl, rfl, ⟨rfl, rfl, rfl⟩, fun tested => ⟨tested, rfl⟩, fun _ => rfl,
      fun _ => rfl, fun _ => .inr decided⟩
  · exact .refl r

theorem RecordsRevised.of_count (now : Pos) (rs : List RepeatRecord) :
    RecordsRevised rs (rs.map (RepeatRecord.count now)) := by
  induction rs with
  | nil => exact .nil
  | cons r rs ih => exact .cons (.of_count now r) ih

theorem strikeOldest_recorded (s : State) : Recorded s (strikeOldest s) := by
  unfold strikeOldest
  split
  · exact .same rfl rfl
  · next c rest _ =>
    obtain ⟨u, touched, entered⟩ := strike_entered c (s.setCut { s.cut with queue := rest })
    exact .of_entered (s := s) touched entered

theorem fireHead_recorded (s : State) : Recorded s (fireHead s) := by
  unfold fireHead
  split
  · exact .same rfl rfl
  · exact fireCut_recorded _ rfl rfl

theorem pushNotice_records (n : Notice) (s : State) :
    (pushNotice n s).map.records = s.map.records ∧ (pushNotice n s).cnt.lanes = s.cnt.lanes := by
  unfold pushNotice
  split <;> simp

theorem Work.recorded {k : Nat} {s t : State} (work : Work k s t) : Recorded s t := by
  cases work with
  | mark _ m => exact takeMark_recorded m s
  | fire => exact fireHead_recorded s
  | strike => exact strikeOldest_recorded s
  | map _ m records => exact .same records rfl
  | cnt _ c lanes => exact .same rfl lanes
  | touch _ n f touches => exact .of_updated (fun r => (touches r).revised) rfl rfl
  | purge _ n => exact .of_updated (Revised.of_purgeTest s.purgeInForce) rfl rfl
  | decided _ n => exact .of_updated Revised.of_markDecided rfl rfl
  | decide _ n l due => exact decideLane_recorded l due
  | reached _ a now =>
    cases a with
    | web => exact .same rfl rfl
    | belt => exact .revised (.of_count now _) (fun _ => rfl)
  | notice _ n => exact .same (pushNotice_records n s).1 (pushNotice_records n s).2
  | clearCounters => exact .cleared rfl rfl
  | _ => exact .same (by simp) (by simp)

end Sys2Proof.Machine

/-!
PROOFS. The invariants of the records and of the label counts: the balance of labels (R116), condemned labels that are
never stacked (R109, R110), and records that keep what they are (R85).
-/

namespace Sys2Proof.Machine

/-! ## The balance of labels (R116) -/

theorem undecidedIn_append (rs rs' : List RepeatRecord) (l : Lane) :
    undecidedIn (rs ++ rs') l = undecidedIn rs l + undecidedIn rs' l := by
  simp [undecidedIn]

theorem RepeatRecord.Fresh.undecided {r : RepeatRecord} (fresh : r.Fresh) (l : Lane) :
    r.undecided l = LaneSet.has r.laneSet l := by
  obtain ⟨dispositions, -⟩ := fresh
  simp [RepeatRecord.undecided, dispositions]

theorem undecidedIn_singleton (r : RepeatRecord) (l : Lane) :
    undecidedIn [r] l = if r.undecided l = true then 1 else 0 := by
  cases decided : r.undecided l <;> simp [undecidedIn, decided]

theorem RepeatRecord.dispose_undecided (r : RepeatRecord) (l m : Lane) {d : Disposition} (made : d ≠ .undecided) :
    (r.dispose l d).undecided m = if m = l then false else r.undecided m := by
  have made : (d == .undecided) = false := by simpa using made
  rw [RepeatRecord.undecided, RepeatRecord.dispose]
  simp only [set_getElem]
  split
  · rw [made, Bool.and_false]
  · rfl

/-- A label counted balances; the number of the labels without a disposition stands on the right. -/
def LaneCounts.Balanced (c : LaneCounts) (n : Nat) : Prop :=
  c.cut = c.stacked + c.rejected + c.quarantined + c.lost + BitVec.ofNat 32 n

theorem LaneCounts.Balanced.cut {c : LaneCounts} {n : Nat} (balanced : c.Balanced n) :
    { c with cut := c.cut + 1 }.Balanced (n + 1) := by
  unfold LaneCounts.Balanced at *
  simp only [balanced, BitVec.ofNat_add, BitVec.add_assoc]
  rfl

theorem LaneCounts.Balanced.lost {c : LaneCounts} {n : Nat} (balanced : c.Balanced n) :
    { c with cut := c.cut + 1, lost := c.lost + 1 }.Balanced n := by
  unfold LaneCounts.Balanced at *
  simp only [balanced]
  ac_rfl

theorem LaneCounts.Balanced.decided {c : LaneCounts} {n : Nat} (balanced : c.Balanced (n + 1)) {d : Disposition}
    (made : d ≠ .undecided) : (c.decided d).Balanced n := by
  unfold LaneCounts.Balanced at *
  have one : BitVec.ofNat 32 (n + 1) = BitVec.ofNat 32 n + 1 := by simp [BitVec.ofNat_add]
  rw [one] at balanced
  cases d with
  | undecided => exact absurd rfl made
  | stacked _ | rejected _ | quarantined =>
    simp only [LaneCounts.decided, balanced]
    ac_rfl

/-- The two clauses of the balance, by the name of the count. -/
theorem labelsBalance_iff (s : State) : LabelsBalance s ↔
    (∀ l : Lane, (s.counts l).Balanced (undecidedIn s.map.records l)) ∧
    ∀ r ∈ s.map.records, r.decisionTaken = true → r.decided = true := Iff.rfl

/-- Records whose decision is taken have decided. -/
def TakenDecided (rs : List RepeatRecord) : Prop := ∀ r ∈ rs, r.decisionTaken = true → r.decided = true

theorem TakenDecided.revised {rs rs' : List RepeatRecord} (decided : TakenDecided rs)
    (revised : RecordsRevised rs rs') : TakenDecided rs' := by
  induction revised with
  | nil => exact decided
  | @cons r r' rs rs' first _ ih =>
    obtain ⟨head, rest⟩ := List.forall_mem_cons.mp decided
    refine List.forall_mem_cons.mpr ⟨fun taken => ?_, ih rest⟩
    rw [first.decided]
    exact (first.takes taken).elim head id

theorem Recorded.balance {s t : State} (recorded : Recorded s t) (balance : LabelsBalance s) : LabelsBalance t := by
  obtain ⟨balanced, decided⟩ := (labelsBalance_iff s).mp balance
  refine (labelsBalance_iff t).mpr ?_
  cases recorded with
  | revised records counts =>
    refine ⟨fun l => ?_, TakenDecided.revised decided records⟩
    rw [counts, undecidedIn_revised records]
    exact balanced l
  | entered mid r fresh room records added counts =>
    rw [added]
    refine ⟨fun l => ?_, ?_⟩
    · rw [counts, undecidedIn_append, undecidedIn_revised records, undecidedIn_singleton, fresh.undecided, countCut]
      split
      · exact (balanced l).cut
      · exact balanced l
    · refine List.forall_mem_append.mpr ⟨TakenDecided.revised decided records, ?_⟩
      simp [fresh.2.2.2]
  | lost m records counts =>
    refine ⟨fun l => ?_, TakenDecided.revised decided records⟩
    rw [counts, undecidedIn_revised records, countLost]
    split
    · exact (balanced l).lost
    · exact balanced l
  | disposed l d before after r records disposed due undecided made sound counts =>
    rw [records] at decided
    have number (m : Lane) : undecidedIn s.map.records m =
        undecidedIn t.map.records m + if m = l then 1 else 0 := by
      rw [records, disposed, List.append_cons before r, List.append_cons before (r.dispose l d)]
      simp only [undecidedIn_append, undecidedIn_singleton, r.dispose_undecided l m made]
      by_cases mine : m = l
      · simp [mine, undecided]
        omega
      · simp [mine]
    refine ⟨fun m => ?_, ?_⟩
    · have start := balanced m
      rw [number] at start
      rw [counts]
      by_cases mine : m = l
      · rw [if_pos mine] at start ⊢
        exact start.decided made
      · rw [if_neg mine] at start ⊢
        exact start
    · rw [disposed]
      obtain ⟨first, rest⟩ := List.forall_mem_append.mp decided
      refine List.forall_mem_append.mpr ⟨first, List.forall_mem_cons.mpr ⟨fun taken => ?_, ?_⟩⟩
      · exact absurd (due.1 ▸ taken : false = true) nofun
      · exact (List.forall_mem_cons.mp rest).2
  | cleared records counts =>
    refine ⟨fun l => ?_, by rw [records]; exact decided⟩
    rw [State.counts, counts, clearedCounters_lane, records]
    simp [LaneCounts.Balanced, LaneCounts.zero]

/-- A record whose decision is taken leaves with its labels decided; an emptied map counts them lost (R86, R88). -/
theorem Removal.balance {s t : State} (removal : Removal s t) (balance : LabelsBalance s) : LabelsBalance t := by
  obtain ⟨balanced, decided⟩ := (labelsBalance_iff s).mp balance
  refine (labelsBalance_iff t).mpr ?_
  cases removal with
  | exit n r record taken =>
    obtain ⟨-, before, after, split, others⟩ := List.find?_eq_some_iff_append.mp record
    have found : (r.repeatNo == n) = true := by simpa using repeatNo_of_record record
    have rest : removeFirst (fun r => r.repeatNo == n) s.map.records = before ++ after := by
      have others : ∀ b ∈ before, ¬(b.repeatNo == n) = true := fun b mem => by simpa using others b mem
      rw [removeFirst_eq_eraseP, split, List.eraseP_append_right _ others, List.eraseP_cons, found, cond_true]
    have done := decided r (split ▸ List.mem_append_right _ List.mem_cons_self) taken
    refine ⟨fun l => ?_, fun q mem => decided q ?_⟩
    · have start := balanced l
      have closed : r.undecided l = false := by
        have all := List.all_eq_true.mp done l (mem_allLanes l)
        simpa using all
      rw [split, List.append_cons, undecidedIn_append, undecidedIn_append, undecidedIn_singleton, closed] at start
      simp only [setMap_map, rest, undecidedIn_append]
      exact start
    · rw [setMap_map] at mem
      rw [removeFirst_eq_eraseP] at mem
      exact List.mem_of_mem_eraseP mem
  | emptied =>
    refine ⟨fun l => ?_, fun q mem => absurd mem List.not_mem_nil⟩
    have start := balanced l
    simp only [resetMap, setMap_view_counts, setMap_map, countLanes_counts]
    unfold LaneCounts.Balanced at start ⊢
    simp only [start, TransitMap.reset, undecidedIn, List.filter_nil, List.length_nil]
    simp [BitVec.add_assoc]

/-! ## The states after a device reset -/

theorem deviceReset_invariants (s : State) :
    LabelsBalance (deviceReset s) ∧ CondemnedNeverStacked (deviceReset s) ∧ RecordsDistinct (deviceReset s) ∧
    PEffInBand (deviceReset s) ∧ WithinCapacity (deviceReset s) ∧ EventsCarried (deviceReset s) ∧
    ReadyListExact (deviceReset s) ∧ LaneStatesMean (deviceReset s) ∧ LanesOwnTheirSlots (deviceReset s) ∧
    SlotsHaveOwners (deviceReset s) := by
  obtain ⟨t, reset, band, capacity, ready, balance, condemned, distinct, -, -, -, -, -, -, -, carried, mean, own, owners⟩ :=
    resetMeetsEveryInvariant s
  rw [exec_deviceReset] at reset
  cases reset
  exact ⟨balance, condemned, distinct, band, capacity, carried, ready, mean, own, owners⟩

/-- Settles O56: every operation keeps the balance; only a decision takes an undecided label from it, and counts it. -/
theorem stepKeepsTheBalanceOfLabels : Obligations.StepKeepsTheBalanceOfLabels :=
  fun _ _ balance stepped => step_keeps (fun work => work.recorded.balance) Removal.balance
    (fun s => (deviceReset_invariants s).1) stepped balance

/-! ## Condemned labels (R109, R110) -/

/-- What the invariant asks of one record. -/
def RepeatRecord.Sound (r : RepeatRecord) : Prop :=
  ((r.reg || r.splice || r.spacing || r.purge) = true → ∀ l : Lane, r.dispositions[l].isStacked = false) ∧
  (r.purgeTested = false → r.purge = false ∧ ∀ l : Lane, r.dispositions[l] = .undecided)

theorem Revised.sound {r r' : RepeatRecord} (revised : Revised r r') (sound : r.Sound) : r'.Sound := by
  obtain ⟨condemned, untested⟩ := sound
  obtain ⟨reg, splice, spacing⟩ := revised.causes
  rw [RepeatRecord.Sound, revised.dispositions, reg, splice, spacing]
  cases tested : r.purgeTested with
  | false =>
    obtain ⟨purge, undecided⟩ := untested tested
    refine ⟨fun _ l => by rw [undecided l]; rfl, fun open' => ⟨?_, undecided⟩⟩
    rw [revised.untested open', purge]
  | true =>
    obtain ⟨tested', purge⟩ := revised.tested tested
    rw [purge, tested']
    exact ⟨condemned, nofun⟩

theorem forall_mem_revised {P : RepeatRecord → Prop} (each : ∀ {r r'}, Revised r r' → P r → P r')
    {rs rs' : List RepeatRecord} (revised : RecordsRevised rs rs') (all : ∀ r ∈ rs, P r) : ∀ r ∈ rs', P r := by
  induction revised with
  | nil => exact all
  | cons first _ ih =>
    obtain ⟨head, rest⟩ := List.forall_mem_cons.mp all
    exact List.forall_mem_cons.mpr ⟨each first head, ih rest⟩

theorem Recorded.condemned {s t : State} (recorded : Recorded s t) (sound : CondemnedNeverStacked s) :
    CondemnedNeverStacked t := by
  have sound : ∀ r ∈ s.map.records, r.Sound := sound
  change ∀ r ∈ t.map.records, r.Sound
  cases recorded with
  | revised records => exact forall_mem_revised Revised.sound records sound
  | lost _ records => exact forall_mem_revised Revised.sound records sound
  | entered mid r fresh room records added =>
    obtain ⟨dispositions, untested, purge, -⟩ := fresh
    have fresh : r.Sound := ⟨fun _ l => by simp [dispositions, Disposition.isStacked],
      fun _ => ⟨purge, fun l => by simp [dispositions]⟩⟩
    rw [added]
    exact List.forall_mem_append.mpr ⟨forall_mem_revised Revised.sound records sound, by simpa using fresh⟩
  | disposed l d before after r records disposed due undecided made clear =>
    rw [records] at sound
    obtain ⟨first, rest⟩ := List.forall_mem_append.mp sound
    obtain ⟨mine, rest⟩ := List.forall_mem_cons.mp rest
    rw [disposed]
    refine List.forall_mem_append.mpr ⟨first, List.forall_mem_cons.mpr ⟨⟨fun condemned m => ?_, fun untested => ?_⟩, rest⟩⟩
    · have condemned : (r.reg || r.splice || r.spacing || r.purge) = true := condemned
      simp only [RepeatRecord.dispose, set_getElem]
      split
      · cases decided : d.isStacked with
        | false => rfl
        | true => rw [clear decided] at condemned; cases condemned
      · exact mine.1 condemned m
    · exact absurd (due.2.symm.trans untested) nofun
  | cleared records => rw [records]; exact sound

theorem Removal.records_sublist {s t : State} (removal : Removal s t) : t.map.records.Sublist s.map.records := by
  cases removal with
  | exit n r record taken =>
    rw [setMap_map]
    exact removeFirst_eq_eraseP _ s.map.records ▸ List.eraseP_sublist
  | emptied => exact List.nil_sublist _

theorem Removal.condemned {s t : State} (removal : Removal s t) (sound : CondemnedNeverStacked s) :
    CondemnedNeverStacked t := fun r mem => sound r (removal.records_sublist.subset mem)

/-! ## Records keep what they are (R85) -/

/-- What no later work changes of a record. -/
structure Onward (r r' : RepeatRecord) : Prop where
  repeatNo : r'.repeatNo = r.repeatNo
  stamp : r'.stamp = r.stamp
  laneSet : r'.laneSet = r.laneSet
  decision : r'.decision.target = r.decision.target
  exit : r'.exit.target = r.exit.target
  camera : r'.camera.map (fun e => e.target) = r.camera.map (fun e => e.target)
  decided : ∀ l : Lane, r.dispositions[l] ≠ .undecided → r'.dispositions[l] = r.dispositions[l]
  taken : r.decisionTaken = true → r'.decisionTaken = true ∧ r'.dispositions = r.dispositions

theorem Onward.refl (r : RepeatRecord) : Onward r r := ⟨rfl, rfl, rfl, rfl, rfl, rfl, fun _ _ => rfl, fun h => ⟨h, rfl⟩⟩

theorem Onward.trans {r₁ r₂ r₃ : RepeatRecord} (a : Onward r₁ r₂) (b : Onward r₂ r₃) : Onward r₁ r₃ where
  repeatNo := b.repeatNo.trans a.repeatNo
  stamp := b.stamp.trans a.stamp
  laneSet := b.laneSet.trans a.laneSet
  decision := b.decision.trans a.decision
  exit := b.exit.trans a.exit
  camera := b.camera.trans a.camera
  decided l made := by
    have kept := a.decided l made
    exact (b.decided l (kept ▸ made)).trans kept
  taken done :=
    have ⟨done', same⟩ := a.taken done
    have ⟨done'', same'⟩ := b.taken done'
    ⟨done'', same'.trans same⟩

theorem Revised.onward {r r' : RepeatRecord} (revised : Revised r r') : Onward r r' :=
  ⟨revised.repeatNo, revised.stamp, revised.laneSet, revised.decision, revised.exit, revised.camera,
    fun _ _ => by rw [revised.dispositions], fun taken => ⟨revised.taken taken, revised.dispositions⟩⟩

theorem RepeatRecord.onward_dispose {r : RepeatRecord} {l : Lane} (d : Disposition) (undecided : r.undecided l = true)
    (due : r.decisionTaken = false) : Onward r (r.dispose l d) := by
  refine ⟨rfl, rfl, rfl, rfl, rfl, rfl, fun m made => ?_, (absurd · (due ▸ nofun))⟩
  simp only [RepeatRecord.dispose, set_getElem]
  split
  · next mine =>
    simp only [RepeatRecord.undecided, Bool.and_eq_true, beq_iff_eq] at undecided
    exact absurd (mine ▸ undecided.2) made
  · rfl

/-- The records go on, and new ones join at the end. -/
def GoOn (rs rs' : List RepeatRecord) : Prop := ∃ mid new, List.Forall₂ Onward rs mid ∧ rs' = mid ++ new

theorem GoOn.refl (rs : List RepeatRecord) : GoOn rs rs :=
  ⟨rs, [], List.forall₂_same.mpr (fun r _ => .refl r), (List.append_nil rs).symm⟩

theorem forall₂_onward_trans {a b c : List RepeatRecord} (ab : List.Forall₂ Onward a b)
    (bc : List.Forall₂ Onward b c) : List.Forall₂ Onward a c := by
  induction ab generalizing c with
  | nil => exact bc
  | cons first _ ih =>
    cases bc with
    | cons second rest => exact .cons (first.trans second) (ih rest)

theorem GoOn.trans {rs rs' rs'' : List RepeatRecord} (a : GoOn rs rs') (b : GoOn rs' rs'') : GoOn rs rs'' := by
  obtain ⟨mid, new, onward, rfl⟩ := a
  obtain ⟨mid', new', onward', rfl⟩ := b
  have first : List.Forall₂ Onward mid (mid'.take mid.length) := by
    simpa using List.forall₂_take mid.length onward'
  exact ⟨mid'.take mid.length, mid'.drop mid.length ++ new', forall₂_onward_trans onward first,
    by simp [← List.append_assoc]⟩

theorem RecordsRevised.goOn {rs rs' : List RepeatRecord} (revised : RecordsRevised rs rs') : GoOn rs rs' :=
  ⟨rs', [], revised.imp (fun _ _ => Revised.onward), (List.append_nil rs').symm⟩

theorem Recorded.goOn {s t : State} (recorded : Recorded s t) : GoOn s.map.records t.map.records := by
  cases recorded with
  | revised records => exact records.goOn
  | lost _ records => exact records.goOn
  | entered mid r fresh room records added =>
    exact ⟨mid, [r], records.imp (fun _ _ => Revised.onward), added⟩
  | disposed l d before after r records disposed due undecided =>
    rw [records, disposed]
    have same (rs : List RepeatRecord) : List.Forall₂ Onward rs rs := List.forall₂_same.mpr (fun r _ => .refl r)
    exact ⟨_, [], List.rel_append (same before) (.cons (r.onward_dispose d undecided due.1) (same after)), by simp⟩
  | cleared records => exact records ▸ .refl _

end Sys2Proof.Machine

/-!
PROOFS. Repeat numbers (R27, R71): what is held is held once, and a step gives out at most 65 new numbers.
-/

namespace Sys2Proof.Machine

/-! ## Numbers held and given out -/

/-- The numbers that `n` mark events from `first` on give out (R27). -/
def numbersFrom (first : RepeatNo) (n : Nat) : List RepeatNo := (List.range n).map (fun i => first + BitVec.ofNat 16 i)

/-- From the one state to the other `n` numbers are given out, and of what was held and these some are held. -/
def GivesOut (n : Nat) (s t : State) : Prop :=
  t.reg.number = s.reg.number + BitVec.ofNat 16 n ∧
  t.numbersHeld.Subperm (s.numbersHeld ++ numbersFrom s.reg.number n)

theorem GivesOut.none {s t : State} (number : t.reg.number = s.reg.number) (held : t.numbersHeld.Subperm s.numbersHeld) :
    GivesOut 0 s t := ⟨by simp [number], by simpa [numbersFrom] using held⟩

theorem numbersFrom_add (first : RepeatNo) (m n : Nat) :
    numbersFrom first (m + n) = numbersFrom first m ++ numbersFrom (first + BitVec.ofNat 16 m) n := by
  simp [numbersFrom, List.range_add, List.map_append, Function.comp_def, BitVec.ofNat_add, BitVec.add_assoc]

theorem GivesOut.trans {m n : Nat} {s t u : State} (st : GivesOut m s t) (tu : GivesOut n t u) :
    GivesOut (m + n) s u := by
  obtain ⟨number, held⟩ := st
  obtain ⟨number', held'⟩ := tu
  refine ⟨by rw [number', number, BitVec.ofNat_add, BitVec.add_assoc], ?_⟩
  rw [numbersFrom_add, ← number, ← List.append_assoc]
  exact held'.trans ((List.subperm_append_right _).mpr held)

/-! ## The operations -/

theorem RecordsRevised.numbers {rs rs' : List RepeatRecord} (revised : RecordsRevised rs rs') :
    rs'.map (fun r => r.repeatNo) = rs.map (fun r => r.repeatNo) := by
  induction revised with
  | nil => rfl
  | cons first _ ih => rw [List.map_cons, List.map_cons, first.repeatNo, ih]

/-- The numbers held by records that an operation moves, and by cuts that it leaves. -/
theorem numbersHeld_of_cuts {s t : State}
    (schedule : t.cut.schedule.map (fun c => c.repeatNo) = s.cut.schedule.map (fun c => c.repeatNo))
    (queue : t.cut.queue.map (fun c => c.repeatNo) = s.cut.queue.map (fun c => c.repeatNo))
    (records : t.map.records.map (fun r => r.repeatNo) = s.map.records.map (fun r => r.repeatNo)) :
    t.numbersHeld = s.numbersHeld := by
  rw [State.numbersHeld, schedule, queue, records, State.numbersHeld]

/-- A struck cut gives its number to the records, or loses it. -/
theorem Entered.numbers {n : RepeatNo} {s u t : State} (touched : MapTouched s u) (entered : Entered n u t) :
    (t.map.records.map (fun r => r.repeatNo)).Subperm (s.map.records.map (fun r => r.repeatNo) ++ [n]) := by
  have same := touched.revised.numbers
  rcases entered.2 with ⟨r, number, -, -, records, -⟩ | ⟨records, -⟩
  · rw [records, List.map_append, same, ← number]
    exact List.Subperm.refl _
  · rw [records, same]
    exact (List.sublist_append_left _ _).subperm

/-- A fired cut's number joins what is held, or is lost. -/
theorem fireCut_numbers (c : Cut) (s : State) : (fireCut c s).numbersHeld.Subperm (s.numbersHeld ++ [c.repeatNo]) := by
  obtain ⟨schedule, -, cases⟩ := fireCut_cases c s
  rw [State.numbersHeld, schedule, State.numbersHeld]
  rcases cases with ⟨queue, map, -⟩ | ⟨queue, u, touched, entered⟩
  · rw [queue, map, ← List.append_assoc]
  · rw [queue]
    have perm (a b c d : List RepeatNo) : (a ++ d ++ b ++ c).Subperm (a ++ b ++ c ++ d) := by
      refine List.Perm.subperm ?_
      simp only [List.append_assoc]
      refine List.Perm.append_left a ?_
      rw [← List.append_assoc b c d]
      exact List.perm_append_comm
    refine List.Subperm.trans ?_ (perm _ _ _ _)
    exact (List.subperm_append_right _).mpr ((List.subperm_append_right _).mpr (entered.numbers touched))

theorem fireHead_numbers (s : State) : (fireHead s).numbersHeld.Subperm s.numbersHeld := by
  unfold fireHead
  split
  · exact List.Subperm.refl _
  · next c rest schedule =>
    refine (fireCut_numbers c _).trans (List.Perm.subperm ?_)
    simp only [State.numbersHeld, setCut_map, setCut_cut, schedule, List.map_cons, List.append_assoc]
    refine List.Perm.append_left _ ?_
    rw [← List.append_assoc]
    exact List.perm_append_comm

theorem strikeOldest_numbers (s : State) : (strikeOldest s).numbersHeld.Subperm s.numbersHeld := by
  unfold strikeOldest
  split
  · exact List.Subperm.refl _
  · next c rest queue =>
    obtain ⟨u, touched, entered⟩ := strike_entered c (s.setCut { s.cut with queue := rest })
    obtain ⟨schedule, waiting, -⟩ := strike_lists c (s.setCut { s.cut with queue := rest })
    rw [State.numbersHeld, schedule, waiting, State.numbersHeld, queue]
    refine List.Subperm.trans ((List.subperm_append_right _).mpr ((List.subperm_append_right _).mpr
      (entered.numbers touched))) (List.Perm.subperm ?_)
    simp only [setCut_map, setCut_cut, List.map_cons, List.append_assoc]
    refine List.Perm.append_left _ ?_
    exact (List.perm_middle (l₁ := s.cut.schedule.map (fun c => c.repeatNo))).symm

theorem receiveMark_numbers (m : MarkRecord) (s : State) :
    (receiveMark m s).numbersHeld.Subperm (s.numbersHeld ++ [m.repeatNo]) := by
  have sub (a b : List RepeatNo) : a.Subperm (a ++ b) := (List.sublist_append_left a b).subperm
  rcases (receiveMark_cases m s).2 with ⟨-, schedule, queue, map, -⟩ | ⟨-, ⟨c, number, schedule, queue, map, -⟩ |
      ⟨c, u, number, map, -, schedule, queue, fired⟩⟩
  · rw [State.numbersHeld, schedule, queue, map]
    exact sub _ _
  · rw [State.numbersHeld, schedule, queue, map, State.numbersHeld, ← number, List.map_append]
    refine List.Perm.subperm ?_
    simp only [List.append_assoc]
    exact List.Perm.append_left _ (List.Perm.append_left _ List.perm_append_comm)
  · have same : u.numbersHeld = s.numbersHeld := by rw [State.numbersHeld, schedule, queue, map, State.numbersHeld]
    rw [fired, ← number, ← same]
    exact fireCut_numbers c u

theorem emptied_subperm (a b c : List RepeatNo) : (a ++ [] ++ []).Subperm (a ++ b ++ c) :=
  (((List.Sublist.refl a).append (List.nil_sublist b)).append (List.nil_sublist c)).subperm

theorem testDeficits_numbers (s : State) : (testDeficits s).numbersHeld.Subperm s.numbersHeld := by
  obtain ⟨-, -, -, cut⟩ := testDeficits_keeps s
  have map : (testDeficits s).map = s.map := by simp
  rcases cut with same | ⟨schedule, queue, -⟩
  · rw [State.numbersHeld, same, map]
    exact List.Subperm.refl _
  · rw [State.numbersHeld, schedule, queue, map]
    exact emptied_subperm _ _ _

theorem takeMark_givesOut (m : MarkEvent) (s : State) : GivesOut 1 s (takeMark m s) := by
  refine ⟨takeMark_number m s, ?_⟩
  obtain ⟨-, -, cut, map, -⟩ := markedFor_keeps m s
  have held : (markedFor m s).numbersHeld = s.numbersHeld := by rw [State.numbersHeld, cut, map, State.numbersHeld]
  have received := receiveMark_numbers (handedRecord m s) (markedFor m s)
  rw [held] at received
  have one : numbersFrom s.reg.number 1 = [(handedRecord m s).repeatNo] := by simp [numbersFrom, handedRecord]
  rw [takeMark_eq, one]
  split
  · exact (testDeficits_numbers _).trans received
  · exact received

theorem enterIdle_numbers (m : Mode) (s : State) : (enterIdle m s).numbersHeld.Subperm s.numbersHeld := by
  obtain ⟨-, -, -, schedule, queue, -⟩ := enterIdle_keeps m s
  have map : (enterIdle m s).map = s.map := by simp
  rw [State.numbersHeld, schedule, queue, map]
  exact emptied_subperm _ _ _

theorem updateFirst_numbers {p : RepeatRecord → Bool} {f : RepeatRecord → RepeatRecord}
    (number : ∀ r, (f r).repeatNo = r.repeatNo) (rs : List RepeatRecord) :
    (updateFirst p f rs).map (fun r => r.repeatNo) = rs.map (fun r => r.repeatNo) := by
  induction rs with
  | nil => rfl
  | cons r rs ih =>
    rw [updateFirst]
    split
    · simp [number]
    · simp [ih]

theorem decideLane_numbers (n : RepeatNo) (l : Lane) (s : State) :
    (decideLane n l s).map.records.map (fun r => r.repeatNo) = s.map.records.map (fun r => r.repeatNo) := by
  rcases decideLane_cases n l s with same | ⟨r, d, -, -, -, -, map, -⟩
  · rw [same]
  · rw [map]
    exact updateFirst_numbers (f := fun q => q.dispose l d) (fun _ => rfl) _

theorem Work.givesOut {k : Nat} {s t : State} (work : Work k s t) : GivesOut k s t := by
  have same {t : State} (number : t.reg.number = s.reg.number) (schedule : t.cut.schedule = s.cut.schedule)
      (queue : t.cut.queue = s.cut.queue)
      (records : t.map.records.map (fun r => r.repeatNo) = s.map.records.map (fun r => r.repeatNo)) : GivesOut 0 s t :=
    .none number (numbersHeld_of_cuts (by rw [schedule]) (by rw [queue]) records ▸ List.Subperm.refl _)
  have updated {n : RepeatNo} {f : RepeatRecord → RepeatRecord} (each : ∀ r, Revised r (f r)) :
      GivesOut 0 s (s.updateRecord n f) :=
    same rfl rfl rfl (updateFirst_numbers (fun r => (each r).repeatNo) _)
  cases work with
  | mark _ m => exact takeMark_givesOut m s
  | fire => exact .none (congrArg Registration.number (fireHead_frame s).2.1) (fireHead_numbers s)
  | strike => exact .none (congrArg Registration.number (strikeOldest_frame s).2.1) (strikeOldest_numbers s)
  | idle _ m => exact .none (enterIdle_keeps m s).2.1 (enterIdle_numbers m s)
  | reg _ r pEff number => exact same number rfl rfl rfl
  | cut _ c schedule queue =>
    refine .none rfl ?_
    rw [numbersHeld_of_cuts (s := s) (t := s.setCut c) schedule queue rfl]
  | map _ m records => exact same rfl rfl rfl (by rw [setMap_map, records])
  | touch _ n f touches => exact updated (fun r => (touches r).revised)
  | purge _ n => exact updated (Revised.of_purgeTest s.purgeInForce)
  | decided _ n => exact updated Revised.of_markDecided
  | decide _ n l => exact same (by simp) (by simp) (by simp) (decideLane_numbers n l s)
  | notice _ n => exact same (by simp) (by simp) (by simp) (by rw [(pushNotice_records n s).1])
  | commit => exact same (applyCommit_number s) (by simp) (by simp) (by simp)
  | reached _ a now =>
    cases a with
    | web => exact same rfl rfl rfl rfl
    | belt => exact same rfl rfl rfl (RecordsRevised.of_count now _).numbers
  | _ => exact same (by simp) (by simp) (by simp) (by simp)

theorem Runs.givesOut {n : Nat} {s t : State} (run : Runs n s t) : ∃ j ≤ n, GivesOut j s t := by
  induction run with
  | refl n s => exact ⟨0, Nat.zero_le n, .none rfl (List.Subperm.refl _)⟩
  | step first rest ih =>
    obtain ⟨j, bound, given⟩ := ih
    exact ⟨_, Nat.add_le_add_left bound _, first.givesOut.trans given⟩

theorem Runs.goOn {n : Nat} {s t : State} (run : Runs n s t) : GoOn s.map.records t.map.records := by
  induction run with
  | refl n s => exact .refl _
  | step first rest ih => exact first.recorded.goOn.trans ih

/-! ## Numbers apart (R27) -/

/-- Numbers that differ, none of them soon to be given out, still differ when numbers are given out. -/
theorem GivesOut.apart {n : Nat} {s t : State} (given : GivesOut n s t) (few : n ≤ 65) (apart : NumbersApart s) :
    t.numbersHeld.Nodup := by
  obtain ⟨distinct, far⟩ := apart
  have far : ∀ m ∈ s.numbersHeld, 65 ≤ (m - s.reg.number).toNat := by simpa using far
  have near (i : Nat) (small : i < n) : (BitVec.ofNat 16 i).toNat = i := by
    rw [BitVec.toNat_ofNat]
    omega
  have new : (numbersFrom s.reg.number n).Nodup := by
    refine List.Nodup.map_on (fun i mem j mem' same => ?_) List.nodup_range
    rw [← near i (List.mem_range.mp mem), ← near j (List.mem_range.mp mem'), (BitVec.add_right_inj _).mp same]
  have joined : (s.numbersHeld ++ numbersFrom s.reg.number n).Nodup := by
    refine List.nodup_append.mpr ⟨distinct, new, fun a held b given' same => ?_⟩
    obtain ⟨i, mem, rfl⟩ := List.mem_map.mp given'
    have gap := far a held
    have bound := List.mem_range.mp mem
    rw [same, BitVec.add_comm, BitVec.add_sub_cancel, near i bound] at gap
    omega
  obtain ⟨l, perm, sub⟩ := given.2
  exact perm.nodup_iff.mp (joined.sublist sub)

theorem recordsDistinct_of_held {s : State} (distinct : s.numbersHeld.Nodup) : RecordsDistinct s := by
  rw [State.numbersHeld, List.append_assoc] at distinct
  exact (List.nodup_append.mp distinct).1

theorem Removal.numbers {s t : State} (removal : Removal s t) :
    t.numbersHeld.Sublist s.numbersHeld ∧ t.reg.number = s.reg.number := by
  have records := removal.records_sublist.map (fun r => r.repeatNo)
  have rest : t.cut = s.cut ∧ t.reg = s.reg := by cases removal <;> exact ⟨rfl, rfl⟩
  rw [State.numbersHeld, rest.1, rest.2, State.numbersHeld]
  exact ⟨(records.append (List.Sublist.refl _)).append (List.Sublist.refl _), rfl⟩

theorem Removal.apart {s t : State} (removal : Removal s t) (apart : NumbersApart s) : NumbersApart t := by
  obtain ⟨held, number⟩ := removal.numbers
  obtain ⟨distinct, far⟩ := apart
  refine ⟨distinct.sublist held, ?_⟩
  rw [number]
  exact List.all_eq_true.mpr (fun n mem => List.all_eq_true.mp far n (held.subset mem))

/-! ## Records that go on (R85) -/

/-- Of records with numbers of their own, the one found under a number goes on as the one found later. -/
theorem GoOn.record {s t : State} (goOn : GoOn s.map.records t.map.records) (distinct : RecordsDistinct s)
    {r r' : RepeatRecord} (mem : r ∈ s.map.records) (found : t.record r.repeatNo = some r') : Onward r r' := by
  obtain ⟨mid, new, onward, records⟩ := goOn
  rw [State.record, records, List.find?_append] at found
  have first : ∃ r'', mid.find? (fun q => q.repeatNo == r.repeatNo) = some r'' ∧ Onward r r'' := by
    clear found records
    rw [RecordsDistinct] at distinct
    generalize s.map.records = rs at onward distinct mem
    induction onward with
    | nil => cases mem
    | @cons q q' rs mid' one _ ih =>
      rw [List.map_cons, List.nodup_cons] at distinct
      rw [List.find?_cons, one.repeatNo]
      rcases List.mem_cons.mp mem with rfl | later
      · exact ⟨q', by simp, one⟩
      · have other : (q.repeatNo == r.repeatNo) = false := by
          refine beq_eq_false_iff_ne.mpr fun same => distinct.1 ?_
          exact List.mem_map.mpr ⟨r, later, same.symm⟩
        rw [other]
        exact ih distinct.2 later
  obtain ⟨r'', found', one⟩ := first
  rw [found', Option.some_or] at found
  cases found
  exact one

theorem record_of_mem_removal {s t : State} (removal : Removal s t) (distinct : RecordsDistinct s) {r r' : RepeatRecord}
    (mem : r ∈ s.map.records) (found : t.record r.repeatNo = some r') : r' = r :=
  List.inj_on_of_nodup_map distinct (removal.records_sublist.subset (List.mem_of_find?_eq_some found)) mem
    (repeatNo_of_record found)

/-- A step leaves what a record found again is (R85). -/
theorem step_onward {s t : State} (stepped : step s = .next t) (distinct : RecordsDistinct s) {r r' : RepeatRecord}
    (mem : r ∈ s.map.records) (found : t.record r.repeatNo = some r') : Onward r r' := by
  rcases step_reaches stepped with ⟨rest, run | ⟨u, removal, -, records⟩⟩ | ⟨u, rfl⟩
  · exact (run.goOn : GoOn s.map.records t.map.records).record distinct mem found
  · have found : u.record r.repeatNo = some r' := by rw [State.record, ← records]; exact found
    rw [record_of_mem_removal removal distinct mem found]
    exact .refl r
  · rw [State.record, (deviceReset_blocks u).2.2.2.1] at found
    cases found

theorem deviceReset_numbersHeld (s : State) : (deviceReset s).numbersHeld = [] := by
  obtain ⟨-, -, cut, map, -⟩ := deviceReset_blocks s
  rw [State.numbersHeld, cut, map]
  rfl

theorem step_numbers {s t : State} (stepped : step s = .next t) (apart : NumbersApart s) : t.numbersHeld.Nodup := by
  rcases step_reaches stepped with ⟨rest, run | ⟨u, removal, run, -⟩⟩ | ⟨u, rfl⟩
  · obtain ⟨j, few, given⟩ := run.givesOut
    exact GivesOut.apart given few apart
  · obtain ⟨j, few, given⟩ := run.givesOut
    exact given.apart few (removal.apart apart)
  · rw [deviceReset_numbersHeld]
    exact List.nodup_nil

/-- Settles O57: condemned labels by the operations, numbers by the numbers given out, and records by their going on. -/
theorem stepDecidesEachLabelOnce : Obligations.StepDecidesEachLabelOnce := by
  intro s t sound stepped
  refine ⟨step_keeps (fun work => work.recorded.condemned) Removal.condemned
    (fun s => (deviceReset_invariants s).2.1) stepped sound, fun apart => ?_, fun distinct r mem r' found => ?_⟩
  · have held := step_numbers stepped apart
    exact ⟨held, recordsDistinct_of_held held⟩
  · have onward := step_onward stepped distinct mem found
    exact ⟨onward.stamp, onward.laneSet, onward.decision, onward.exit, onward.camera, onward.decided,
      fun taken => (onward.taken taken).2⟩

end Sys2Proof.Machine

/-!
PROOFS. Lanes and log in agreement (R148, R153, R159): what each move of a slot and of its lane's claim keeps.
-/

namespace Sys2Proof.Machine

/-! ## Claims -/

/-- What a lane claims of the log: the slot of its open stack, and the slots and sequence numbers of its eject list. -/
structure Claim where
  opened : Option SlotIndex
  ejects : List (SlotIndex × Seq)

def LaneUnit.claim (u : LaneUnit) : Claim := ⟨u.openStack.map (fun o => o.slot), u.ejects.map (fun e => (e.slot, e.seq))⟩

/-- The slot is the open one of a lane, or stands in the eject list of a lane under a sequence number. -/
def Slot.OpensFor (x : Slot) (l : Lane) : Prop := ∃ r, x = .held .forming r ∧ r.lane = l

def Slot.ListsFor (x : Slot) (l : Lane) (q : Seq) : Prop := ∃ r, x = .held .closed r ∧ r.lane = l ∧ r.seq = q

/-- The log and the claims of the lanes agree, slot by slot. -/
structure Agreed (log : StackLog) (claims : Lane → Claim) : Prop where
  distinct : log.ready.Nodup
  ready : ∀ i : SlotIndex, i ∈ log.ready ↔ (log.slots[i]).isIn .ready = true
  opened : ∀ (l : Lane) (i : SlotIndex), (claims l).opened = some i ↔ (log.slots[i]).OpensFor l
  listed : ∀ (l : Lane) (i : SlotIndex) (q : Seq), (i, q) ∈ (claims l).ejects ↔ (log.slots[i]).ListsFor l q
  once : ∀ l : Lane, ((claims l).ejects.map (fun e => e.1)).Nodup

/-- The log and the lanes of a state agree. -/
def State.Agrees (s : State) : Prop := Agreed s.log (fun l => (s.lane l).claim)

theorem LaneUnit.claim_slots (u : LaneUnit) : u.claim.ejects.map (fun e => e.1) = u.ejects.map (fun e => e.slot) := by
  simp [LaneUnit.claim, Function.comp_def]

theorem LaneUnit.claim_opened_eq_some {u : LaneUnit} {i : SlotIndex} :
    u.claim.opened = some i ↔ ∃ o, u.openStack = some o ∧ o.slot = i := Option.map_eq_some_iff

theorem LaneUnit.mem_claim_ejects {u : LaneUnit} {i : SlotIndex} {q : Seq} :
    (i, q) ∈ u.claim.ejects ↔ ∃ e ∈ u.ejects, e.slot = i ∧ e.seq = q := by
  simp [LaneUnit.claim]

/-- The agreement, clause by clause as the obligations state it. -/
theorem agrees_iff (s : State) :
    s.Agrees ↔ ReadyListExact s ∧ LanesOwnTheirSlots s ∧ SlotsHaveOwners s := by
  constructor
  · rintro ⟨distinct, ready, opened, listed, once⟩
    refine ⟨⟨distinct, ready⟩, fun l => ⟨fun o mem => ?_, fun e mem => ?_, ?_⟩, fun i r content => ⟨fun stands => ?_, fun stands => ?_⟩⟩
    · obtain ⟨r, held, lane⟩ := (opened l o.slot).mp (LaneUnit.claim_opened_eq_some.mpr ⟨o, mem, rfl⟩)
      have held : s.slot o.slot = .held .forming r := held
      exact ⟨r, by simp [held, Slot.record?], by simp [held, Slot.isIn], lane⟩
    · obtain ⟨r, held, lane, seq⟩ := (listed l e.slot e.seq).mp (LaneUnit.mem_claim_ejects.mpr ⟨e, mem, rfl, rfl⟩)
      have held : s.slot e.slot = .held .closed r := held
      exact ⟨r, by simp [held, Slot.record?], by simp [held, Slot.isIn], lane, seq⟩
    · rw [← LaneUnit.claim_slots]
      exact once l
    · have held := Slot.eq_held_of_isIn content stands
      exact LaneUnit.claim_opened_eq_some.mp ((opened r.lane i).mpr ⟨r, held, rfl⟩)
    · have held := Slot.eq_held_of_isIn content stands
      obtain ⟨e, mem, slot, -⟩ := LaneUnit.mem_claim_ejects.mp ((listed r.lane i r.seq).mpr ⟨r, held, rfl, rfl⟩)
      exact List.mem_map.mpr ⟨e, mem, slot⟩
  · rintro ⟨⟨distinct, ready⟩, own, owners⟩
    refine ⟨distinct, ready, fun l i => ?_, fun l i q => ?_, fun l => ?_⟩
    · rw [LaneUnit.claim_opened_eq_some]
      constructor
      · rintro ⟨o, mem, rfl⟩
        obtain ⟨r, content, stands, lane⟩ := (own l).1 o mem
        exact ⟨r, Slot.eq_held_of_isIn content stands, lane⟩
      · rintro ⟨r, held, rfl⟩
        have held : s.slot i = .held .forming r := held
        exact (owners i r (by simp [held, Slot.record?])).1 (by simp [held, Slot.isIn])
    · rw [LaneUnit.mem_claim_ejects]
      constructor
      · rintro ⟨e, mem, rfl, rfl⟩
        obtain ⟨r, content, stands, lane, seq⟩ := (own l).2.1 e mem
        exact ⟨r, Slot.eq_held_of_isIn content stands, lane, seq⟩
      · rintro ⟨r, held, rfl, rfl⟩
        have held : s.slot i = .held .closed r := held
        obtain ⟨e, mem, slot⟩ := List.mem_map.mp
          ((owners i r (by simp [held, Slot.record?])).2 (by simp [held, Slot.isIn]))
        refine ⟨e, mem, slot, ?_⟩
        obtain ⟨r', content, -, -, seq⟩ := (own r.lane).2.1 e mem
        rw [← seq]
        simp only [slot, held, Slot.record?, Option.mem_def, Option.some.injEq] at content
        rw [content]
    · rw [LaneUnit.claim_slots]
      exact (own l).2.2

/-! ## Moves of one slot -/

theorem slots_set (v : Vector Slot 32) (i j : SlotIndex) (x : Slot) :
    (v.set i.val x i.isLt)[j] = if j = i then x else v[j] := by
  rw [Fin.getElem_fin, Vector.getElem_set]
  simp [Fin.ext_iff, eq_comm]

/-- A move of one slot keeps the agreement when every other slot stays claimed as it was, and this one becomes so. -/
theorem Agreed.set {log : StackLog} {claims claims' : Lane → Claim} {ready : List SlotIndex} (agreed : Agreed log claims)
    (i : SlotIndex) (x : Slot) (distinct : ready.Nodup) (once : ∀ l, ((claims' l).ejects.map (fun e => e.1)).Nodup)
    (ready_other : ∀ j, j ≠ i → (j ∈ ready ↔ j ∈ log.ready)) (ready_mine : i ∈ ready ↔ x.isIn .ready = true)
    (opened_other : ∀ l j, j ≠ i → ((claims' l).opened = some j ↔ (claims l).opened = some j))
    (opened_mine : ∀ l, (claims' l).opened = some i ↔ x.OpensFor l)
    (listed_other : ∀ l j q, j ≠ i → ((j, q) ∈ (claims' l).ejects ↔ (j, q) ∈ (claims l).ejects))
    (listed_mine : ∀ l q, (i, q) ∈ (claims' l).ejects ↔ x.ListsFor l q) :
    Agreed ⟨log.slots.set i.val x, ready⟩ claims' := by
  refine ⟨distinct, fun j => ?_, fun l j => ?_, fun l j q => ?_, once⟩
  all_goals
    dsimp only
    rw [slots_set]
    split
  · next mine => exact mine ▸ ready_mine
  · next other => exact (ready_other j other).trans (agreed.ready j)
  · next mine => exact mine ▸ opened_mine l
  · next other => exact (opened_other l j other).trans (agreed.opened l j)
  · next mine => exact mine ▸ listed_mine l q
  · next other => exact (listed_other l j q other).trans (agreed.listed l j q)

section
variable {log : StackLog} {claims : Lane → Claim} {l : Lane} {i : SlotIndex} {r r' : StackRecord}

/-- What a slot's content says of the claims on it. -/
theorem Agreed.claims_forming (agreed : Agreed log claims) (held : log.slots[i] = .held .forming r) :
    i ∉ log.ready ∧ (∀ m, (claims m).opened = some i ↔ r.lane = m) ∧ ∀ m q, (i, q) ∉ (claims m).ejects := by
  simp [agreed.ready, agreed.opened, agreed.listed, held, Slot.isIn, Slot.OpensFor, Slot.ListsFor]

theorem Agreed.claims_closed (agreed : Agreed log claims) (held : log.slots[i] = .held .closed r) :
    i ∉ log.ready ∧ (∀ m, (claims m).opened ≠ some i) ∧ ∀ m q, (i, q) ∈ (claims m).ejects ↔ r.lane = m ∧ r.seq = q := by
  simp [agreed.ready, agreed.opened, agreed.listed, held, Slot.isIn, Slot.OpensFor, Slot.ListsFor]

theorem Agreed.claims_ready (agreed : Agreed log claims) (held : log.slots[i] = .held .ready r) :
    i ∈ log.ready ∧ (∀ m, (claims m).opened ≠ some i) ∧ ∀ m q, (i, q) ∉ (claims m).ejects := by
  simp [agreed.ready, agreed.opened, agreed.listed, held, Slot.isIn, Slot.OpensFor, Slot.ListsFor]

theorem Agreed.claims_free (agreed : Agreed log claims) (held : log.slots[i] = .free) :
    i ∉ log.ready ∧ (∀ m, (claims m).opened ≠ some i) ∧ ∀ m q, (i, q) ∉ (claims m).ejects := by
  simp [agreed.ready, agreed.opened, agreed.listed, held, Slot.isIn, Slot.OpensFor, Slot.ListsFor]

/-- A record changed where it stands. -/
theorem Agreed.update (agreed : Agreed log claims) {st : StackState} (held : log.slots[i] = .held st r)
    (lane : r'.lane = r.lane) (seq : r'.seq = r.seq) :
    Agreed { log with slots := log.slots.set i.val (.held st r') } claims := by
  have ready := agreed.ready i
  have opened (m : Lane) := agreed.opened m i
  have listed (m : Lane) (q : Seq) := agreed.listed m i q
  simp only [held, Slot.isIn, Slot.OpensFor, Slot.ListsFor, Slot.held.injEq] at ready opened listed
  refine agreed.set i _ agreed.distinct agreed.once (fun _ _ => Iff.rfl) ready (fun _ _ _ => Iff.rfl) (fun m => ?_)
    (fun _ _ _ _ => Iff.rfl) (fun m q => ?_)
  · rw [opened]
    simp [Slot.OpensFor, lane]
  · rw [listed]
    simp [Slot.ListsFor, lane, seq]

/-- A stack opened in a free slot by a lane without one (R122). -/
theorem Agreed.opens (agreed : Agreed log claims) (free : log.slots[i] = .free) (none : (claims l).opened = none)
    (lane : r.lane = l) :
    Agreed { log with slots := log.slots.set i.val (.held .forming r) }
      (Function.update claims l ⟨some i, (claims l).ejects⟩) := by
  obtain ⟨ready, opened, listed⟩ := agreed.claims_free free
  have ejects (m : Lane) : (Function.update claims l ⟨some i, (claims l).ejects⟩ m).ejects = (claims m).ejects := by
    rw [Function.update_apply]
    split
    · next mine => rw [mine]
    · rfl
  refine agreed.set i _ agreed.distinct (fun m => ?_) (fun _ _ => Iff.rfl) (by simp [Slot.isIn, ready])
    (fun m j other => ?_) (fun m => ?_) (fun m j q _ => by rw [ejects]) (fun m q => ?_)
  · rw [ejects]
    exact agreed.once m
  · rw [Function.update_apply]
    split
    · next mine => simp [mine, none, Ne.symm other]
    · rfl
  · rw [Function.update_apply]
    split
    · next mine => simp [Slot.OpensFor, lane, mine]
    · next other => simp [Slot.OpensFor, opened, lane, Ne.symm other]
  · rw [ejects]
    simp [Slot.ListsFor, listed]

/-- An open stack closed into the eject list of its lane (R125, R131). -/
theorem Agreed.closes (agreed : Agreed log claims) (held : log.slots[i] = .held .forming r)
    (opened : (claims l).opened = some i) (lane : r'.lane = r.lane) (seq : r'.seq = r.seq) :
    Agreed { log with slots := log.slots.set i.val (.held .closed r') }
      (Function.update claims l ⟨none, (claims l).ejects ++ [(i, r.seq)]⟩) := by
  obtain ⟨ready, owner, listed⟩ := agreed.claims_forming held
  have mine : r.lane = l := (owner l).mp opened
  refine agreed.set i _ agreed.distinct (fun m => ?_) (fun _ _ => Iff.rfl) (by simp [Slot.isIn, ready])
    (fun m j other => ?_) (fun m => ?_) (fun m j q other => ?_) (fun m q => ?_)
  all_goals
    rw [Function.update_apply]
    split
  · next same =>
    subst same
    rw [List.map_append, List.map_singleton, List.nodup_append]
    refine ⟨agreed.once m, List.nodup_singleton i, fun j mem k single same => ?_⟩
    obtain ⟨⟨j', q⟩, mem', rfl⟩ := List.mem_map.mp mem
    have same : j' = i := same.trans (List.mem_singleton.mp single)
    exact listed m q (same ▸ mem')
  · exact agreed.once m
  · next same => simp [same, opened, Ne.symm other]
  · rfl
  · simp [Slot.OpensFor]
  · next other => simp [Slot.OpensFor, owner, mine, Ne.symm other]
  · next same => simp [same, other]
  · rfl
  · next same => simp [same, listed, Slot.ListsFor, lane, mine, seq, eq_comm]
  · next other => simp [listed, Slot.ListsFor, lane, mine, Ne.symm other]

/-- An open stack that leaves its lane: its slot becomes READY, or FREE (R131, R137, R145). -/
theorem Agreed.unopens (agreed : Agreed log claims) (held : log.slots[i] = .held .forming r)
    (opened : (claims l).opened = some i) :
    Agreed ⟨log.slots.set i.val (.held .ready r'), log.ready ++ [i]⟩
      (Function.update claims l ⟨none, (claims l).ejects⟩) ∧
    Agreed { log with slots := log.slots.set i.val .free } (Function.update claims l ⟨none, (claims l).ejects⟩) := by
  obtain ⟨ready, owner, listed⟩ := agreed.claims_forming held
  have mine : r.lane = l := (owner l).mp opened
  have ejects (m : Lane) : (Function.update claims l ⟨none, (claims l).ejects⟩ m).ejects = (claims m).ejects := by
    rw [Function.update_apply]
    split
    · next same => rw [same]
    · rfl
  have others (m : Lane) (j : SlotIndex) (other : j ≠ i) :
      (Function.update claims l ⟨none, (claims l).ejects⟩ m).opened = some j ↔ (claims m).opened = some j := by
    rw [Function.update_apply]
    split
    · next same => simp [same, opened, Ne.symm other]
    · rfl
  have nobody (m : Lane) : (Function.update claims l ⟨none, (claims l).ejects⟩ m).opened ≠ some i := by
    rw [Function.update_apply]
    split
    · exact nofun
    · next other => simp [owner, mine, Ne.symm other]
  have once (m : Lane) : ((Function.update claims l ⟨none, (claims l).ejects⟩ m).ejects.map (fun e => e.1)).Nodup := by
    rw [ejects]
    exact agreed.once m
  constructor
  · exact agreed.set i _ (List.nodup_append.mpr ⟨agreed.distinct, List.nodup_singleton i,
        fun j mem k single same => ready (List.mem_singleton.mp single ▸ same ▸ mem)⟩) once
      (fun j other => by simp [other]) (by simp [Slot.isIn]) others (fun m => by simp [nobody, Slot.OpensFor])
      (fun m j q _ => by rw [ejects]) (fun m q => by simp [ejects, listed, Slot.ListsFor])
  · exact agreed.set i _ agreed.distinct once (fun _ _ => Iff.rfl) (by simp [Slot.isIn, ready]) others
      (fun m => by simp [nobody, Slot.OpensFor]) (fun m j q _ => by rw [ejects])
      (fun m q => by simp [ejects, listed, Slot.ListsFor])

/-- The head of an eject list becomes READY (R128). -/
theorem Agreed.releases (agreed : Agreed log claims) {q : Seq} {rest : List (SlotIndex × Seq)}
    (head : (claims l).ejects = (i, q) :: rest) :
    Agreed ⟨log.slots.set i.val (.held .ready r'), log.ready ++ [i]⟩
      (Function.update claims l ⟨(claims l).opened, rest⟩) := by
  obtain ⟨r, held, mine, seq⟩ := (agreed.listed l i q).mp (head ▸ List.mem_cons_self)
  obtain ⟨ready, opened, listed⟩ := agreed.claims_closed held
  have once := agreed.once l
  rw [head, List.map_cons, List.nodup_cons] at once
  have same (m : Lane) : (Function.update claims l ⟨(claims l).opened, rest⟩ m).opened = (claims m).opened := by
    rw [Function.update_apply]
    split
    · next same => rw [same]
    · rfl
  refine agreed.set i _ (List.nodup_append.mpr ⟨agreed.distinct, List.nodup_singleton i,
      fun j mem k single same => ready (List.mem_singleton.mp single ▸ same ▸ mem)⟩) (fun m => ?_)
    (fun j other => by simp [other]) (by simp [Slot.isIn]) (fun m j _ => by rw [same])
    (fun m => by simp [same, opened, Slot.OpensFor]) (fun m j p other => ?_) (fun m p => ?_)
  all_goals
    rw [Function.update_apply]
    split
  · exact once.2
  · exact agreed.once m
  · next same => simp [same, head, other]
  · rfl
  · have gone : (i, p) ∉ rest := fun mem => once.1 (List.mem_map.mpr ⟨_, mem, rfl⟩)
    simp [gone, Slot.ListsFor]
  · next other => simp [listed, mine, Ne.symm other, Slot.ListsFor]

/-- A record put into a free slot as READY (R141). -/
theorem Agreed.fills (agreed : Agreed log claims) (free : log.slots[i] = .free) :
    Agreed ⟨log.slots.set i.val (.held .ready r'), log.ready ++ [i]⟩ claims := by
  obtain ⟨ready, opened, listed⟩ := agreed.claims_free free
  exact agreed.set i _ (List.nodup_append.mpr ⟨agreed.distinct, List.nodup_singleton i,
      fun j mem k single same => ready (List.mem_singleton.mp single ▸ same ▸ mem)⟩) agreed.once
    (fun j other => by simp [other]) (by simp [Slot.isIn]) (fun _ _ _ => Iff.rfl)
    (fun m => by simp [opened, Slot.OpensFor]) (fun _ _ _ _ => Iff.rfl) (fun m q => by simp [listed, Slot.ListsFor])

/-- A READY record acknowledged (R156). -/
theorem Agreed.frees (agreed : Agreed log claims) (held : log.slots[i] = .held .ready r) :
    Agreed ⟨log.slots.set i.val .free, log.ready.filter (fun j => j != i)⟩ claims := by
  obtain ⟨-, opened, listed⟩ := agreed.claims_ready held
  exact agreed.set i _ (agreed.distinct.filter _) agreed.once (fun j other => by simp [other]) (by simp [Slot.isIn])
    (fun _ _ _ => Iff.rfl) (fun m => by simp [opened, Slot.OpensFor]) (fun _ _ _ _ => Iff.rfl)
    (fun m q => by simp [listed, Slot.ListsFor])

end

end Sys2Proof.Machine

/-!
PROOFS. What the operations of one lane do to the log and to the lane (R119, R122 to R133, R145, R148).
-/

namespace Sys2Proof.Machine

/-! ## Writes to a lane, a slot, a gate and a pusher -/

theorem setLane_lane (s : State) (l m : Lane) (u : LaneUnit) :
    (s.setLane l u).lane m = if m = l then u else s.lane m := by
  split
  · next mine => rw [mine, setLane_lane_same]
  · next other => exact setLane_lane_other _ _ _ _ other

theorem setLane_slot (s : State) (l : Lane) (u : LaneUnit) (i : SlotIndex) : (s.setLane l u).slot i = s.slot i := rfl

theorem setSlot_lane (s : State) (i : SlotIndex) (x : Slot) (l : Lane) : (s.setSlot i x).lane l = s.lane l := rfl

theorem setGate_gate (s : State) (l m : Lane) (g : Gate) :
    (s.setGate l g).gate m = if m = l then g else s.gate m := by
  split
  · next mine => rw [mine, setGate_gate_same]
  · next other => exact setGate_gate_other _ _ _ _ other

theorem setPusher_pusher (s : State) (l m : Lane) (p : Pusher) :
    (s.setPusher l p).pusher m = if m = l then p else s.pusher m := by
  split
  · next mine => rw [mine, setPusher_pusher_same]
  · next other => exact setPusher_pusher_other _ _ _ _ other

theorem makeReady_lane (i : SlotIndex) (f : StackRecord → StackRecord) (s : State) (l : Lane) :
    (makeReady i f s).lane l = s.lane l := by
  have lanes : (makeReady i f s).lanes = s.lanes := by simp
  rw [State.lane, lanes, State.lane]

/-! ## Slots made READY -/

/-- A record stands READY in a slot, and the slot joins the ready list (R153). -/
def State.readied (s : State) (i : SlotIndex) (r : StackRecord) : State :=
  raiseEvent .recordReady (s.setLog ⟨s.log.slots.set i.val (.held .ready r), s.log.ready ++ [i]⟩)

theorem makeReady_of_forming {s : State} {i : SlotIndex} {r : StackRecord} (f : StackRecord → StackRecord)
    (held : s.slot i = .held .forming r) : makeReady i f s = s.readied i (f r) := by
  unfold makeReady
  rw [held]
  rfl

theorem makeReady_of_closed {s : State} {i : SlotIndex} {r : StackRecord} (f : StackRecord → StackRecord)
    (held : s.slot i = .held .closed r) : makeReady i f s = s.readied i (f r) := by
  unfold makeReady
  rw [held]
  rfl

theorem closeSlot_of_forming {s : State} {i : SlotIndex} {r : StackRecord} (kind : ClosingKind)
    (held : s.slot i = .held .forming r) :
    closeSlot i kind s = s.setSlot i (.held .closed { r with closing := some kind }) := by
  unfold closeSlot
  rw [held]

theorem updateForming_of_forming {s : State} {i : SlotIndex} {r : StackRecord} (f : StackRecord → StackRecord)
    (held : s.slot i = .held .forming r) : updateForming i f s = s.setSlot i (.held .forming (f r)) := by
  unfold updateForming
  rw [held]

theorem formingRecord_eq_some {s : State} {o : OpenStack} {r : StackRecord} :
    s.formingRecord o = some r ↔ s.slot o.slot = .held .forming r := by
  unfold State.formingRecord
  split <;> simp_all

/-! ## The agreement of a state -/

theorem State.Agrees.of_claims {s t : State} (agrees : s.Agrees) (log : t.log = s.log)
    (claims : ∀ m, (t.lane m).claim = (s.lane m).claim) : t.Agrees := by
  unfold State.Agrees at *
  simpa only [log, claims] using agrees

/-- The agreement after a move by which one lane's claim becomes another. -/
theorem State.Agrees.of_update {s t : State} {l : Lane} {c : Claim}
    (agreed : Agreed t.log (Function.update (fun m => (s.lane m).claim) l c)) (mine : (t.lane l).claim = c)
    (others : ∀ m, m ≠ l → t.lane m = s.lane m) : t.Agrees := by
  have claims : (fun m => (t.lane m).claim) = Function.update (fun m => (s.lane m).claim) l c := by
    funext m
    rw [Function.update_apply]
    split
    · next same => rw [same, mine]
    · next other => rw [others m other]
  rw [State.Agrees, claims]
  exact agreed

theorem State.Agrees.opened {s : State} (agrees : s.Agrees) {l : Lane} {o : OpenStack}
    (opened : (s.lane l).openStack = some o) : ∃ r, s.slot o.slot = .held .forming r ∧ r.lane = l :=
  (Agreed.opened agrees l o.slot).mp (LaneUnit.claim_opened_eq_some.mpr ⟨o, opened, rfl⟩)

theorem State.Agrees.listed {s : State} (agrees : s.Agrees) {l : Lane} {e : Eject} (mem : e ∈ (s.lane l).ejects) :
    ∃ r, s.slot e.slot = .held .closed r ∧ r.lane = l ∧ r.seq = e.seq :=
  (Agreed.listed agrees l e.slot e.seq).mp (LaneUnit.mem_claim_ejects.mpr ⟨e, mem, rfl, rfl⟩)

/-! ## What a lane's state means (R119), and its room (R120, R127) -/

/-- What a lane's state means, by its place in the mask and its latches. -/
def LaneUnit.Means (masked latched : Bool) (u : LaneUnit) : Prop :=
  (u.state = .off ↔ masked = false) ∧
  (u.state = .stacking ↔ u.openStack.isSome = true) ∧
  (u.state = .idle → u.orders = []) ∧
  (u.gap ≠ 0 → u.state = .changing) ∧
  (u.state = .fault → u.quarantine.isSome = true ∧ u.ejects = []) ∧
  (u.quarantine.isSome = true → latched = true) ∧
  (latched = true → u.state = .fault ∨ u.state = .off)

theorem laneStatesMean_iff (s : State) : LaneStatesMean s ↔
    ∀ l, (s.lane l).Means (LaneSet.has s.profile.laneMask l) (s.laneLatched l) := Iff.rfl

/-- The orders and the stacks of a lane within their bounds. -/
def LaneUnit.Room (u : LaneUnit) : Prop :=
  u.orders.length ≤ 8 ∧ u.ejects.length + (if u.openStack.isSome then 1 else 0) ≤ 4

/-- The lane's state still means what it says, and its lists stay within their bounds. -/
structure LaneUnit.Sound (u v : LaneUnit) : Prop where
  means : ∀ masked latched, u.Means masked latched → v.Means masked latched
  room : u.Room → v.Room

theorem LaneUnit.Sound.refl (u : LaneUnit) : u.Sound u := ⟨fun _ _ => id, id⟩

theorem LaneUnit.Sound.trans {u v w : LaneUnit} (uv : u.Sound v) (vw : v.Sound w) : u.Sound w :=
  ⟨fun masked latched => vw.means masked latched ∘ uv.means masked latched, vw.room ∘ uv.room⟩

theorem LaneUnit.SameStacks.sound {u v : LaneUnit} (same : u.SameStacks v) : u.Sound v := by
  obtain ⟨state, orders, opened, gap, quarantine, ejects⟩ := same
  have length : v.ejects.length = u.ejects.length := by simpa using congrArg List.length ejects
  have empty : v.ejects = [] ↔ u.ejects = [] := by rw [← List.length_eq_zero_iff, length, List.length_eq_zero_iff]
  refine ⟨fun masked latched means => ?_, fun room => ?_⟩
  · rw [LaneUnit.Means, state, orders, opened, gap, quarantine, empty]
    exact means
  · rw [LaneUnit.Room, orders, opened, length]
    exact room

theorem LaneUnit.SameStacks.claim {u v : LaneUnit} (same : u.SameStacks v) : v.claim = u.claim := by
  obtain ⟨-, -, opened, -, -, ejects⟩ := same
  rw [LaneUnit.claim, opened, ejects, LaneUnit.claim]

/-- A shorter eject list. -/
theorem LaneUnit.sound_of_ejects {u : LaneUnit} {ejects : List Eject} {pulse : Option (SlotIndex × Seq)}
    (shorter : ejects.length ≤ u.ejects.length) : u.Sound { u with ejects := ejects, pulseStack := pulse } := by
  refine ⟨fun masked latched means => ?_, fun room => ⟨room.1, (Nat.add_le_add_right shorter _).trans room.2⟩⟩
  obtain ⟨off, opened, idle, gap, fault, quarantine, latch⟩ := means
  refine ⟨off, opened, idle, gap, fun state => ⟨(fault state).1, ?_⟩, quarantine, latch⟩
  rw [(fault state).2] at shorter
  exact List.length_eq_zero_iff.mp (Nat.le_zero.mp shorter)

/-! ## Work on one lane -/

/-- Work that moves, of the lanes, the latches and the profile, only one lane, and keeps lanes and log in agreement. -/
structure LaneMove (l : Lane) (s t : State) : Prop where
  others : ∀ m, m ≠ l → t.lane m = s.lane m
  latched : ∀ m, t.laneLatched m = s.laneLatched m
  prof : t.prof = s.prof
  agrees : s.Agrees → t.Agrees

theorem LaneMove.refl (l : Lane) (s : State) : LaneMove l s s := ⟨fun _ _ => rfl, fun _ => rfl, rfl, id⟩

theorem LaneMove.trans {l : Lane} {s t u : State} (st : LaneMove l s t) (tu : LaneMove l t u) : LaneMove l s u where
  others m other := (tu.others m other).trans (st.others m other)
  latched m := (tu.latched m).trans (st.latched m)
  prof := tu.prof.trans st.prof
  agrees := tu.agrees ∘ st.agrees

theorem LaneMove.after {l : Lane} {s t u : State} (last : LaneMove l t u) (first : LaneMove l s t) : LaneMove l s u :=
  first.trans last

theorem laneLatched_of_act {s t : State} (act : t.act = s.act) (m : Lane) : t.laneLatched m = s.laneLatched m := by
  rw [State.laneLatched, State.gate, State.pusher, act]
  rfl

/-- A lane written, with the same claim, and the log standing. -/
theorem LaneMove.of_lane {l : Lane} {s t : State} {u : LaneUnit} (lanes : t.lanes = (s.setLane l u).lanes)
    (claim : u.claim = (s.lane l).claim) (log : t.log = s.log) (act : t.act = s.act) (prof : t.prof = s.prof) :
    LaneMove l s t := by
  have lane (m : Lane) : t.lane m = (s.setLane l u).lane m := by rw [State.lane, lanes, State.lane]
  refine ⟨fun m other => by rw [lane, setLane_lane_other _ _ _ _ other], laneLatched_of_act act, prof,
    fun agrees => agrees.of_claims log fun m => ?_⟩
  by_cases mine : m = l
  · rw [lane, mine, setLane_lane_same, claim]
  · rw [lane, setLane_lane_other _ _ _ _ mine]

theorem setLane_move {l : Lane} {s : State} {u : LaneUnit} (claim : u.claim = (s.lane l).claim) :
    LaneMove l s (s.setLane l u) := .of_lane rfl claim rfl rfl rfl

/-- Work that leaves the lanes, the log, the latches and the profile. -/
theorem LaneMove.of_frame (l : Lane) {s t : State} (lanes : t.lanes = s.lanes) (log : t.log = s.log)
    (latched : ∀ m, t.laneLatched m = s.laneLatched m) (prof : t.prof = s.prof) : LaneMove l s t := by
  have lane (m : Lane) : t.lane m = s.lane m := by rw [State.lane, lanes, State.lane]
  exact ⟨fun m _ => lane m, latched, prof, fun agrees => agrees.of_claims log fun m => by rw [lane]⟩

/-! ## Heads released and ejected (R128 to R130) -/

/-- Work on the eject list of a lane, that may shorten it, and on its pulse stack. -/
structure Released (l : Lane) (s t : State) : Prop extends LaneMove l s t where
  lane : ∃ ejects pulse, t.lane l = { s.lane l with ejects := ejects, pulseStack := pulse } ∧
    ejects.length ≤ (s.lane l).ejects.length

theorem Released.refl (l : Lane) (s : State) : Released l s s := ⟨.refl l s, _, _, rfl, le_refl _⟩

theorem Released.trans {l : Lane} {s t u : State} (st : Released l s t) (tu : Released l t u) : Released l s u := by
  obtain ⟨move, ejects, pulse, lane, shorter⟩ := st
  obtain ⟨move', ejects', pulse', lane', shorter'⟩ := tu
  rw [lane] at lane' shorter'
  exact ⟨move.trans move', ejects', pulse', lane', shorter'.trans shorter⟩

theorem Released.sound {l : Lane} {s t : State} (released : Released l s t) : (s.lane l).Sound (t.lane l) := by
  obtain ⟨-, ejects, pulse, lane, shorter⟩ := released
  rw [lane]
  exact LaneUnit.sound_of_ejects shorter

theorem armEjectHead_released (l : Lane) (s : State) : Released l s (armEjectHead l s) := by
  unfold armEjectHead
  split
  · exact .refl l s
  · next e rest ejects =>
    exact ⟨setLane_move (by simp [LaneUnit.claim, ejects]), _, _, setLane_lane_same _ _ _, by simp [ejects]⟩

/-- The head of the list taken out, and its record made READY. -/
theorem releaseHead_released (l : Lane) (f : StackRecord → StackRecord) (s : State) :
    Released l s (releaseHead l f s) := by
  unfold releaseHead
  split
  · exact .refl l s
  · next e rest ejects =>
    refine .trans ⟨⟨fun m other => ?_, fun m => ?_, ?_, fun agrees => ?_⟩, rest, (s.lane l).pulseStack, ?_, ?_⟩
      (armEjectHead_released l _)
    · rw [makeReady_lane, setLane_lane_other _ _ _ _ other]
    · exact laneLatched_of_act (by simp) m
    · simp
    · obtain ⟨r, held, -⟩ := agrees.listed (ejects ▸ List.mem_cons_self : e ∈ (s.lane l).ejects)
      have held' : (s.setLane l { s.lane l with ejects := rest }).slot e.slot = .held .closed r := by
        rw [setLane_slot, held]
      rw [makeReady_of_closed f held']
      have head : (s.lane l).claim.ejects = (e.slot, e.seq) :: rest.map (fun e => (e.slot, e.seq)) := by
        simp [LaneUnit.claim, ejects]
      refine .of_update (s := s) (l := l) (Agreed.releases agrees head) ?_ fun m other => ?_
      · simp [State.readied, LaneUnit.claim]
      · simp only [State.readied, raiseEvent_views, setLog_view_lane]
        exact setLane_lane_other _ _ _ _ other
    · rw [makeReady_lane, setLane_lane_same]
    · simp [ejects]

theorem setPusher_laneLatched {s : State} {l : Lane} {p : Pusher} (latch : p.latch = (s.pusher l).latch) (m : Lane) :
    (s.setPusher l p).laneLatched m = s.laneLatched m := by
  unfold State.laneLatched
  rw [setPusher_gate, setPusher_pusher]
  split
  · next mine => rw [latch, mine]
  · rfl

theorem setGate_laneLatched {s : State} {l : Lane} {g : Gate} (latch : g.latch = (s.gate l).latch) (m : Lane) :
    (s.setGate l g).laneLatched m = s.laneLatched m := by
  unfold State.laneLatched
  rw [setGate_pusher, setGate_gate]
  split
  · next mine => rw [latch, mine]
  · rfl

theorem startPusherPulse_released (l : Lane) (s : State) : Released l s (startPusherPulse l s) :=
  ⟨.of_frame l rfl rfl (setPusher_laneLatched rfl) rfl, _, _, rfl, le_refl _⟩

theorem setLane_released {l : Lane} {s : State} {ejects : List Eject} (pulse : Option (SlotIndex × Seq))
    (same : ejects.map (fun e => (e.slot, e.seq)) = (s.lane l).ejects.map (fun e => (e.slot, e.seq))) :
    Released l s (s.setLane l { s.lane l with ejects := ejects, pulseStack := pulse }) := by
  have length : ejects.length = (s.lane l).ejects.length := by simpa using congrArg List.length same
  exact ⟨setLane_move (by rw [LaneUnit.claim, same, LaneUnit.claim]), _, _, setLane_lane_same _ _ _, length.le⟩

theorem ejectHead_released (l : Lane) (s : State) : Released l s (ejectHead l s) := by
  unfold ejectHead
  split
  · exact .refl l s
  · next e rest ejects =>
    have due (e' : Eject) (same : (e'.slot, e'.seq) = (e.slot, e.seq)) :
        Released l s (s.setLane l { s.lane l with ejects := e' :: rest }) :=
      setLane_released _ (by rw [ejects, List.map_cons, List.map_cons, same])
    split
    · exact releaseHead_released l _ s
    · split
      · refine .trans ?_ (releaseHead_released l id _)
        exact (startPusherPulse_released l s).trans (setLane_released (s := startPusherPulse l s) _ rfl)
      · exact releaseHead_released l _ s
      · exact due _ rfl
      · exact due _ rfl

theorem ejectReached_released (l : Lane) (n : Nat) (s : State) : Released l s (ejectReached l n s) := by
  induction n generalizing s with
  | zero => exact .refl l s
  | succ n ih =>
    unfold ejectReached
    split
    · exact (ejectHead_released l s).trans (ih _)
    · exact .refl l s

theorem runEjects_released (l : Lane) (s : State) : Released l s (runEjects l s) := ejectReached_released l _ s

/-- An entry joins the list; a list that it makes is armed and its passed head taken (R127). -/
theorem joinEjects_released (l : Lane) (i : SlotIndex) (seq : Seq) (target : Pos) (s : State) :
    Released l (s.setLane l { s.lane l with ejects := (s.lane l).ejects ++ [⟨i, seq, ⟨target, false⟩, false⟩] })
      (joinEjects l i seq target s) := by
  unfold joinEjects
  dsimp only
  split
  · next empty =>
    rw [empty]
    exact (armEjectHead_released l _).trans (runEjects_released l _)
  · next e rest ejects =>
    rw [ejects]
    exact .refl l _

/-! ## Stacks closed (R125, R126, R131) -/

/-- Work that takes the open stack out of a lane, and may list it. -/
structure Closed (l : Lane) (s t : State) : Prop extends LaneMove l s t where
  lane : ∃ ejects pulse,
    t.lane l = { s.lane l with openStack := none, ejects := ejects, pulseStack := pulse } ∧
    ejects.length ≤ (s.lane l).ejects.length + (if (s.lane l).openStack.isSome then 1 else 0)

theorem closeIntoEjects_closed {l : Lane} {o : OpenStack} {s : State} {r : StackRecord} (kind : ClosingKind)
    (opened : (s.lane l).openStack = some o) (held : s.slot o.slot = .held .forming r) :
    Closed l s (closeIntoEjects l o r.seq kind s) := by
  have held' : (s.setLane l { s.lane l with openStack := none }).slot o.slot = .held .forming r := by
    rw [setLane_slot, held]
  have joined := joinEjects_released l o.slot r.seq (ejectPosition s.profile (o.stamp.getD 0))
    ((s.setLane l { s.lane l with openStack := none }).setSlot o.slot
      (.held .closed { r with closing := some kind }))
  unfold closeIntoEjects
  rw [closeSlot_of_forming kind held']
  obtain ⟨⟨others, latched, prof, agrees⟩, ejects, pulse, lane, shorter⟩ := joined
  refine ⟨⟨fun m other => ?_, fun m => ?_, ?_, fun agreed => agrees ?_⟩, ejects, pulse, ?_, ?_⟩
  · rw [others m other, setLane_lane_other _ _ _ _ other, setSlot_lane,
      setLane_lane_other _ _ _ _ other]
  · rw [latched]
    exact laneLatched_of_act (by simp) m
  · rw [prof]
    simp
  · refine .of_update (s := s) (l := l) (Agreed.closes agreed held
      (LaneUnit.claim_opened_eq_some.mpr ⟨o, opened, rfl⟩) rfl rfl) ?_ fun m other => ?_
    · simp [LaneUnit.claim]
    · rw [setLane_lane_other _ _ _ _ other, setSlot_lane, setLane_lane_other _ _ _ _ other]
  · rw [lane, setLane_lane_same, setSlot_lane, setLane_lane_same]
  · rw [setLane_lane_same, setSlot_lane, setLane_lane_same] at shorter
    simpa [opened] using shorter

/-- An open stack leaves its lane with its record READY. -/
theorem unopen_closed {l : Lane} {o : OpenStack} {s : State} (f : StackRecord → StackRecord)
    (opened : (s.lane l).openStack = some o) :
    Closed l s (makeReady o.slot f (s.setLane l { s.lane l with openStack := none })) := by
  refine ⟨⟨fun m other => ?_, fun m => laneLatched_of_act (by simp) m, by simp, fun agrees => ?_⟩,
    (s.lane l).ejects, (s.lane l).pulseStack, ?_, Nat.le_add_right _ _⟩
  · rw [makeReady_lane, setLane_lane_other _ _ _ _ other]
  · obtain ⟨r, held, -⟩ := agrees.opened opened
    rw [makeReady_of_forming f (by rw [setLane_slot, held])]
    refine .of_update (s := s) (l := l) (Agreed.unopens agrees held
      (LaneUnit.claim_opened_eq_some.mpr ⟨o, opened, rfl⟩)).1 ?_ fun m other => ?_
    · simp [State.readied, LaneUnit.claim]
    · simp only [State.readied, raiseEvent_views, setLog_view_lane]
      exact setLane_lane_other _ _ _ _ other
  · rw [makeReady_lane, setLane_lane_same]

theorem LaneUnit.with_no_openStack {u : LaneUnit} (absent : u.openStack = none) : u = { u with openStack := none } := by
  rw [← absent]

theorem shortClose_closed (l : Lane) (kind : ClosingKind) (s : State) : Closed l s (shortClose l kind s) := by
  unfold shortClose
  split
  · next absent =>
    exact ⟨.refl l s, (s.lane l).ejects, (s.lane l).pulseStack, LaneUnit.with_no_openStack absent, Nat.le_add_right _ _⟩
  · next o opened =>
    split
    · next absent =>
      refine ⟨⟨fun m other => setLane_lane_other _ _ _ _ other, fun m => laneLatched_of_act rfl m, rfl,
        fun agrees => ?_⟩, _, _, setLane_lane_same _ _ _, Nat.le_add_right _ _⟩
      obtain ⟨r, held, -⟩ := agrees.opened opened
      rw [formingRecord_eq_some.mpr held] at absent
      cases absent
    · next r forming =>
      have held := formingRecord_eq_some.mp forming
      split
      · exact unopen_closed _ opened
      · exact closeIntoEjects_closed kind opened held

/-- A lane that closes its stack and goes on to a state without one. -/
theorem LaneUnit.sound_of_closed {u : LaneUnit} {ejects : List Eject} {pulse : Option (SlotIndex × Seq)}
    {state : LaneState} {gap : Nat} (opened : u.openStack.isSome = true)
    (next : state = .held ∧ gap = 0 ∨ state = .changing) (shorter : ejects.length ≤ u.ejects.length + 1) :
    u.Sound { u with openStack := none, ejects := ejects, pulseStack := pulse, state := state, gap := gap } := by
  refine ⟨fun masked latched means => ?_, fun room => ?_⟩
  · obtain ⟨off, stacking, -, -, -, quarantine, latch⟩ := means
    have before : u.state = .stacking := stacking.mpr opened
    have masked' : masked ≠ false := fun out => by simp [off.mpr out] at before
    have unlatched : latched ≠ true := fun on => by rcases latch on with h | h <;> simp [h] at before
    rcases next with ⟨rfl, rfl⟩ | rfl
    · exact ⟨by simpa using masked', by simp, nofun, by simp, nofun, quarantine, (absurd · unlatched)⟩
    · exact ⟨by simpa using masked', by simp, nofun, fun _ => rfl, nofun, quarantine, (absurd · unlatched)⟩
  · obtain ⟨orders, listed⟩ := room
    rw [opened] at listed
    exact ⟨orders, shorter.trans listed⟩

end Sys2Proof.Machine

/-!
PROOFS. Lanes and log in agreement through every operation (R119, R136, R143, R148, R153, R159), and the room of the lanes.
-/

namespace Sys2Proof.Machine

/-! ## Work that keeps a lane sound -/

/-- Work on one lane after which its state still means what it says. -/
structure LaneWork (l : Lane) (s t : State) : Prop extends LaneMove l s t where
  sound : (s.lane l).Sound (t.lane l)

theorem LaneWork.refl (l : Lane) (s : State) : LaneWork l s s := ⟨.refl l s, .refl _⟩

theorem LaneWork.trans {l : Lane} {s t u : State} (st : LaneWork l s t) (tu : LaneWork l t u) : LaneWork l s u :=
  ⟨st.toLaneMove.trans tu.toLaneMove, st.sound.trans tu.sound⟩

theorem LaneMove.lane_work {l : Lane} {s t : State} (move : LaneMove l s t) (lane : t.lane l = s.lane l) :
    LaneWork l s t := ⟨move, by rw [lane]; exact .refl _⟩

theorem Released.work {l : Lane} {s t : State} (released : Released l s t) : LaneWork l s t :=
  ⟨released.toLaneMove, released.sound⟩

theorem setLane_work {l : Lane} {s : State} {u : LaneUnit} (claim : u.claim = (s.lane l).claim)
    (sound : (s.lane l).Sound u) : LaneWork l s (s.setLane l u) :=
  ⟨setLane_move claim, by rw [setLane_lane_same]; exact sound⟩

/-! ## Labels stacked and counted (R116, R124 to R126) -/

theorem updateForming_move (l : Lane) {f : StackRecord → StackRecord} (same : ∀ r, (f r).lane = r.lane ∧ (f r).seq = r.seq)
    (i : SlotIndex) (s : State) : LaneMove l s (updateForming i f s) := by
  unfold updateForming
  split
  · next r held =>
    refine ⟨fun _ _ => rfl, fun m => laneLatched_of_act rfl m, rfl, fun agrees => ?_⟩
    exact Agreed.update agrees held (same r).1 (same r).2
  all_goals exact .refl l s

theorem updateForming_lane (i : SlotIndex) (f : StackRecord → StackRecord) (s : State) (l : Lane) :
    (updateForming i f s).lane l = s.lane l := by
  have lanes : (updateForming i f s).lanes = s.lanes := by simp
  rw [State.lane, lanes, State.lane]

theorem rejectInSpan_work (l : Lane) (s : State) : LaneWork l s (rejectInSpan l s) := by
  unfold rejectInSpan
  split
  · exact .refl l s
  · exact (updateForming_move l (by simp) _ s).lane_work (updateForming_lane _ _ _ _)

theorem afterClose_eq (l : Lane) (nogap final : Bool) (s : State) :
    afterClose l nogap final s = s.setLane l { s.lane l with
      state := if final then .held else .changing
      gap := if final || nogap then 0 else s.profile.changeGap } := by
  unfold afterClose
  cases final <;> rfl

theorem afterClose_next (final : Bool) (gap : Nat) (nogap : Bool) :
    (if final then LaneState.held else .changing) = .held ∧ (if final || nogap then 0 else gap) = 0 ∨
      (if final then LaneState.held else .changing) = .changing := by
  cases final <;> simp

theorem stackLabel_work (r : RepeatRecord) (l : Lane) (s : State) : LaneWork l s (stackLabel r l s).1 := by
  unfold stackLabel
  split
  · exact .refl l s
  · next o opened =>
    split
    · exact .refl l s
    · next q forming =>
      dsimp only
      have held := formingRecord_eq_some.mp forming
      have held' : (s.setLane l { s.lane l with openStack := some { o with stamp := some r.stamp } }).slot o.slot =
          .held .forming q := by rw [setLane_slot, held]
      have stamped : LaneMove l s (updateForming o.slot (fun q => q.countLabel r)
          (s.setLane l { s.lane l with openStack := some { o with stamp := some r.stamp } })) := by
        refine .trans (setLane_move ?_) (updateForming_move l (f := fun q => q.countLabel r) (fun _ => ⟨rfl, rfl⟩) _ _)
        simp [LaneUnit.claim, opened]
      have lane : (updateForming o.slot (fun q => q.countLabel r)
          (s.setLane l { s.lane l with openStack := some { o with stamp := some r.stamp } })).lane l =
            { s.lane l with openStack := some { o with stamp := some r.stamp } } := by
        rw [updateForming_lane, setLane_lane_same]
      have slot : (updateForming o.slot (fun q => q.countLabel r)
          (s.setLane l { s.lane l with openStack := some { o with stamp := some r.stamp } })).slot o.slot =
            .held .forming (q.countLabel r) := by
        rw [updateForming_of_forming _ held', setSlot_slot_same]
      generalize updateForming o.slot (fun q => q.countLabel r)
        (s.setLane l { s.lane l with openStack := some { o with stamp := some r.stamp } }) = t at stamped lane slot
      split
      · rw [afterClose_eq, lane]
        have closed := closeIntoEjects_closed (l := l) (o := { o with stamp := some r.stamp }) (r := q.countLabel r)
          .target (s := t.setLane l { { s.lane l with openStack := some { o with stamp := some r.stamp } } with
            state := if o.final then .held else .changing
            gap := if o.final || o.nogap then 0 else t.profile.changeGap })
          (by rw [setLane_lane_same]) slot
        refine ⟨stamped.trans ((setLane_move (by rw [lane]; rfl)).trans closed.toLaneMove), ?_⟩
        obtain ⟨-, ejects, pulse, closedLane, shorter⟩ := closed
        change (s.lane l).Sound ((closeIntoEjects l _ (q.countLabel r).seq .target _).lane l)
        rw [closedLane]
        rw [setLane_lane_same] at shorter ⊢
        exact LaneUnit.sound_of_closed (by rw [opened]; rfl) (afterClose_next o.final _ o.nogap) shorter
      · refine ⟨stamped, ?_⟩
        rw [lane]
        have same : (s.lane l).openStack.isSome = true := by rw [opened]; rfl
        refine ⟨fun masked latched means => ?_, fun room => ?_⟩
        · obtain ⟨off, stacking, rest⟩ := means
          exact ⟨off, by rw [stacking, same]; simp, rest⟩
        · obtain ⟨orders, listed⟩ := room
          rw [same] at listed
          exact ⟨orders, listed⟩

theorem judge_work (r : RepeatRecord) (l : Lane) (s : State) : LaneWork l s (judge r l s).1 := by
  unfold judge
  split
  · exact rejectInSpan_work l s
  · exact stackLabel_work r l s

/-! ## Openings (R122, R123) -/

/-- Work on a lane that may open a stack, which it does only for a lane without one. -/
structure Gated (l : Lane) (s t : State) : Prop where
  others : ∀ m, m ≠ l → t.lane m = s.lane m
  latched : ∀ m, t.laneLatched m = s.laneLatched m
  prof : t.prof = s.prof
  agrees : ((s.lane l).state = .stacking ↔ (s.lane l).openStack.isSome = true) → s.Agrees → t.Agrees
  sound : (s.lane l).Sound (t.lane l)

theorem LaneWork.gated {l : Lane} {s t : State} (work : LaneWork l s t) : Gated l s t :=
  ⟨work.others, work.latched, work.prof, fun _ => work.agrees, work.sound⟩

theorem Gated.trans {l : Lane} {s t u : State} (st : Gated l s t) (tu : LaneWork l t u) : Gated l s u where
  others m other := (tu.others m other).trans (st.others m other)
  latched m := (tu.latched m).trans (st.latched m)
  prof := tu.prof.trans st.prof
  agrees settled agrees := tu.agrees (st.agrees settled agrees)
  sound := st.sound.trans tu.sound

/-- The lane waits for a stack: BLOCKED, or CHANGING with its gap run out. -/
def LaneUnit.Waits (u : LaneUnit) : Prop := u.state = .blocked ∨ u.state = .changing ∧ u.gap = 0

theorem LaneUnit.Waits.sound {u : LaneUnit} (waits : u.Waits) {state : LaneState}
    (next : state = .idle ∧ u.orders = [] ∨ state = .blocked) : u.Sound { u with state := state } := by
  refine ⟨fun masked latched means => ?_, id⟩
  obtain ⟨off, stacking, idle, gap, fault, quarantine, latch⟩ := means
  have notOff : u.state ≠ .off := by rcases waits with h | ⟨h, -⟩ <;> simp [h]
  have notStacking : u.state ≠ .stacking := by rcases waits with h | ⟨h, -⟩ <;> simp [h]
  have notFault : u.state ≠ .fault := by rcases waits with h | ⟨h, -⟩ <;> simp [h]
  have gap' : u.gap = 0 := by
    rcases waits with h | ⟨-, h⟩
    · by_contra running
      simp [gap running] at h
    · exact h
  have masked' : masked ≠ false := fun out => notOff (off.mpr out)
  have unlatched : latched ≠ true := fun on => (latch on).elim notFault notOff
  have closed : u.openStack.isSome = false := by simpa using mt stacking.mpr notStacking
  rcases next with ⟨rfl, empty⟩ | rfl
  · exact ⟨by simpa using masked', by simp [closed], fun _ => empty, fun running => absurd gap' running, nofun,
      quarantine, (absurd · unlatched)⟩
  · exact ⟨by simpa using masked', by simp [closed], nofun, fun running => absurd gap' running, nofun, quarantine,
      (absurd · unlatched)⟩

theorem LaneUnit.Waits.sound_open {u : LaneUnit} (waits : u.Waits) {o : Order} {rest : List Order}
    (orders : u.orders = o :: rest) (room : u.ejects.length < 4) (stack : OpenStack) (seq : Seq) :
    u.Sound { u with state := .stacking, orders := rest, gap := 0, nextSeq := seq, openStack := some stack } := by
  refine ⟨fun masked latched means => ?_, fun fits => ?_⟩
  · obtain ⟨off, -, -, -, -, quarantine, latch⟩ := means
    have notOff : u.state ≠ .off := by rcases waits with h | ⟨h, -⟩ <;> simp [h]
    have notFault : u.state ≠ .fault := by rcases waits with h | ⟨h, -⟩ <;> simp [h]
    have masked' : masked ≠ false := fun out => notOff (off.mpr out)
    have unlatched : latched ≠ true := fun on => (latch on).elim notFault notOff
    exact ⟨by simpa using masked', by simp, nofun, nofun, nofun, quarantine, (absurd · unlatched)⟩
  · have bound := fits.1
    rw [orders, List.length_cons] at bound
    refine ⟨by dsimp only; omega, ?_⟩
    dsimp only
    simp only [Option.isSome_some, if_true]
    omega

theorem freeSlot_eq_some {s : State} {i : SlotIndex} (found : s.freeSlot = some i) : s.slot i = .free := by
  simpa using List.find?_some found

theorem openStack_eq {l : Lane} {i : SlotIndex} {s : State} (free : s.slot i = .free) (o : Order) (rest : List Order) :
    openStack l i o rest s = (s.setSlot i (.held .forming (openingRecord l o (s.lane l).nextSeq s.mode.isDryKind))).setLane l
      { s.lane l with
        state := .stacking, orders := rest, gap := 0, nextSeq := (s.lane l).nextSeq + 1,
        openStack := some ⟨i, o.nogap, o.final, none⟩ } := by
  unfold openStack openSlot
  rw [free]

theorem openStack_gated {l : Lane} {i : SlotIndex} {s : State} {o : Order} {rest : List Order}
    (waits : (s.lane l).Waits) (free : s.slot i = .free) (orders : (s.lane l).orders = o :: rest)
    (room : (s.lane l).ejects.length < 4) : Gated l s (openStack l i o rest s) := by
  rw [openStack_eq free]
  refine ⟨fun m other => ?_, fun m => laneLatched_of_act rfl m, rfl, fun settled agrees => ?_, ?_⟩
  · rw [setLane_lane_other _ _ _ _ other, setSlot_lane]
  · have closed : (s.lane l).openStack = none := by
      have notStacking : (s.lane l).state ≠ .stacking := by rcases waits with h | ⟨h, -⟩ <;> simp [h]
      simpa using mt settled.mpr notStacking
    have none : (s.lane l).claim.opened = none := by simp [LaneUnit.claim, closed]
    refine .of_update (s := s) (l := l) (Agreed.opens agrees (l := l) free none rfl) ?_ fun m other => ?_
    · rw [setLane_lane_same]
      rfl
    · rw [setLane_lane_other _ _ _ _ other, setSlot_lane]
  · rw [setLane_lane_same]
    exact waits.sound_open orders room _ _

theorem tryOpen_gated {l : Lane} {s : State} (waits : (s.lane l).Waits) : Gated l s (tryOpen l s).1 := by
  have still {state : LaneState} (t : State) (lanes : t.lanes = s.lanes) (log : t.log = s.log) (act : t.act = s.act)
      (prof : t.prof = s.prof) (next : state = .idle ∧ (s.lane l).orders = [] ∨ state = .blocked) :
      Gated l s (t.setLaneState l state) := by
    have lane : t.lane l = s.lane l := by rw [State.lane, lanes, State.lane]
    unfold State.setLaneState
    rw [lane]
    refine LaneWork.gated ⟨.of_lane (u := { s.lane l with state := state }) ?_ rfl log act prof, ?_⟩
    · rw [State.setLane, State.setLane, setLanes_lanes, setLanes_lanes, lanes]
    · rw [setLane_lane_same]
      exact waits.sound next
  unfold tryOpen
  split
  · next empty => exact still s rfl rfl rfl rfl (.inl ⟨rfl, empty⟩)
  · next o rest orders =>
    split
    · exact still (raiseEvent .logFull s) (by simp) (by simp) (by simp) (by simp) (.inr rfl)
    · next i found =>
      split
      · next room => exact openStack_gated waits (freeSlot_eq_some found) orders room
      · exact still s rfl rfl rfl rfl (.inr rfl)

/-! ## Decisions (R104 to R115) -/

theorem LaneUnit.sound_of_gap {u : LaneUnit} (changing : u.state = .changing) (gap : Nat) :
    u.Sound { u with gap := gap } :=
  ⟨fun _ _ ⟨off, stacking, idle, _, fault, quarantine, latch⟩ =>
    ⟨off, stacking, idle, fun _ => changing, fault, quarantine, latch⟩, id⟩

theorem LaneUnit.sound_of_quarantine {u : LaneUnit} {q : Option StackRecord} (same : q.isSome = u.quarantine.isSome) :
    u.Sound { u with quarantine := q } :=
  ⟨fun _ _ ⟨off, stacking, idle, gap, fault, quarantine, latch⟩ =>
    ⟨off, stacking, idle, gap, fun state => ⟨same.trans (fault state).1, (fault state).2⟩, fun some => quarantine (same ▸ some),
      latch⟩, id⟩

theorem gateChecks_gated (r : RepeatRecord) (l : Lane) (s : State) : Gated l s (gateChecks r l s).1 := by
  have same : Gated l s s := (LaneWork.refl l s).gated
  have opened (waits : (s.lane l).Waits) : Gated l s (openAndJudge r l s).1 := by
    have gated := tryOpen_gated waits
    unfold openAndJudge
    split
    · next s' _ tried =>
      rw [tried] at gated
      exact gated
    · next s' tried =>
      rw [tried] at gated
      exact gated.trans (judge_work r l s')
  unfold gateChecks
  split
  · exact same
  · refine (setLane_work ?_ (LaneUnit.sound_of_quarantine ?_)).gated
    · rfl
    · simp
  · exact same
  · exact same
  · next blocked => exact opened (.inl blocked)
  · next changing =>
    split
    · next gap => exact opened (.inr ⟨changing, gap⟩)
    · refine (setLane_work ?_ (LaneUnit.sound_of_gap changing _)).gated
      rfl
  · exact (judge_work r l s).gated

theorem rejectInterval_work (r : RepeatRecord) (l : Lane) (s : State) : LaneWork l s (rejectInterval r l s) := by
  have interval (a b : Pos) : LaneMove l s (takeInterval l a b s) := by
    refine .of_frame l (by simp) (by simp) (fun m => ?_) (by simp)
    unfold takeInterval
    split
    · rfl
    · exact setGate_laneLatched (by rfl) m
  have lane (a b : Pos) : (takeInterval l a b s).lane l = s.lane l := by
    have lanes : (takeInterval l a b s).lanes = s.lanes := by simp
    rw [State.lane, lanes, State.lane]
  unfold rejectInterval
  dsimp only
  exact ((interval _ _).lane_work (lane _ _)).trans (setLane_work rfl (LaneUnit.SameStacks.sound ⟨rfl, rfl, rfl, rfl, rfl, rfl⟩))

theorem dispose_work (r : RepeatRecord) (l : Lane) (d : Disposition) (s : State) : LaneWork l s (dispose r l d s) := by
  have written (t : State) : LaneWork l t ((t.updateRecord r.repeatNo
      (fun r => { r with dispositions := r.dispositions.set l.val d })).countLanes
        (fun m c => if m = l then c.decided d else c)) :=
    (LaneMove.of_frame l (by simp) (by simp) (fun m => laneLatched_of_act (by simp) m) (by simp)).lane_work (by simp)
  cases d with
  | rejected cause => exact (rejectInterval_work r l s).trans (written _)
  | undecided | stacked _ | quarantined => exact written s

theorem decideLane_gated (n : RepeatNo) (l : Lane) (s : State) : Gated l s (decideLane n l s) := by
  unfold decideLane
  split
  · exact (LaneWork.refl l s).gated
  · split
    · exact (gateChecks_gated _ l s).trans (dispose_work _ l _ _)
    · exact (LaneWork.refl l s).gated

/-! ## Closings on request (R131 to R133) -/

theorem closeOpenStack_work {l : Lane} {o : OpenStack} {s : State} (opened : (s.lane l).openStack = some o) :
    LaneWork l s (closeOpenStack l o s) := by
  have closed := shortClose_closed l .shortClose s
  unfold closeOpenStack
  rw [afterClose_eq]
  refine ⟨closed.toLaneMove.trans (setLane_move rfl), ?_⟩
  obtain ⟨-, ejects, pulse, lane, shorter⟩ := closed
  have some : (s.lane l).openStack.isSome = true := by rw [opened]; rfl
  rw [some] at shorter
  rw [setLane_lane_same, lane]
  exact LaneUnit.sound_of_closed some (afterClose_next o.final _ o.nogap) shorter

theorem cancelOpenStack_work {l : Lane} {o : OpenStack} {s : State} (opened : (s.lane l).openStack = some o) :
    LaneWork l s (cancelOpenStack l s) := by
  have closed := shortClose_closed l .shortCancel s
  unfold cancelOpenStack
  dsimp only
  refine ⟨closed.toLaneMove.trans (setLane_move rfl), ?_⟩
  obtain ⟨-, ejects, pulse, lane, shorter⟩ := closed
  have some : (s.lane l).openStack.isSome = true := by rw [opened]; rfl
  rw [some] at shorter
  rw [setLane_lane_same, lane]
  exact LaneUnit.sound_of_closed some (.inr rfl) shorter

/-! ## Eject lists emptied (R137, R143, R145) -/

theorem makeReady_setLane (i : SlotIndex) (f : StackRecord → StackRecord) (s : State) (l : Lane) (u : LaneUnit) :
    makeReady i f (s.setLane l u) = (makeReady i f s).setLane l u := by
  unfold makeReady
  rw [setLane_slot]
  split <;> rfl

theorem setLane_setLane (s : State) (l : Lane) (u v : LaneUnit) : (s.setLane l u).setLane l v = s.setLane l v := by
  unfold State.setLane
  simp [State.setLanes]

/-- A list is emptied head by head. -/
theorem releaseEjects_cons {l : Lane} {s : State} {e : Eject} {rest : List Eject} (f : StackRecord → StackRecord)
    (ejects : (s.lane l).ejects = e :: rest) :
    releaseEjects l f s = releaseEjects l f (makeReady e.slot f (s.setLane l { s.lane l with ejects := rest })) := by
  unfold releaseEjects
  rw [ejects, List.foldl_cons, makeReady_setLane, makeReady_setLane, setLane_lane_same, setLane_setLane]

theorem releaseEjects_nil {l : Lane} {s : State} (f : StackRecord → StackRecord) (ejects : (s.lane l).ejects = []) :
    releaseEjects l f s = s.setLane l { s.lane l with ejects := [] } := by
  unfold releaseEjects
  rw [ejects]
  rfl

/-- The head taken out of a list and made READY. -/
theorem headOut_move {l : Lane} {s : State} {e : Eject} {rest : List Eject} (f : StackRecord → StackRecord)
    (ejects : (s.lane l).ejects = e :: rest) :
    LaneMove l s (makeReady e.slot f (s.setLane l { s.lane l with ejects := rest })) := by
  refine ⟨fun m other => ?_, fun m => laneLatched_of_act (by simp) m, by simp, fun agrees => ?_⟩
  · rw [makeReady_lane, setLane_lane_other _ _ _ _ other]
  · obtain ⟨r, held, -⟩ := agrees.listed (ejects ▸ List.mem_cons_self : e ∈ (s.lane l).ejects)
    rw [makeReady_of_closed f (by rw [setLane_slot, held])]
    have head : (s.lane l).claim.ejects = (e.slot, e.seq) :: rest.map (fun e => (e.slot, e.seq)) := by
      simp [LaneUnit.claim, ejects]
    refine .of_update (s := s) (l := l) (Agreed.releases agrees head) ?_ fun m other => ?_
    · simp [State.readied, LaneUnit.claim]
    · simp only [State.readied, raiseEvent_views, setLog_view_lane]
      exact setLane_lane_other _ _ _ _ other

theorem releaseEjects_move (l : Lane) (f : StackRecord → StackRecord) (s : State) :
    LaneMove l s (releaseEjects l f s) ∧ (releaseEjects l f s).lane l = { s.lane l with ejects := [] } := by
  generalize listed : (s.lane l).ejects = ejects
  induction ejects generalizing s with
  | nil =>
    rw [releaseEjects_nil f listed]
    exact ⟨setLane_move (by simp [LaneUnit.claim, listed]), setLane_lane_same _ _ _⟩
  | cons e rest ih =>
    rw [releaseEjects_cons f listed]
    have lane : (makeReady e.slot f (s.setLane l { s.lane l with ejects := rest })).lane l =
        { s.lane l with ejects := rest } := by rw [makeReady_lane, setLane_lane_same]
    obtain ⟨move, emptied⟩ := ih (makeReady e.slot f (s.setLane l { s.lane l with ejects := rest })) (by rw [lane])
    rw [lane] at emptied
    exact ⟨(headOut_move f listed).trans move, emptied⟩

/-! ## RESET_TRACK on a lane (R145) -/

theorem abortOpenStack_closed (l : Lane) (s : State) :
    LaneMove l s (abortOpenStack l s) ∧ (abortOpenStack l s).lane l = { s.lane l with openStack := none } := by
  unfold abortOpenStack
  split
  · next absent => exact ⟨.refl l s, LaneUnit.with_no_openStack absent⟩
  · next o opened =>
    exact ⟨(unopen_closed StackRecord.aborted opened).toLaneMove, by rw [makeReady_lane, setLane_lane_same]⟩

theorem LaneUnit.sound_of_reset (u : LaneUnit) : u.Sound { u with
    ejects := [], openStack := none, state := { u with ejects := [], openStack := none }.stateAfterReset, gap := 0
    rejectEnd := none } := by
  refine ⟨fun masked latched means => ?_, fun room => ⟨room.1, Nat.zero_le 4⟩⟩
  obtain ⟨off, -, -, -, fault, quarantine, latch⟩ := means
  have idle : u.idleState = .idle → u.orders = [] := by
    unfold LaneUnit.idleState
    split
    · next empty => exact fun _ => by simpa using empty
    · exact nofun
  have plain : u.idleState ≠ .off ∧ u.idleState ≠ .stacking ∧ u.idleState ≠ .fault := by
    unfold LaneUnit.idleState
    split <;> simp
  unfold LaneUnit.stateAfterReset
  dsimp only
  have other (u' : LaneUnit) (same : u'.idleState = u.idleState) : u'.idleState = u.idleState := same
  cases state : u.state with
  | off => exact ⟨by simpa [state] using off, by simp, nofun, nofun, nofun, quarantine, fun _ => .inr rfl⟩
  | held =>
    rw [state] at off latch
    exact ⟨off, by simp, nofun, nofun, nofun, quarantine, fun on => absurd (latch on) (by simp)⟩
  | fault =>
    rw [state] at off
    exact ⟨off, by simp, nofun, nofun, fun _ => ⟨(fault state).1, rfl⟩, quarantine, fun _ => .inl rfl⟩
  | idle | blocked | stacking | changing =>
    rw [state] at off latch
    change LaneUnit.Means masked latched { u with
      ejects := [], openStack := none, state := u.idleState, gap := 0, rejectEnd := none }
    refine ⟨?_, by simp [plain], idle, nofun, fun h => absurd h plain.2.2, quarantine,
      fun on => absurd (latch on) (by simp)⟩
    simpa [plain] using off

theorem resetLane_work (l : Lane) (s : State) : LaneWork l s (resetLane l s) := by
  obtain ⟨released, lane⟩ := releaseEjects_move l StackRecord.withNotEjected s
  obtain ⟨aborted, lane'⟩ := abortOpenStack_closed l (releaseEjects l StackRecord.withNotEjected s)
  unfold resetLane
  dsimp only
  refine ⟨released.trans (aborted.trans (setLane_move rfl)), ?_⟩
  rw [setLane_lane_same, lane', lane]
  exact (s.lane l).sound_of_reset

end Sys2Proof.Machine

/-!
PROOFS. Faulted lanes, mask changes and every other operation: what stands of lanes and log, and of the lanes' room.
-/

namespace Sys2Proof.Machine

/-! ## The invariants -/

/-- The invariant of lanes and log. -/
def Agreement (s : State) : Prop := LaneStatesMean s ∧ s.Agrees

/-- The orders and stacks of every lane within their bounds. -/
def Fits (s : State) : Prop := ∀ l, (s.lane l).Room

/-- Both invariants go over from the one state to the other. -/
structure Preserves (s t : State) : Prop where
  agreement : Agreement s → Agreement t
  fits : Fits s → Fits t

theorem Preserves.refl (s : State) : Preserves s s := ⟨id, id⟩

theorem Preserves.trans {s t u : State} (st : Preserves s t) (tu : Preserves t u) : Preserves s u :=
  ⟨tu.agreement ∘ st.agreement, tu.fits ∘ st.fits⟩

/-- Work on one lane that keeps it sound. -/
theorem Gated.preserves {l : Lane} {s t : State} (work : Gated l s t) : Preserves s t := by
  have profile : t.profile = s.profile := congrArg ProfileUnit.active work.prof
  refine ⟨fun ⟨mean, agrees⟩ => ⟨fun m => ?_, work.agrees (mean l).2.1 agrees⟩, fun fits m => ?_⟩
  · rw [work.latched, profile]
    by_cases mine : m = l
    · rw [mine]
      exact work.sound.means _ _ (mean l)
    · rw [work.others m mine]
      exact mean m
  · by_cases mine : m = l
    · rw [mine]
      exact work.sound.room (fits l)
    · rw [work.others m mine]
      exact fits m

/-- Work that moves no stack. -/
theorem Preserves.of_still {s t : State} (lanes : ∀ l, (s.lane l).SameStacks (t.lane l)) (log : t.log = s.log)
    (latched : ∀ l, t.laneLatched l = s.laneLatched l) (active : t.prof.active = s.prof.active) : Preserves s t := by
  have profile : t.profile = s.profile := active
  refine ⟨fun ⟨mean, agrees⟩ => ⟨fun l => ?_, agrees.of_claims log fun l => (lanes l).claim⟩,
    fun fits l => (lanes l).sound.room (fits l)⟩
  rw [latched, profile]
  exact (lanes l).sound.means _ _ (mean l)

theorem LaneUnit.SameStacks.refl (u : LaneUnit) : u.SameStacks u := ⟨rfl, rfl, rfl, rfl, rfl, rfl⟩

theorem Preserves.of_frame {s t : State} (lanes : t.lanes = s.lanes) (log : t.log = s.log)
    (latched : ∀ l, t.laneLatched l = s.laneLatched l) (active : t.prof.active = s.prof.active) : Preserves s t :=
  .of_still (fun l => by rw [State.lane, State.lane, lanes]; exact .refl _) log latched active

/-! ## Faulted lanes (R136 to R140) -/

theorem releaseSlot_lane (i : SlotIndex) (s : State) (l : Lane) : (releaseSlot i s).lane l = s.lane l := by
  have lanes : (releaseSlot i s).lanes = s.lanes := by simp
  rw [State.lane, lanes, State.lane]

/-- The open stack becomes the quarantine record, or an empty one starts. -/
theorem openStackToQuarantine_move (l : Lane) (s : State) :
    LaneMove l s (openStackToQuarantine l s) ∧
    ∃ q seq, (openStackToQuarantine l s).lane l =
      { s.lane l with openStack := none, quarantine := some q, nextSeq := seq } := by
  unfold openStackToQuarantine
  split
  · next absent =>
    refine ⟨setLane_move (by rfl), emptyQuarantine l (s.lane l).nextSeq s.mode.isDryKind, (s.lane l).nextSeq + 1, ?_⟩
    rw [startEmptyQuarantine, setLane_lane_same, ← absent]
  · next o opened =>
    split
    · next absent =>
      refine ⟨⟨fun m other => ?_, fun m => laneLatched_of_act rfl m, rfl, fun agrees => ?_⟩,
        emptyQuarantine l (s.lane l).nextSeq s.mode.isDryKind, (s.lane l).nextSeq + 1, ?_⟩
      · rw [startEmptyQuarantine, setLane_lane_other _ _ _ _ other, setLane_lane_other _ _ _ _ other]
      · obtain ⟨r, held, -⟩ := agrees.opened opened
        rw [formingRecord_eq_some.mpr held] at absent
        cases absent
      · rw [startEmptyQuarantine, setLane_lane_same, setLane_lane_same]
        rfl
    · next r forming =>
      have held := formingRecord_eq_some.mp forming
      refine ⟨⟨fun m other => ?_, fun m => laneLatched_of_act (by simp) m, by simp, fun agrees => ?_⟩,
        r.quarantined, (s.lane l).nextSeq, ?_⟩
      · rw [releaseSlot_lane, setLane_lane_other _ _ _ _ other]
      · refine .of_update (s := s) (l := l) (c := ⟨none, (s.lane l).claim.ejects⟩) ?_ ?_ fun m other => ?_
        · unfold releaseSlot
          rw [setLane_slot, held]
          exact (Agreed.unopens (r' := r) agrees held (LaneUnit.claim_opened_eq_some.mpr ⟨o, opened, rfl⟩)).2
        · rw [releaseSlot_lane, setLane_lane_same]
          rfl
        · rw [releaseSlot_lane, setLane_lane_other _ _ _ _ other]
      · rw [releaseSlot_lane, setLane_lane_same]

/-- A lane in FAULT or OFF only reports. -/
theorem faultLane_of_off {l : Lane} {s : State} (off : (s.lane l).state = .off ∨ (s.lane l).state = .fault) :
    faultLane l s = raiseEvent .laneFault s := by
  have lane : (raiseEvent .laneFault s).lane l = s.lane l := by simp
  unfold faultLane
  dsimp only
  rw [lane]
  rcases off with state | state <;> rw [state]

/-- Any other lane enters FAULT. -/
theorem faultLane_of_on {l : Lane} {s : State} (on : ¬((s.lane l).state = .off ∨ (s.lane l).state = .fault)) :
    faultLane l s = enterFault l ((raiseEvent .laneFault s).setLane l { s.lane l with gap := 0 }) := by
  have lane : (raiseEvent .laneFault s).lane l = s.lane l := by simp
  unfold faultLane
  dsimp only
  rw [lane]
  cases state : (s.lane l).state with
  | off | fault => exact absurd (by simp [state]) on
  | idle | held | blocked | stacking | changing => rfl

theorem raiseEvent_move (l : Lane) (e : Event) (s : State) : LaneMove l s (raiseEvent e s) :=
  .of_frame l (by simp) (by simp) (fun m => laneLatched_of_act (by simp) m) (by simp)

/-- The lane as a fault leaves it (R136, R137). -/
theorem faultLane_move (l : Lane) (s : State) :
    LaneMove l s (faultLane l s) ∧
    ((s.lane l).state = .off ∨ (s.lane l).state = .fault → (faultLane l s).lane l = s.lane l) ∧
    (¬((s.lane l).state = .off ∨ (s.lane l).state = .fault) → ∃ q seq, (faultLane l s).lane l =
      { s.lane l with
        state := .fault, gap := 0, openStack := none, ejects := [], quarantine := some q, nextSeq := seq }) := by
  have lane : (raiseEvent .laneFault s).lane l = s.lane l := by simp
  by_cases off : (s.lane l).state = .off ∨ (s.lane l).state = .fault
  · rw [faultLane_of_off off]
    exact ⟨raiseEvent_move l _ s, fun _ => lane, (absurd off ·)⟩
  · rw [faultLane_of_on off]
    obtain ⟨moved, q, seq, lane'⟩ :=
      openStackToQuarantine_move l ((raiseEvent .laneFault s).setLane l { s.lane l with gap := 0 })
    obtain ⟨released, emptied⟩ := releaseEjects_move l StackRecord.withEjectFault
      (openStackToQuarantine l ((raiseEvent .laneFault s).setLane l { s.lane l with gap := 0 }))
    refine ⟨(raiseEvent_move l _ s).trans ((setLane_move (by rw [lane]; rfl)).trans
      (moved.trans (released.trans (setLane_move (by rfl))))), (absurd · off), fun _ => ⟨q, seq, ?_⟩⟩
    rw [enterFault, State.setLaneState, setLane_lane_same, emptied, lane', setLane_lane_same]

theorem LaneUnit.Means.faulted {u : LaneUnit} {masked latched : Bool} (means : u.Means masked latched)
    (on : ¬(u.state = .off ∨ u.state = .fault)) (q : StackRecord) (seq : Seq) :
    LaneUnit.Means masked true { u with
      state := .fault, gap := 0, openStack := none, ejects := [], quarantine := some q, nextSeq := seq } := by
  have masked' : masked ≠ false := fun out => on (.inl (means.1.mpr out))
  exact ⟨by simpa using masked', by simp, nofun, nofun, fun _ => ⟨rfl, rfl⟩, fun _ => rfl, fun _ => .inl rfl⟩

theorem LaneUnit.Means.latch {u : LaneUnit} {masked latched : Bool} (means : u.Means masked latched)
    (off : u.state = .off ∨ u.state = .fault) : u.Means masked true :=
  have ⟨h₁, h₂, h₃, h₄, h₅, _, _⟩ := means
  ⟨h₁, h₂, h₃, h₄, h₅, fun _ => rfl, fun _ => off.symm⟩

/-- A latch set on an output of a lane, and the lane told (R136). -/
theorem faultLane_preserves {l : Lane} {s u : State} (lanes : ∀ m, (s.lane m).SameStacks (u.lane m))
    (agreed : s.Agrees → u.Agrees) (latched : ∀ m, u.laneLatched m = if m = l then true else s.laneLatched m)
    (prof : u.prof = s.prof) : Preserves s (faultLane l u) := by
  obtain ⟨move, off, on⟩ := faultLane_move l u
  have profile : (faultLane l u).profile = s.profile := congrArg ProfileUnit.active (move.prof.trans prof)
  refine ⟨fun ⟨mean, agrees⟩ => ⟨fun m => ?_, move.agrees (agreed agrees)⟩, fun fits m => ?_⟩
  · have before := (lanes m).sound.means _ _ (mean m)
    rw [move.latched, profile, latched]
    by_cases mine : m = l
    · subst mine
      rw [if_pos rfl]
      by_cases state : (u.lane m).state = .off ∨ (u.lane m).state = .fault
      · rw [off state]
        exact before.latch state
      · obtain ⟨q, seq, lane⟩ := on state
        rw [lane]
        exact before.faulted state q seq
    · rw [if_neg mine, move.others m mine]
      exact before
  · have before := (lanes m).sound.room (fits m)
    by_cases mine : m = l
    · subst mine
      by_cases state : (u.lane m).state = .off ∨ (u.lane m).state = .fault
      · rw [off state]
        exact before
      · obtain ⟨q, seq, lane⟩ := on state
        rw [lane]
        exact ⟨before.1, Nat.zero_le 4⟩
    · rw [move.others m mine]
      exact before

theorem laneLatched_setGate {s : State} {l : Lane} {g : Gate} (latch : g.latch.isSome = true) (m : Lane) :
    (s.setGate l g).laneLatched m = if m = l then true else s.laneLatched m := by
  unfold State.laneLatched
  rw [setGate_pusher, setGate_gate]
  split
  · rw [latch, Bool.true_or]
  · rfl

theorem laneLatched_setPusher {s : State} {l : Lane} {p : Pusher} (latch : p.latch.isSome = true) (m : Lane) :
    (s.setPusher l p).laneLatched m = if m = l then true else s.laneLatched m := by
  unfold State.laneLatched
  rw [setPusher_gate, setPusher_pusher]
  split
  · rw [latch, Bool.or_true]
  · rfl

theorem latchGate_preserves (l : Lane) (kind : Latch) (s : State) : Preserves s (latchGate l kind s) :=
  faultLane_preserves (s := s) (fun _ => .refl _) (fun agrees => agrees) (laneLatched_setGate rfl) rfl

/-- The pulse stack is spoilt in its READY slot, and forgotten (R140). -/
theorem spoilPulseStack_still (l : Lane) (s : State) :
    (∀ m, (s.lane m).SameStacks ((spoilPulseStack l s).lane m)) ∧ (s.Agrees → (spoilPulseStack l s).Agrees) := by
  unfold spoilPulseStack
  split
  · exact ⟨fun _ => .refl _, id⟩
  · next i seq _ =>
    have flagged : (flagReadyEjectFault i l seq s).lanes = s.lanes ∧
        (s.Agrees → (flagReadyEjectFault i l seq s).Agrees) := by
      unfold flagReadyEjectFault
      split
      · next r held =>
        split
        · exact ⟨rfl, fun agrees => Agreed.update agrees held rfl rfl⟩
        · exact ⟨rfl, id⟩
      all_goals exact ⟨rfl, id⟩
    have lane (m : Lane) : (flagReadyEjectFault i l seq s).lane m = s.lane m := by
      rw [State.lane, flagged.1, State.lane]
    have same (m : Lane) : (s.lane m).SameStacks (((flagReadyEjectFault i l seq s).setLane l
        { s.lane l with pulseStack := none }).lane m) := by
      rw [setLane_lane]
      split
      · next mine =>
        rw [mine]
        exact ⟨rfl, rfl, rfl, rfl, rfl, rfl⟩
      · rw [lane]
        exact .refl _
    refine ⟨same, fun agrees => (flagged.2 agrees).of_claims rfl fun m => ?_⟩
    rw [(same m).claim, lane]

theorem latchPusher_preserves (l : Lane) (kind : Latch) (s : State) : Preserves s (latchPusher l kind s) := by
  have spoiled : (∀ m, (s.lane m).SameStacks ((if (s.pusher l).drive.isPulse then spoilPulseStack l s else s).lane m)) ∧
      (s.Agrees → (if (s.pusher l).drive.isPulse then spoilPulseStack l s else s).Agrees) ∧
      (if (s.pusher l).drive.isPulse then spoilPulseStack l s else s).act = s.act ∧
      (if (s.pusher l).drive.isPulse then spoilPulseStack l s else s).prof = s.prof := by
    split
    · exact ⟨(spoilPulseStack_still l s).1, (spoilPulseStack_still l s).2, by simp, by simp⟩
    · exact ⟨fun _ => .refl _, id, rfl, rfl⟩
  unfold latchPusher
  dsimp only
  generalize (if (s.pusher l).drive.isPulse then spoilPulseStack l s else s) = u at spoiled
  obtain ⟨lanes, agreed, act, prof⟩ := spoiled
  refine faultLane_preserves lanes agreed (fun m => ?_) prof
  rw [laneLatched_setPusher (by rfl), laneLatched_of_act act]

/-! ## The other requests on a lane -/

theorem queueOrder_preserves {s : State} {l : Lane} (o : Order) (room : (s.lane l).orders.length < 8) :
    Preserves s (s.setLane l ((s.lane l).withOrder o)) := by
  have means (masked latched : Bool) (means : (s.lane l).Means masked latched) :
      ((s.lane l).withOrder o).Means masked latched := by
    obtain ⟨off, stacking, idle, gap, fault, quarantine, latch⟩ := means
    unfold LaneUnit.withOrder
    by_cases state : (s.lane l).state = .idle
    · rw [state] at off stacking latch gap
      rw [if_pos state]
      exact ⟨by simpa using off, by simpa using stacking, nofun, fun running => absurd (gap running) (by simp), nofun,
        quarantine, fun on => absurd (latch on) (by simp)⟩
    · rw [if_neg state]
      exact ⟨off, stacking, (absurd · state), gap, fault, quarantine, latch⟩
  have move : LaneMove l s (s.setLane l ((s.lane l).withOrder o)) := setLane_move (by rfl)
  refine ⟨fun ⟨mean, agrees⟩ => ⟨fun m => ?_, move.agrees agrees⟩, fun fits m => ?_⟩
  · rw [move.latched, (setLane_views _ _ _).2.2.1, setLane_lane]
    split
    · next mine =>
      rw [mine]
      exact means _ _ (mean l)
    · exact mean m
  · rw [setLane_lane]
    split
    · refine ⟨?_, (fits l).2⟩
      rw [LaneUnit.withOrder]
      simp only [List.length_append, List.length_singleton]
      exact room
    · exact fits m

theorem unqueue_work (s : State) (l : Lane) (p : Order → Bool) :
    LaneWork l s (s.setLane l { s.lane l with orders := removeFirst p (s.lane l).orders }) := by
  refine setLane_work (by rfl) ⟨fun masked latched means => ?_, fun room => ⟨?_, room.2⟩⟩
  · obtain ⟨off, stacking, idle, rest⟩ := means
    refine ⟨off, stacking, fun state => ?_, rest⟩
    dsimp only
    rw [idle state]
    rfl
  · dsimp only
    rw [removeFirst_eq_eraseP]
    exact List.eraseP_sublist.length_le.trans room.1

theorem resume_work {s : State} {l : Lane} (held : (s.lane l).state = .held) :
    LaneWork l s (s.setLaneState l (s.lane l).idleState) := by
  refine setLane_work (by rfl) ⟨fun masked latched means => ?_, fun room => room⟩
  obtain ⟨off, stacking, idle, gap, fault, quarantine, latch⟩ := means
  rw [held] at off stacking latch gap
  have plain : (s.lane l).idleState ≠ .off ∧ (s.lane l).idleState ≠ .stacking ∧ (s.lane l).idleState ≠ .fault := by
    unfold LaneUnit.idleState
    split <;> simp
  refine ⟨by simpa [plain] using off, by simpa [plain] using stacking, ?_, fun running => absurd (gap running) (by simp),
    fun h => absurd h plain.2.2, quarantine, fun on => absurd (latch on) (by simp)⟩
  unfold LaneUnit.idleState
  split
  · next empty => exact fun _ => by simpa using empty
  · exact nofun

/-- LANE_CLEAR: a latched lane's record becomes READY, its latches go, and the lane is HELD (R141). -/
theorem clearLane_preserves {s : State} {l : Lane} {i : SlotIndex} (fault : (s.lane l).state = .fault)
    (free : s.slot i = .free) : Preserves s (clearLane l i s) := by
  have requested (t : State) (m : Lane) : (requestPusherPulse l t).laneLatched m = t.laneLatched m := by
    unfold requestPusherPulse startPusherPulse
    split
    · exact setPusher_laneLatched (by rfl) m
    · exact setPusher_laneLatched (by rfl) m
    · exact setPusher_laneLatched (by rfl) m
    · rfl
  have pulsed (t : State) (m : Lane) : (clearingPulse l t).laneLatched m = t.laneLatched m := by
    unfold clearingPulse
    split
    · rfl
    · exact requested t m
  have cleared (m : Lane) : (clearLatches l s).laneLatched m = if m = l then false else s.laneLatched m := by
    unfold clearLatches State.laneLatched
    rw [setPusher_gate, setPusher_pusher, setGate_gate]
    split
    · have none : (s.pusher l).cleared.latch.isSome = false := by
        unfold Pusher.cleared
        split
        · rfl
        · next unlatched => simpa using unlatched
      rw [none]
      rfl
    · rfl
  have lanes : (clearingPulse l (clearLatches l s)).lanes = s.lanes := by simp
  have log : (clearingPulse l (clearLatches l s)).log = s.log := by simp
  have prof : (clearingPulse l (clearLatches l s)).prof = s.prof := by simp
  have latched (m : Lane) : (clearingPulse l (clearLatches l s)).laneLatched m =
      if m = l then false else s.laneLatched m := by rw [pulsed, cleared]
  unfold clearLane
  dsimp only
  generalize clearingPulse l (clearLatches l s) = c at lanes log prof latched
  have slot : c.slot i = .free := by
    rw [State.slot, log]
    exact free
  unfold fillReadySlot
  rw [slot]
  dsimp only
  generalize (s.quarantineOf l).delivered s.mode.isHalt = q
  have lane (m : Lane) : (joinReadyList i (c.setSlot i (.held .ready q))).lane m = s.lane m := by
    have same : (joinReadyList i (c.setSlot i (.held .ready q))).lanes = s.lanes := by simp [lanes]
    rw [State.lane, same, State.lane]
  rw [lane]
  refine ⟨fun ⟨mean, agrees⟩ => ⟨fun m => ?_, ?_⟩, fun fits m => ?_⟩
  · have latched' : ((joinReadyList i (c.setSlot i (.held .ready q))).setLane l
        { s.lane l with state := .held, quarantine := none }).laneLatched m = if m = l then false else s.laneLatched m := by
      rw [← latched]
      exact laneLatched_of_act (by simp) m
    have profile : ((joinReadyList i (c.setSlot i (.held .ready q))).setLane l
        { s.lane l with state := .held, quarantine := none }).profile = s.profile := by
      refine congrArg ProfileUnit.active ?_
      simp [prof]
    rw [latched', profile, setLane_lane]
    split
    · next mine =>
      rw [mine]
      obtain ⟨off, stacking, -, gap, -, -, -⟩ := mean l
      rw [fault] at off stacking gap
      exact ⟨by simpa using off, by simpa using stacking, nofun, fun running => absurd (gap running) (by simp), nofun,
        nofun, nofun⟩
    · rw [lane]
      exact mean m
  · refine State.Agrees.of_claims (s := joinReadyList i (c.setSlot i (.held .ready q))) ?_ rfl fun m => ?_
    · rw [State.Agrees]
      simp only [lane]
      unfold joinReadyList
      simp only [raiseEvent_frame, setLog_log, State.setSlot, log]
      exact Agreed.fills agrees free
    · rw [setLane_lane, lane]
      split
      · next mine =>
        rw [mine]
        rfl
      · rfl
  · rw [setLane_lane]
    split
    · exact fits l
    · rw [lane]
      exact fits m

theorem freeReadySlot_preserves (i : SlotIndex) (s : State) : Preserves s (freeReadySlot i s) := by
  unfold freeReadySlot
  split
  · next r held =>
    exact ⟨fun ⟨mean, agrees⟩ => ⟨mean, Agreed.frees agrees held⟩, fun fits => fits⟩
  all_goals exact .refl s

end Sys2Proof.Machine

/-!
PROOFS. Mask changes and mark events; the steps keep lanes and log in agreement, and every list within its bound.
-/

namespace Sys2Proof.Machine

/-! ## Lanes that leave and join the mask (R142, R143) -/

/-- A lane's unit after its place in the mask has changed. -/
structure LaneUnit.Remasked (old new latched : Bool) (u v : LaneUnit) : Prop where
  means : u.Means old latched → v.Means new latched
  room : u.Room → v.Room

theorem LaneUnit.Remasked.refl {old new : Bool} (same : old = new) (latched : Bool) (u : LaneUnit) :
    u.Remasked old new latched u := ⟨fun means => same ▸ means, id⟩

theorem leaveMask_remasked (l : Lane) (s : State) :
    LaneMove l s (leaveMask l s) ∧
    (s.lane l).Remasked true false (s.laneLatched l) ((leaveMask l s).lane l) := by
  have off (v : LaneUnit) (state : v.state = .off) (closed : v.openStack = none) (gap : v.gap = 0)
      (quarantine : v.quarantine = (s.lane l).quarantine) (means : (s.lane l).Means true (s.laneLatched l)) :
      v.Means false (s.laneLatched l) := by
    obtain ⟨-, -, -, -, -, latch, -⟩ := means
    rw [LaneUnit.Means, state, closed, quarantine]
    exact ⟨by simp, by simp, nofun, fun running => absurd gap running, nofun, latch, fun _ => .inr rfl⟩
  unfold leaveMask
  split
  · next state =>
    obtain ⟨move, ejects, pulse, lane, shorter⟩ := shortClose_closed l .shortLaneRemoved s
    refine ⟨move.trans (setLane_move (by rfl)), ?_⟩
    rw [State.setLaneState, setLane_lane_same, lane]
    refine ⟨fun means => off _ rfl rfl ?_ rfl means, fun room => ⟨room.1, ?_⟩⟩
    · by_contra running
      simp [means.2.2.2.1 running] at state
    · exact shorter.trans room.2
  all_goals
    next state =>
    refine ⟨setLane_move (by rfl), ?_⟩
    rw [setLane_lane_same]
    refine ⟨fun means => off _ rfl ?_ rfl rfl means, fun room => room⟩
    have closed := mt means.2.1.mpr (by simp [state])
    simpa using closed

theorem joinMask_remasked (l : Lane) (s : State) :
    LaneMove l s (joinMask l s) ∧
    (s.lane l).Remasked false true (s.laneLatched l) ((joinMask l s).lane l) := by
  unfold joinMask
  split
  · next latched =>
    have started : LaneMove l s (if (s.lane l).quarantine.isSome then s else startEmptyQuarantine l s) ∧
        ∃ q seq, (if (s.lane l).quarantine.isSome then s else startEmptyQuarantine l s).lane l =
          { s.lane l with quarantine := some q, nextSeq := seq } := by
      split
      · next some =>
        obtain ⟨q, quarantine⟩ := Option.isSome_iff_exists.mp some
        exact ⟨.refl l s, q, (s.lane l).nextSeq, by rw [← quarantine]⟩
      · exact ⟨setLane_move (by rfl), emptyQuarantine l (s.lane l).nextSeq s.mode.isDryKind, (s.lane l).nextSeq + 1,
          setLane_lane_same _ _ _⟩
    dsimp only
    generalize (if (s.lane l).quarantine.isSome then s else startEmptyQuarantine l s) = t at started
    obtain ⟨move, q, seq, lane⟩ := started
    obtain ⟨released, emptied⟩ := releaseEjects_move l StackRecord.withEjectFault t
    refine ⟨move.trans (released.trans (setLane_move (by rfl))), ?_⟩
    rw [State.setLaneState, setLane_lane_same, emptied, lane]
    refine ⟨fun ⟨off, stacking, _, gap, _, _, _⟩ => ?_, fun room => ⟨room.1, ?_⟩⟩
    · have state : (s.lane l).state = .off := off.mpr rfl
      rw [state] at stacking gap
      exact ⟨by simp, by simpa using stacking, nofun, fun running => absurd (gap running) (by simp), fun _ => ⟨rfl, rfl⟩,
        fun _ => latched, fun _ => .inl rfl⟩
    · exact (Nat.add_le_add_right (Nat.zero_le _) _).trans room.2
  · next unlatched =>
    refine ⟨setLane_move (by rfl), ?_⟩
    rw [State.setLaneState, setLane_lane_same]
    refine ⟨fun ⟨off, stacking, _, gap, _, quarantine, _⟩ => ?_, fun room => room⟩
    have state : (s.lane l).state = .off := off.mpr rfl
    rw [state] at stacking gap
    have plain : (s.lane l).idleState ≠ .off ∧ (s.lane l).idleState ≠ .stacking ∧ (s.lane l).idleState ≠ .fault := by
      unfold LaneUnit.idleState
      split <;> simp
    refine ⟨by simp [plain], by simpa [plain] using stacking, ?_, fun running => absurd (gap running) (by simp),
      fun h => absurd h plain.2.2, quarantine, (absurd · unlatched)⟩
    unfold LaneUnit.idleState
    split
    · next empty => exact fun _ => by simpa using empty
    · exact nofun

theorem changeMask_remasked (old new : LaneSet) (l : Lane) (s : State) :
    LaneMove l s (changeMask old new l s) ∧
    (s.lane l).Remasked (LaneSet.has old l) (LaneSet.has new l) (s.laneLatched l)
      ((changeMask old new l s).lane l) := by
  unfold changeMask
  split
  · next was is =>
    rw [was, is]
    exact leaveMask_remasked l s
  · next was is =>
    rw [was, is]
    exact joinMask_remasked l s
  · next was is => exact ⟨.refl l s, .refl (was.trans is.symm) _ _⟩
  · next was is => exact ⟨.refl l s, .refl (was.trans is.symm) _ _⟩

/-- Some lanes have changed their place in the mask, and no other lane has moved. -/
structure Remasking (old new : LaneSet) (ls : List Lane) (s t : State) : Prop where
  others : ∀ m, m ∉ ls → t.lane m = s.lane m
  changed : ∀ m ∈ ls, (s.lane m).Remasked (LaneSet.has old m) (LaneSet.has new m) (s.laneLatched m) (t.lane m)
  latched : ∀ m, t.laneLatched m = s.laneLatched m
  prof : t.prof = s.prof
  agrees : s.Agrees → t.Agrees

theorem Remasking.append {old new : LaneSet} {ls ls' : List Lane} {s t u : State} (st : Remasking old new ls s t)
    (tu : Remasking old new ls' t u) (apart : List.Disjoint ls ls') : Remasking old new (ls ++ ls') s u where
  others m absent := by
    rw [List.mem_append, not_or] at absent
    rw [tu.others m absent.2, st.others m absent.1]
  changed m mem := by
    rcases List.mem_append.mp mem with first | second
    · rw [tu.others m (apart first)]
      exact st.changed m first
    · have changed := tu.changed m second
      rwa [st.latched, st.others m (fun first => apart first second)] at changed
  latched m := (tu.latched m).trans (st.latched m)
  prof := tu.prof.trans st.prof
  agrees := tu.agrees ∘ st.agrees

theorem foldl_remasking (old new : LaneSet) {ls : List Lane} (nodup : ls.Nodup) (s : State) :
    Remasking old new ls s (ls.foldl (fun s l => changeMask old new l s) s) := by
  induction ls generalizing s with
  | nil => exact ⟨fun _ _ => rfl, nofun, fun _ => rfl, rfl, id⟩
  | cons l ls ih =>
    obtain ⟨fresh, nodup⟩ := List.nodup_cons.mp nodup
    obtain ⟨⟨others, latched, prof, agrees⟩, remasked⟩ := changeMask_remasked old new l s
    have first : Remasking old new [l] s (changeMask old new l s) :=
      ⟨fun m absent => others m (by simpa using absent), fun m mem => List.mem_singleton.mp mem ▸ remasked, latched,
        prof, agrees⟩
    exact first.append (ih nodup (changeMask old new l s)) (by simpa using fresh)

theorem changeMasks_remasking (old new : LaneSet) (s : State) :
    ∃ ls : List Lane, (∀ l, l ∈ ls) ∧ Remasking old new ls s (changeMasks old new s) := by
  unfold changeMasks
  dsimp only
  have quiet : (allLanes.filter (fun l => !s.contends old new l)).Nodup := allLanes_nodup.filter _
  have loud : (allLanes.filter (fun l => s.contends old new l)).Nodup := allLanes_nodup.filter _
  have first := foldl_remasking old new quiet s
  generalize (allLanes.filter (fun l => !s.contends old new l)).foldl (fun s l => changeMask old new l s) s = t at first
  have perm := drawOrder_perm (fun l : Lane => l.val) (allLanes.filter (fun l => s.contends old new l)) t
  have frame := drawOrder_frame (fun l : Lane => l.val) (allLanes.filter (fun l => s.contends old new l)) t
  obtain ⟨-, -, -, -, lanes, log, act, prof, -⟩ := frame
  generalize drawOrder (fun l : Lane => l.val) (allLanes.filter (fun l => s.contends old new l)) t = drawn
    at perm lanes log act prof
  have lane (m : Lane) : drawn.2.lane m = t.lane m := by rw [State.lane, lanes, State.lane]
  have between : Remasking old new [] t drawn.2 :=
    ⟨fun m _ => lane m, nofun, fun m => laneLatched_of_act act m, prof,
      fun agrees => agrees.of_claims log fun m => by rw [lane]⟩
  have second := foldl_remasking old new (perm.nodup_iff.mpr loud) drawn.2
  refine ⟨_, fun l => ?_, first.append (between.append second (List.disjoint_nil_left _)) ?_⟩
  · rw [List.nil_append, List.mem_append, perm.mem_iff, List.mem_filter, List.mem_filter]
    cases s.contends old new l <;> simp [mem_allLanes]
  · intro l low high
    rw [List.nil_append, perm.mem_iff] at high
    have := (List.mem_filter.mp low).2
    simp [(List.mem_filter.mp high).2] at this

/-- A commit, whatever its mask (R142, R143). -/
theorem applyCommit_preserves (s : State) : Preserves s (applyCommit s) := by
  unfold applyCommit
  dsimp only
  generalize applied : applyToCandidate s.profile (applyToRepeatLength s.profile
    (raiseEvent .commitApplied (s.setProf { s.prof with active := s.prof.pending, commit := none }))) = u
  have lanes : u.lanes = s.lanes := by rw [← applied]; simp
  have log : u.log = s.log := by rw [← applied]; simp
  have act : u.act = s.act := by rw [← applied]; simp
  obtain ⟨ls, all, -, changed, latched, prof, agrees⟩ := changeMasks_remasking s.profile.laneMask u.profile.laneMask u
  have lane (m : Lane) : u.lane m = s.lane m := by rw [State.lane, lanes, State.lane]
  have profile : (changeMasks s.profile.laneMask u.profile.laneMask u).profile = u.profile :=
    congrArg ProfileUnit.active prof
  simp only [lane, laneLatched_of_act act] at changed latched
  refine ⟨fun ⟨mean, agreed⟩ => ⟨fun m => ?_, agrees (agreed.of_claims log fun m => by rw [lane])⟩,
    fun fits m => (changed m (all m)).room (fits m)⟩
  rw [latched, profile]
  exact (changed m (all m)).means (mean m)

/-! ## Halts and mark events -/

theorem refreshFilters_laneLatched (before after : State) (l : Lane) :
    (refreshFilters before after).laneLatched l = after.laneLatched l := by
  have same := (refreshFilters_same before after).2
  have gate := unfiltered_latchOf (refreshFilters before after).act (.gate l)
  have pusher := unfiltered_latchOf (refreshFilters before after).act (.pusher l)
  rw [same, unfiltered_latchOf] at gate pusher
  unfold State.laneLatched State.gate State.pusher
  rw [show (refreshFilters before after).act.gates[l].latch = after.act.gates[l].latch from gate.symm,
    show (refreshFilters before after).act.pushers[l].latch = after.act.pushers[l].latch from pusher.symm]

theorem enterIdle_preserves (m : Mode) (s : State) : Preserves s (enterIdle m s) := by
  refine .of_frame (by simp) (by simp) (fun l => ?_) (enterIdle_keeps m s).2.2.1
  unfold enterIdle endKnifePulse
  split
  · exact refreshFilters_laneLatched s s l
  · exact refreshFilters_laneLatched s s l

theorem raiseEvent_lane (e : Event) (s : State) (l : Lane) : (raiseEvent e s).lane l = s.lane l := rfl

theorem enterHalt_preserves (cause : HaltCause) (s : State) : Preserves s (enterHalt cause s) := by
  have pulses (l : Lane) : (s.lane l).SameStacks ((enterHalt cause s).lane l) := by
    rw [enterHalt_eq, State.afterHalt]
    split
    · exact .refl _
    · rw [raiseEvent_lane]
      simp only [State.lane, ofFn_lane]
      exact ⟨rfl, rfl, rfl, rfl, rfl, rfl⟩
  refine .of_still pulses (by simp) (fun l => ?_) (enterHalt_keeps cause s).2.2.1
  rw [enterHalt_eq, State.afterHalt]
  split
  · rfl
  · rw [laneLatched_of_act (raiseEvent_frame _ _).2.2.2.2.2.2.1, ← refreshFilters_laneLatched s s l]
    unfold State.laneLatched State.gate State.pusher
    simp

theorem testDeficits_preserves (s : State) : Preserves s (testDeficits s) := by
  rcases testDeficits_cases s with same | ⟨cause, same⟩
  · rw [same]
    exact .refl s
  · rw [same]
    exact enterHalt_preserves cause s

theorem strike_laneLatched (c : Cut) (s : State) (l : Lane) : (strike c s).laneLatched l = s.laneLatched l := by
  have requested (t : State) : (requestKnifePulse t).laneLatched l = t.laneLatched l := by
    unfold requestKnifePulse
    split <;> rfl
  have handed (t : State) : (handOver c t).laneLatched l = t.laneLatched l := laneLatched_of_act (by simp) l
  have closed (t : State) : (closeConfirm t).laneLatched l = t.laneLatched l := laneLatched_of_act (by simp) l
  have opened (t : State) : (openConfirm c.repeatNo t).laneLatched l = t.laneLatched l := laneLatched_of_act (by simp) l
  unfold strike
  split
  · exact handed s
  · rw [opened, handed, requested, closed]

theorem fireCut_laneLatched (c : Cut) (s : State) (l : Lane) : (fireCut c s).laneLatched l = s.laneLatched l := by
  unfold fireCut
  dsimp only
  split
  · rfl
  · exact strike_laneLatched _ _ l

theorem receiveMark_laneLatched (m : MarkRecord) (s : State) (l : Lane) :
    (receiveMark m s).laneLatched l = s.laneLatched l := by
  have placed (lanes : LaneSet) (t : State) : (placeCut m lanes t).laneLatched l = t.laneLatched l := by
    unfold placeCut
    dsimp only
    split
    · rw [fireCut_laneLatched]
      exact laneLatched_of_act (by simp) l
    · exact laneLatched_of_act (by simp) l
  unfold receiveMark
  dsimp only
  split
  · exact laneLatched_of_act (by simp) l
  · exact placed _ _

theorem receiveMark_preserves (m : MarkRecord) (s : State) : Preserves s (receiveMark m s) :=
  .of_frame (by simp) (by simp) (fun l => receiveMark_laneLatched m s l) (by simp)

theorem markedFor_preserves (m : MarkEvent) (s : State) : Preserves s (markedFor m s) := by
  have numbered : Preserves s (classifyAndNumber m s) :=
    .of_frame (by simp) (by simp) (fun l => laneLatched_of_act (by simp) l) (by simp)
  have committed (t : State) : Preserves t (commitAtMark t) := by
    unfold commitAtMark
    dsimp only
    split
    · exact (applyCommit_preserves t).trans (.of_frame rfl rfl (fun _ => rfl) rfl)
    · exact applyCommit_preserves t
  have opened : Preserves s (classified m s) := by
    unfold classified
    split
    · exact numbered.trans (committed _)
    · exact numbered
  exact opened.trans (.of_frame (by simp [markedFor]) (by simp [markedFor])
    (fun l => laneLatched_of_act (by simp [markedFor]) l) (by simp [markedFor]))

theorem takeMark_preserves (m : MarkEvent) (s : State) : Preserves s (takeMark m s) := by
  have received := (markedFor_preserves m s).trans (receiveMark_preserves (handedRecord m s) (markedFor m s))
  rw [takeMark_eq]
  split
  · exact received.trans (testDeficits_preserves _)
  · exact received

/-! ## Every operation -/

theorem countEjects_same (now : Pos) (es : List Eject) :
    (countEjects now es).map (fun e => (e.slot, e.seq)) = es.map (fun e => (e.slot, e.seq)) := by
  cases es with
  | nil => rfl
  | cons e es =>
    rw [countEjects]
    split <;> rfl

theorem markReached_preserves (a : Axis) (now : Pos) (s : State) : Preserves s (markReached a now s) := by
  cases a with
  | web => exact .of_frame rfl rfl (fun _ => rfl) rfl
  | belt =>
    refine .of_still (fun l => ?_) rfl (fun l => ?_) rfl
    · have lane : (markReached .belt now s).lane l = (s.lane l).count now := perLane_getElem _ _ _
      rw [lane]
      exact ⟨rfl, rfl, rfl, rfl, rfl, countEjects_same now _⟩
    · unfold State.laneLatched State.gate State.pusher
      have gate : (markReached .belt now s).act.gates[l] = (s.act.gates[l]).count now := perLane_getElem _ _ _
      rw [gate]
      rfl

theorem Work.preserves {k : Nat} {s t : State} (work : Work k s t) : Preserves s t := by
  cases work with
  | lane _ l u same =>
    exact Gated.preserves (LaneWork.gated ⟨setLane_move same.claim, by rw [setLane_lane_same]; exact same.sound⟩)
  | act _ a gates pushers =>
    refine .of_frame rfl rfl (fun l => ?_) rfl
    unfold State.laneLatched
    rw [show ((s.setAct a).gate l).latch = _ from gates l, show ((s.setAct a).pusher l).latch = _ from pushers l]
  | prof _ p active => exact .of_frame rfl rfl (fun _ => rfl) active
  | reached _ a now => exact markReached_preserves a now s
  | idle _ m => exact enterIdle_preserves m s
  | latchGate _ l kind => exact latchGate_preserves l kind s
  | latchPusher _ l kind => exact latchPusher_preserves l kind s
  | commit => exact applyCommit_preserves s
  | mark _ m => exact takeMark_preserves m s
  | fire =>
    refine .of_frame (by simp) (by simp) (fun l => ?_) (by simp)
    unfold fireHead
    split
    · rfl
    · exact fireCut_laneLatched _ _ l
  | strike =>
    refine .of_frame (by simp) (by simp) (fun l => ?_) (by simp)
    unfold strikeOldest
    split
    · rfl
    · exact strike_laneLatched _ _ l
  | decide _ n l => exact (decideLane_gated n l s).preserves
  | resetLane _ l => exact (resetLane_work l s).gated.preserves
  | release _ l f => exact (releaseHead_released l f s).work.gated.preserves
  | close _ l o opened => exact (closeOpenStack_work opened).gated.preserves
  | cancel _ l o opened => exact (cancelOpenStack_work opened).gated.preserves
  | order _ l o room => exact queueOrder_preserves o room
  | unqueue _ l p => exact (unqueue_work s l p).gated.preserves
  | resume _ l held => exact (resume_work held).gated.preserves
  | clear _ l i fault free => exact clearLane_preserves fault (freeSlot_eq_some free)
  | ack _ i => exact freeReadySlot_preserves i s
  | _ => exact .of_frame (by simp) (by simp) (fun l => laneLatched_of_act (by simp) l) (by simp)

theorem Removal.preserves {s t : State} (removal : Removal s t) : Preserves s t := by
  cases removal with
  | exit => exact .of_frame rfl rfl (fun _ => rfl) rfl
  | emptied => exact .of_frame (by simp) (by simp) (fun l => laneLatched_of_act (by simp) l) (by simp)

/-- Settles O58: every operation keeps the agreement; LatchesHold is not needed for it. -/
theorem stepKeepsLanesAndLogInAgreement : Obligations.StepKeepsLanesAndLogInAgreement := by
  intro s t ready _ mean own owners stepped
  have start : Agreement s := ⟨mean, (agrees_iff s).mpr ⟨ready, own, owners⟩⟩
  have reset (s : State) : Agreement (deviceReset s) := by
    obtain ⟨-, -, -, -, -, -, ready, mean, own, owners⟩ := deviceReset_invariants s
    exact ⟨mean, (agrees_iff _).mpr ⟨ready, own, owners⟩⟩
  obtain ⟨mean', agrees⟩ := step_keeps (fun work => work.preserves.agreement)
    (fun removal => removal.preserves.agreement) reset stepped start
  obtain ⟨ready', own', owners'⟩ := (agrees_iff t).mp agrees
  exact ⟨ready', mean', own', owners'⟩

end Sys2Proof.Machine

/-!
PROOFS. The lists of the cut scheduler and of the map within their bounds (R50, R57, R71, R82), and every list with them.
-/

namespace Sys2Proof.Machine

/-- The lists of the cut scheduler and of the map within their bounds. -/
structure ListsFit (s : State) : Prop where
  cuts : s.pendingCuts ≤ 16
  splices : s.cut.splices.length ≤ 4
  records : s.map.records.length ≤ 48
  notices : s.map.notices.length ≤ 16

theorem ListsFit.of_cut {s t : State} (fit : ListsFit s) (cuts : t.pendingCuts ≤ 16)
    (splices : t.cut.splices.length ≤ s.cut.splices.length) (records : t.map.records.length ≤ 48)
    (notices : t.map.notices.length ≤ s.map.notices.length) : ListsFit t :=
  ⟨cuts, splices.trans fit.splices, records, notices.trans fit.notices⟩

theorem ListsFit.of_frame {s t : State} (fit : ListsFit s) (cut : t.cut = s.cut) (map : t.map = s.map) : ListsFit t := by
  refine fit.of_cut ?_ (by rw [cut]) (by rw [map]; exact fit.records) (by rw [map])
  rw [State.pendingCuts, cut]
  exact fit.cuts

theorem Recorded.records_length {s t : State} (recorded : Recorded s t) (fit : s.map.records.length ≤ 48) :
    t.map.records.length ≤ 48 := by
  cases recorded with
  | revised records => exact records.length_eq ▸ fit
  | lost _ records => exact records.length_eq ▸ fit
  | entered mid r fresh room records added =>
    rw [added, List.length_append, List.length_singleton, ← records.length_eq]
    exact room
  | disposed l d before after r records disposed =>
    rw [disposed]
    rw [records] at fit
    simpa using fit
  | cleared records => exact records ▸ fit

/-! ## Zones of the splice list (R56, R57) -/

theorem insertZone_length (z : Zone) (zs : List Zone) : (insertZone z zs).length = zs.length + 1 := by
  induction zs with
  | nil => rfl
  | cons y ys ih =>
    rw [insertZone]
    split
    · rfl
    · rw [List.length_cons, ih, List.length_cons]

theorem addZone_length (z : Zone) {zs : List Zone} (fit : zs.length ≤ 4) : (addZone z zs).length ≤ 4 := by
  cases full : splicesFull zs with
  | false =>
    rw [addZone_of_room z full, insertZone_length]
    exact splicesFull_eq_false.mp full
  | true =>
    have some : zs ≠ [] := by
      rintro rfl
      exact absurd (splicesFull_eq_true.mp full) (by decide)
    rw [addZone_of_full z full (List.getLast?_eq_getLast_of_ne_nil some), insertZone_length, List.length_dropLast]
    omega

/-! ## Cuts (R50, R52, R60) -/

theorem fireCut_fits (c : Cut) {s : State} (room : s.pendingCuts < 16) :
    (fireCut c s).pendingCuts ≤ 16 ∧ (fireCut c s).cut.splices.length ≤ s.cut.splices.length ∧
    (fireCut c s).map.notices = s.map.notices := by
  obtain ⟨schedule, splices, cases⟩ := fireCut_cases c s
  rw [State.pendingCuts] at room ⊢
  rw [schedule]
  rcases cases with ⟨queue, map, -⟩ | ⟨queue, u, ⟨-, notices, -⟩, entered, -⟩
  · have length := congrArg List.length queue
    rw [List.length_append, List.length_map, List.length_map, List.length_singleton] at length
    exact ⟨by omega, splices, by rw [map]⟩
  · exact ⟨by rw [queue]; omega, splices, entered.trans notices⟩

theorem fireHead_fits {s : State} (fit : ListsFit s) : ListsFit (fireHead s) := by
  refine fit.of_cut ?_ ?_ ((fireHead_recorded s).records_length fit.records) ?_
  all_goals
    unfold fireHead
    split
  · exact fit.cuts
  · next c rest schedule =>
    refine (fireCut_fits c ?_).1
    have cuts := fit.cuts
    rw [State.pendingCuts, schedule, List.length_cons] at cuts
    change rest.length + s.cut.queue.length < 16
    omega
  · exact le_refl _
  · next c rest schedule =>
    exact (fireCut_cases c (s.setCut { s.cut with schedule := rest, headReached := headPassed s.web rest })).2.1
  · exact le_refl _
  · next c rest schedule =>
    obtain ⟨-, -, ⟨-, map, -⟩ | ⟨-, u, ⟨-, notices, -⟩, entered, -⟩⟩ :=
      fireCut_cases c (s.setCut { s.cut with schedule := rest, headReached := headPassed s.web rest })
    · rw [map]
      exact le_refl _
    · rw [entered, notices]
      exact le_refl _

theorem strikeOldest_fits {s : State} (fit : ListsFit s) : ListsFit (strikeOldest s) := by
  refine fit.of_cut ?_ ?_ ((strikeOldest_recorded s).records_length fit.records) ?_
  all_goals
    unfold strikeOldest
    split
  · exact fit.cuts
  · next c rest queue =>
    obtain ⟨schedule, waiting, -⟩ := strike_lists c (s.setCut { s.cut with queue := rest })
    have cuts := fit.cuts
    rw [State.pendingCuts, queue, List.length_cons] at cuts
    rw [State.pendingCuts, schedule, waiting]
    change s.cut.schedule.length + rest.length ≤ 16
    omega
  · exact le_refl _
  · next c rest queue => exact (congrArg List.length (strike_lists c (s.setCut { s.cut with queue := rest })).2.2).le
  · exact le_refl _
  · next c rest queue =>
    obtain ⟨u, ⟨-, notices, -⟩, entered, -⟩ := strike_entered c (s.setCut { s.cut with queue := rest })
    rw [entered, notices]
    exact le_refl _

theorem receiveMark_fits (m : MarkRecord) {s : State} (fit : ListsFit s) : ListsFit (receiveMark m s) := by
  have records := (receiveMark_recorded m (s := s) rfl rfl).records_length fit.records
  obtain ⟨splices, cases⟩ := receiveMark_cases m s
  rcases cases with ⟨-, schedule, queue, map, -⟩ | ⟨room, ⟨c, -, schedule, queue, map, -⟩ |
      ⟨c, u, -, map, -, schedule, queue, fired⟩⟩
  · refine fit.of_cut ?_ splices records (by rw [map])
    rw [State.pendingCuts, schedule, queue]
    exact fit.cuts
  · refine fit.of_cut ?_ splices records (by rw [map])
    rw [State.pendingCuts] at room ⊢
    rw [schedule, queue, List.length_append, List.length_singleton]
    omega
  · obtain ⟨cuts, -, notices⟩ := fireCut_fits c (s := u) (by rw [State.pendingCuts, schedule, queue]; exact room)
    rw [fired] at splices records ⊢
    exact fit.of_cut cuts splices records (by rw [notices, map])

theorem ListsFit.emptied {s t : State} (fit : ListsFit s) (schedule : t.cut.schedule = []) (queue : t.cut.queue = [])
    (splices : t.cut.splices = []) (map : t.map = s.map) : ListsFit t := by
  refine fit.of_cut ?_ (by rw [splices]; exact Nat.zero_le _) (by rw [map]; exact fit.records) (by rw [map])
  rw [State.pendingCuts, schedule, queue]
  exact Nat.zero_le 16

theorem testDeficits_fits {s : State} (fit : ListsFit s) : ListsFit (testDeficits s) := by
  obtain ⟨-, -, -, same | ⟨schedule, queue, splices⟩⟩ := testDeficits_keeps s
  · exact fit.of_frame same (by simp)
  · exact fit.emptied schedule queue splices (by simp)

theorem takeMark_fits (m : MarkEvent) {s : State} (fit : ListsFit s) : ListsFit (takeMark m s) := by
  obtain ⟨-, -, cut, map, -⟩ := markedFor_keeps m s
  have received := receiveMark_fits (handedRecord m s) (fit.of_frame cut map)
  rw [takeMark_eq]
  split
  · exact testDeficits_fits received
  · exact received

theorem pushNotice_fits (n : Notice) {s : State} (fit : ListsFit s) : ListsFit (pushNotice n s) := by
  have cut : (pushNotice n s).cut = s.cut := by simp
  refine ⟨by rw [State.pendingCuts, cut]; exact fit.cuts, by rw [cut]; exact fit.splices,
    by rw [(pushNotice_records n s).1]; exact fit.records, ?_⟩
  have notices := fit.notices
  unfold pushNotice
  split
  · next room =>
    simp only [raiseEvent_frame, setMap_map, List.length_append, List.length_singleton]
    exact room
  · simp only [raiseEvent_frame, setCnt_map, setMap_map, List.length_append, List.length_drop, List.length_singleton]
    omega

/-! ## Every operation -/

theorem ListsFit.of_map {s t : State} (fit : ListsFit s) (cut : t.cut = s.cut) (records : t.map.records.length ≤ 48)
    (notices : t.map.notices = s.map.notices) : ListsFit t :=
  fit.of_cut (by rw [State.pendingCuts, cut]; exact fit.cuts) (by rw [cut]) records (by rw [notices])

theorem Work.listsFit {k : Nat} {s t : State} (work : Work k s t) (fit : ListsFit s) : ListsFit t := by
  have records := work.recorded.records_length fit.records
  cases work with
  | mark _ m => exact takeMark_fits m fit
  | fire => exact fireHead_fits fit
  | strike => exact strikeOldest_fits fit
  | idle _ m =>
    obtain ⟨-, -, -, schedule, queue, splices⟩ := enterIdle_keeps m s
    exact fit.emptied schedule queue splices (by simp)
  | cut _ c schedule queue splices =>
    refine fit.of_cut ?_ (by rw [setCut_cut, splices]) records (le_refl _)
    have schedule := congrArg List.length schedule
    have queue := congrArg List.length queue
    simp only [List.length_map] at schedule queue
    rw [State.pendingCuts, setCut_cut, schedule, queue]
    exact fit.cuts
  | splice _ z => exact ⟨fit.cuts, addZone_length z fit.splices, fit.records, fit.notices⟩
  | map _ m _ notices => exact ⟨fit.cuts, fit.splices, records, notices.trans fit.notices⟩
  | notice _ n => exact pushNotice_fits n fit
  | touch => exact fit.of_map rfl records rfl
  | purge => exact fit.of_map rfl records rfl
  | decided => exact fit.of_map rfl records rfl
  | decide _ n l =>
    refine fit.of_map (by simp) records ?_
    rcases decideLane_cases n l s with same | ⟨r, d, -, -, -, -, map, -⟩
    · rw [same]
    · rw [map]
      rfl
  | reached _ a now =>
    cases a with
    | web => exact fit.of_cut fit.cuts (le_refl _) records (le_refl _)
    | belt => exact fit.of_map rfl records rfl
  | _ => exact fit.of_frame (by simp) (by simp)

theorem Removal.listsFit {s t : State} (removal : Removal s t) (fit : ListsFit s) : ListsFit t := by
  have records := removal.records_sublist.length_le.trans fit.records
  cases removal with
  | exit => exact fit.of_map rfl records rfl
  | emptied => exact fit.of_cut fit.cuts (le_refl _) records (Nat.zero_le _)

theorem withinCapacity_iff (s : State) : WithinCapacity s ↔ ListsFit s ∧ Fits s :=
  ⟨fun ⟨cuts, splices, records, notices, lanes⟩ => ⟨⟨cuts, splices, records, notices⟩, lanes⟩,
    fun ⟨⟨cuts, splices, records, notices⟩, lanes⟩ => ⟨cuts, splices, records, notices, lanes⟩⟩

/-! ## Flags and masks (R195, R196) -/

theorem step_eventsCarried {s t : State} (stepped : step s = .next t) (carried : EventsCarried s) : EventsCarried t := by
  unfold step at stepped
  split at stepped
  · cases stepped
    exact carried
  · next c rest _ =>
    exact exec_eventsCarried (s := s.setPending rest) stepped carried

/-- Settles O55: band and bounds by the operations, the events of a link by its row. -/
theorem stepKeepsBandsAndBounds : Obligations.StepKeepsBandsAndBounds := by
  intro s t stepped
  refine ⟨?_, fun within => ?_, step_eventsCarried stepped⟩
  · refine step_keeps (fun work => work.inBand) (fun removal band => ?_) (fun s => (deviceReset_invariants s).2.2.2.1) stepped
    cases removal with
    | exit => exact band
    | emptied => exact band.of_same (by simp) (by simp)
  · refine (withinCapacity_iff t).mpr (step_keeps (P := fun s => ListsFit s ∧ Fits s)
      (fun work fits => ⟨work.listsFit fits.1, work.preserves.fits fits.2⟩)
      (fun removal fits => ⟨removal.listsFit fits.1, removal.preserves.fits fits.2⟩) (fun s => ?_) stepped
      ((withinCapacity_iff s).mp within))
    exact (withinCapacity_iff _).mp (deviceReset_invariants s).2.2.2.2.1

end Sys2Proof.Machine

/-!
PROOFS. Cuts, in the order of their way: a mark record is placed, a cut fires, strikes, is confirmed, and the knife is freed
(R41 to R66, R164).
-/

namespace Sys2Proof.Machine

/-! ## No output finds its fault condition -/

theorem SensesClear.of_senses {s t : State} (clear : SensesClear s) (pins : t.pins = s.pins)
    (enabled : t.act.enabled = s.act.enabled) : SensesClear t := by
  intro o member
  have absent := clear o member
  simpa [State.faultPresent, State.enabled, State.atFault, pins, enabled] using absent

theorem SensesClear.not_overloaded {s : State} (clear : SensesClear s) (o : Output) : s.overloaded o = false := by
  rw [← Bool.not_eq_true, overloaded_iff]
  rintro ⟨enabled, -, -, atFault⟩
  have absent := clear o (mem_allOutputs o)
  simp [State.faultPresent, enabled, atFault] at absent

/-- Where no output finds its fault condition, the end of a row's work restarts filter times and latches nothing. -/
theorem SensesClear.finishDrive_eq {s t : State} (clear : SensesClear s) (pins : t.pins = s.pins) (work : Internal s t) :
    finishDrive s t = refreshFilters s t :=
  finishDrive_of_noOverload (clear.of_senses pins work.enabled).not_overloaded

/-! ## The placement of a mark record (R41 to R54) -/

theorem mustPostpone_eq (reference : Option Pos) (fire : Pos) (qMin : Nat) :
    mustPostpone reference fire qMin = reference.any (fun last => !atOrBeyond fire (last + BitVec.ofNat 32 qMin)) := by
  cases reference <;> rfl

theorem orderedFire_eq (reference : Option Pos) (fire : Pos) (qMin : Nat) :
    orderedFire reference fire qMin =
      if mustPostpone reference fire qMin then reference.getD 0 + BitVec.ofNat 32 qMin else fire := by
  cases reference <;> rfl

theorem LineRange.consume_eq (r : LineRange) (n : RepeatNo) :
    r.consume n = if r.remaining ≠ 0 ∧ r.first = n then ⟨r.first + 1, r.remaining - 1, r.mask⟩ else r := by
  simp [LineRange.consume, LineRange.contains]

theorem LineRange.lanesFor_eq (r : LineRange) (n : RepeatNo) :
    r.lanesFor n = if r.remaining ≠ 0 ∧ r.first = n then r.mask else 0 := by
  simp [LineRange.lanesFor, LineRange.contains]

/-- A cut that is not late joins the schedule without being reached. -/
theorem joinSchedule_of_ahead {c : Cut} {s : State} (ahead : atOrBeyond s.web c.fire = false) :
    joinSchedule c s = s.setCut { s.cut with
      schedule := s.cut.schedule ++ [c], headReached := if s.cut.schedule = [] then false else s.cut.headReached } := by
  cases schedule : s.cut.schedule <;> simp [joinSchedule, schedule, ahead]

theorem overrun_of_setCut (cut : CutScheduler) (s : State) : overrun (s.setCut cut) = raiseEvent .cutOverrun
    ((s.setCut { cut with overrunCarry := true }).countLanes (fun l n =>
      if LaneSet.has s.profile.laneMask l then { n with cut := n.cut + 1, lost := n.lost + 1 } else n)) := rfl

theorem receiveMark_of_full {m : MarkRecord} {s : State} (full : 16 ≤ s.pendingCuts) :
    receiveMark m s = overrun (s.setCut { s.cut with range := s.cut.range.consume m.repeatNo }) := if_pos full

theorem receiveMark_of_room {m : MarkRecord} {s : State} (room : s.pendingCuts < 16) :
    receiveMark m s = placeCut m (s.cut.range.lanesFor m.repeatNo)
      (s.setCut { s.cut with range := s.cut.range.consume m.repeatNo }) := if_neg (Nat.not_le.mpr room)

/-- Settles O21: a record that finds room is placed by the arithmetic of R41 to R48, any other is lost by overrun. -/
theorem markRecordPlacesItsCut : Obligations.MarkRecordPlacesItsCut := by
  intro m s p inside range kEff v full computed reference postponed fire late c t
  have rangeEq : s.cut.range.consume m.repeatNo = range := LineRange.consume_eq _ _
  refine ⟨fun room => ?_, fun overfull => ?_⟩
  · have lanesEq : s.cut.range.lanesFor m.repeatNo = if inside then s.cut.range.mask else 0 := LineRange.lanesFor_eq _ _
    have placed : placement (s.setCut { s.cut with range := range }) m.position = ⟨kEff, min full 8191, fire⟩ :=
      congrArg (Placement.mk kEff (min full 8191)) ((orderedFire_eq _ _ _).trans (by rw [mustPostpone_eq]; rfl))
    have cut : placedCut (s.setCut { s.cut with range := range }) m (if inside then s.cut.range.mask else 0) = c := by
      rw [placedCut, placed]
      dsimp only
      rw [mustPostpone_eq]
      rfl
    rw [receiveMark_of_room room, rangeEq, lanesEq, placeCut, cut, placed]
    have kept : t.web = s.web ∧ t.cut.schedule = s.cut.schedule ∧ t.cut.headReached = s.cut.headReached := by simp [t]
    obtain ⟨webKept, scheduleKept, headKept⟩ := kept
    change (if late then fireCut c t else joinSchedule c t) = _
    by_cases isLate : late = true
    · rw [if_pos isLate, if_pos isLate]
    · have ahead : atOrBeyond t.web c.fire = false := by
        rw [webKept]
        exact Bool.eq_false_iff.mpr isLate
      rw [if_neg isLate, if_neg isLate, joinSchedule_of_ahead ahead, scheduleKept, headKept]
  · rw [receiveMark_of_full overfull, overrun_of_setCut, rangeEq]

/-! ## The entry into the map (R71 to R78) -/

theorem raiseIf_setMap (b : Bool) (e : Event) (map : TransitMap) (s : State) :
    raiseIf b e (s.setMap map) = (raiseIf b e s).setMap map := by
  cases b <;> rfl

/-- The purge end after a jam or an untracked strike at a stamp (R78). -/
def State.purgeFrom (s : State) (t : Pos) : Option PosEvent :=
  match s.map.purge with
  | none => some (PosEvent.arm s.belt (purgeCandidate s.profile t))
  | some e =>
    if atOrBeyond (purgeCandidate s.profile t) e.target then some (PosEvent.arm s.belt (purgeCandidate s.profile t))
    else some e

theorem extendPurge_eq (t : Pos) (s : State) :
    extendPurge t s = (raiseIf s.map.purge.isNone .purgeOn s).setMap { s.map with purge := s.purgeFrom t } := by
  unfold extendPurge State.purgeFrom
  dsimp only
  cases purge : s.map.purge with
  | none => rfl
  | some e =>
    dsimp only
    split
    · rfl
    · exact congrArg (fun p => s.setMap { s.map with purge := p }) purge

/-- Whether a NORMAL entry clears the warnings (R76). -/
abbrev State.autoClears (s : State) : Prop :=
  s.profile.autoClear ≠ 0 ∧ s.profile.autoClear ≤ (satInc s.map.normalRun).toNat

/-- What the spacing of an entry raises or clears. -/
def Spacing.news (c : Spacing) (s : State) : State :=
  match c with
  | .normal => if s.autoClears then acknowledge .line warnings s else s
  | .near | .tight => raiseEvent .spacingWarn s
  | .jammed => raiseIf s.map.purge.isNone .purgeOn (raiseEvent .jam s)

theorem applySpacing_eq (c : Spacing) (t : Pos) (s : State) :
    applySpacing c t s = (c.news s).setMap { s.map with
      normalRun := if c = .normal ∧ ¬s.autoClears then satInc s.map.normalRun else 0
      purge := if c ≠ .jammed then s.map.purge else s.purgeFrom t } := by
  cases c with
  | normal =>
    by_cases clears : s.autoClears
    · exact (if_pos clears).trans (by simp only [Spacing.news, if_pos clears]; simp [clears]; rfl)
    · exact (if_neg clears).trans (by simp only [Spacing.news, if_neg clears]; simp [clears])
  | near => rfl
  | tight => rfl
  | jammed =>
    refine (extendPurge_eq t _).trans ?_
    exact (congrArg (State.setMap · _)
      (raiseIf_setMap s.map.purge.isNone .purgeOn { s.map with normalRun := 0 } (raiseEvent .jam s))).trans rfl

theorem Spacing.news_kept (c : Spacing) (s : State) :
    (c.news s).map = s.map ∧ (c.news s).belt = s.belt ∧ (c.news s).cnt = s.cnt := by
  cases c with
  | normal =>
    by_cases clears : s.autoClears
    · simp only [Spacing.news, if_pos clears]
      simp [State.belt]
    · simp only [Spacing.news, if_neg clears, and_self]
  | near | tight => exact ⟨rfl, rfl, rfl⟩
  | jammed => simp [Spacing.news]

/-- The record that a cut struck at a stamp becomes. -/
def State.recordOf (s : State) (c : Cut) (t : Pos) : RepeatRecord :=
  makeRecord s.profile s.belt s.mode.isDryKind (spacingClass s.profile s.map.lastStamp t) c t

theorem Spacing.givesCause_eq (c : Spacing) : c.givesCause = (c == .tight || c == .jammed) := by
  cases c <;> rfl

/-- The map after the entry of a struck cut (R71 to R76, R78). -/
def State.mapWith (s : State) (c : Cut) (t : Pos) : TransitMap :=
  let cls := spacingClass s.profile s.map.lastStamp t
  { records := s.map.records ++ [s.recordOf c t]
    lastStamp := some (Fading.start s.belt t)
    normalRun := if cls = .normal ∧ ¬s.autoClears then satInc s.map.normalRun else 0
    purge := if cls ≠ .jammed then s.map.purge else s.purgeFrom t
    notices := s.map.notices }

theorem enterMap_of_room {c : Cut} {t : Pos} {s : State} (room : s.map.records.length < 48) : enterMap c t s =
    (((spacingClass s.profile s.map.lastStamp t).news s).setMap (s.mapWith c t)).countLanes
      (fun l n => if LaneSet.has s.profile.laneMask l then { n with cut := n.cut + 1 } else n) := by
  obtain ⟨-, belt, -⟩ := Spacing.news_kept (spacingClass s.profile s.map.lastStamp t) s
  refine (if_pos room).trans ?_
  unfold enterRecord
  dsimp only
  rw [applySpacing_eq]
  simp only [setLastStamp, State.mapWith, State.recordOf, setMap_map, setMap_view_belt, belt]
  rfl

theorem enterMap_of_full {c : Cut} {t : Pos} {s : State} (full : 48 ≤ s.map.records.length) : enterMap c t s =
    ((raiseIf s.map.purge.isNone .purgeOn (raiseEvent .mapFull s)).setMap
      { s.map with lastStamp := some (Fading.start s.belt t), normalRun := 0, purge := s.purgeFrom t }).countLanes
      (fun l n => if LaneSet.has s.profile.laneMask l then { n with cut := n.cut + 1, lost := n.lost + 1 } else n) := by
  refine (if_neg (Nat.not_lt.mpr full)).trans ?_
  unfold untrackedRepeat
  rw [extendPurge_eq]
  cases purge : s.map.purge
  all_goals
    have purge' : (raiseEvent .mapFull (s.countUntracked s.profile.laneMask)).map.purge = s.map.purge := rfl
    rw [purge', purge]
    rfl

/-- Settles O27: the entry is `mapWith`, and in a full map the purge moves out and the labels are lost. -/
theorem strikesEnterTheMap : Obligations.StrikesEnterTheMap := by
  refine ⟨fun c t s room => ?_, fun c t s full => ?_⟩
  · intro p cls inspected r run clears candidateEnd u
    have runEq : satInc s.map.normalRun = run := satInc_eq _
    have clearsIff : s.autoClears ↔ clears := by rw [State.autoClears, runEq]
    have map : s.mapWith c t = ⟨s.map.records ++ [r], some ⟨t, PosEvent.arm s.belt (t + 1073741824#32)⟩,
        if cls = .normal ∧ ¬clears then run else 0, if cls ≠ .jammed then s.map.purge else s.purgeFrom t,
        s.map.notices⟩ := by
      have record : s.recordOf c t = r := congrArg (fun b => { r with spacing := b }) (Spacing.givesCause_eq cls)
      simp only [State.mapWith, record, runEq, clearsIff]
      rfl
    have entered : u = ((cls.news s).setMap (s.mapWith c t)).countLanes
        (fun l n => if LaneSet.has p.laneMask l then { n with cut := n.cut + 1 } else n) := enterMap_of_room room
    have mapEq : u.map = s.mapWith c t := by rw [entered]; rfl
    refine ⟨mapEq.trans map, ?_⟩
    rw [mapEq, entered]
    refine congrArg (fun v : State => (v.setMap (s.mapWith c t)).countLanes _) ?_
    cases cls with
    | normal => exact if_congr clearsIff rfl rfl
    | near | tight | jammed => rfl
  · exact enterMap_of_full full

/-! ## Firing and striking (R58 to R65, R164) -/

theorem enterMap_views (c : Cut) (t : Pos) (s : State) :
    (enterMap c t s).web = s.web ∧ (enterMap c t s).belt = s.belt ∧ (enterMap c t s).profile = s.profile ∧
    (enterMap c t s).mode = s.mode := by
  simp [State.web, State.belt, State.profile, State.mode]

theorem setCut_setCut (s : State) (a b : CutScheduler) : (s.setCut a).setCut b = s.setCut b := rfl

theorem raiseIf_setCut (b : Bool) (e : Event) (cut : CutScheduler) (s : State) :
    raiseIf b e (s.setCut cut) = (raiseIf b e s).setCut cut := by
  cases b <;> rfl

theorem Spacing.news_setCut (c : Spacing) (cut : CutScheduler) (s : State) :
    c.news (s.setCut cut) = (c.news s).setCut cut := by
  cases c with
  | normal =>
    by_cases clears : s.autoClears
    · have news : Spacing.normal.news s = acknowledge .line warnings s := if_pos clears
      exact (if_pos clears).trans (congrArg (State.setCut · cut) news).symm
    · have news : Spacing.normal.news s = s := if_neg clears
      exact (if_neg clears).trans (congrArg (State.setCut · cut) news).symm
  | near | tight => rfl
  | jammed => exact raiseIf_setCut _ .purgeOn cut (raiseEvent .jam s)

/-- The map reads and writes nothing of the cut scheduler. -/
theorem enterMap_setCut (c : Cut) (t : Pos) (cut : CutScheduler) (s : State) :
    enterMap c t (s.setCut cut) = (enterMap c t s).setCut cut := by
  by_cases room : s.map.records.length < 48
  · rw [enterMap_of_room (s := s.setCut cut) room, enterMap_of_room room, Spacing.news_setCut]
    rfl
  · rw [enterMap_of_full (s := s.setCut cut) (Nat.not_lt.mp room), enterMap_of_full (Nat.not_lt.mp room)]
    cases purge : s.map.purge
    all_goals
      rw [setCut_map, purge]
      rfl

/-- The state after an open confirm window has ended as a miss, as far as the map goes (R65). -/
def State.confirmMissed (s : State) : State :=
  match s.cut.confirm with
  | none => s
  | some w => s.updateRecord w.repeatNo (fun r => { r with uncut := true })

theorem closeConfirm_eq (s : State) : closeConfirm s = s.confirmMissed.setCut
    { s.cut with confirm := none, strikeCarry := s.cut.strikeCarry || s.cut.confirm.isSome } := by
  unfold closeConfirm State.confirmMissed
  cases confirm : s.cut.confirm with
  | none =>
    have still : { s.cut with confirm := none, strikeCarry := s.cut.strikeCarry || false } = s.cut := by
      rw [Bool.or_false, ← confirm]
    exact (congrArg s.setCut still).symm
  | some w => simp [missStrike]

theorem requestKnifePulse_eq (s : State) : requestKnifePulse s = s.setKnife { s.act.knife with
    drive := if s.act.knife.drive = .free then .pulse s.profile.knifePulse else s.act.knife.drive } := by
  unfold requestKnifePulse
  split
  · next free => rw [if_pos free]
  all_goals
    next busy =>
      rw [if_neg (fun free => Drive.noConfusion (free.symm.trans busy))]
      rfl

theorem openConfirm_eq (n : RepeatNo) (s : State) : openConfirm n s = s.setCut { s.cut with
    confirm := if s.profile.confirmWindow = 0 then s.cut.confirm
      else some ⟨n, PosEvent.arm s.web (s.web + BitVec.ofNat 32 s.profile.confirmWindow)⟩ } := by
  unfold openConfirm
  split
  · rfl
  · rfl

theorem State.confirmMissed_kept (s : State) : s.confirmMissed.act = s.act ∧ s.confirmMissed.web = s.web ∧
    s.confirmMissed.belt = s.belt ∧ s.confirmMissed.profile = s.profile := by
  unfold State.confirmMissed
  split <;> exact ⟨rfl, rfl, rfl, rfl⟩

/-- Settles O23: the miss of an open window, the knife's pulse, the hand-over and the new window, one after the other. -/
theorem strikeFollowsItsSteps : Obligations.StrikeFollowsItsSteps := by
  intro c s
  refine ⟨fun dry => if_pos dry, fun wet => ?_⟩
  intro missed opened
  obtain ⟨actKept, webKept, beltKept, profileKept⟩ := s.confirmMissed_kept
  have struck : strike c s = openConfirm c.repeatNo (handOver c (requestKnifePulse (closeConfirm s))) :=
    if_neg (by rw [wet]; decide)
  have pulsed : requestKnifePulse (closeConfirm s) = (missed.setKnife { s.act.knife with
      drive := if s.act.knife.drive = .free then .pulse s.profile.knifePulse else s.act.knife.drive }).setCut
      { s.cut with confirm := none, strikeCarry := s.cut.strikeCarry || s.cut.confirm.isSome } := by
    rw [requestKnifePulse_eq, closeConfirm_eq]
    simp only [setCut_act, setCut_view_profile, actKept, profileKept]
    rfl
  have windowOpened (cut : CutScheduler) (closed : cut.confirm = none) {u : State} (web : u.web = s.web)
      (profile : u.profile = s.profile) :
      openConfirm c.repeatNo (u.setCut cut) = u.setCut { cut with confirm := opened } := by
    rw [openConfirm_eq]
    simp only [setCut_cut, setCut_view_profile, setCut_view_web, web, profile, closed]
    rfl
  rw [struck, pulsed, handOver, setCut_setCut, enterMap_setCut, windowOpened, enterMap_setCut]
  · have carried : c.withCarry (s.cut.strikeCarry || s.cut.confirm.isSome) =
        { c with uncutCarry := c.uncutCarry || s.cut.strikeCarry || s.cut.confirm.isSome } :=
      congrArg (fun b => { c with uncutCarry := b }) (Bool.or_assoc _ _ _).symm
    rw [← carried, ← beltKept]
    rfl
  · rfl
  · exact (enterMap_views _ _ _).1.trans webKept
  · exact (enterMap_views _ _ _).2.2.1.trans profileKept

theorem strike_headReached (c : Cut) (s : State) : (strike c s).cut.headReached = s.cut.headReached := by
  obtain ⟨dry, wet⟩ := strikeFollowsItsSteps c s
  cases kind : s.mode.isDryKind with
  | true => rw [dry kind, enterMap_setCut]; rfl
  | false => rw [wet kind, enterMap_setCut]; rfl

/-! ## A fired cut (R58 to R60) -/

theorem mustQueue_iff (s : State) : s.mustQueue = true ↔ s.mode.isDryKind = false ∧
    (s.cut.queue ≠ [] ∨ s.act.knife.drive ≠ .free ∧ s.act.knife.drive ≠ .latched) := by
  cases drive : s.act.knife.drive <;> simp [State.mustQueue, drive, Drive.isBusy]


theorem fireCut_eq (c : Cut) (s : State) :
    fireCut c s =
      if (spliceTest c s).2.mustQueue then
        (spliceTest c s).2.setCut { (spliceTest c s).2.cut with
          queue := s.cut.queue ++ [{ (spliceTest c s).1 with late := true, reg := true }] }
      else strike (spliceTest c s).1 (spliceTest c s).2 := rfl

theorem fireCut_headReached (c : Cut) (s : State) : (fireCut c s).cut.headReached = s.cut.headReached := by
  rw [fireCut_eq]
  split
  · rfl
  · exact strike_headReached _ _

theorem fireReached_of_ahead {n : Nat} {s : State} (ahead : s.cut.headReached = false) : fireReached n s = s := by
  cases n with
  | zero => rfl
  | succ n => exact if_neg (by rw [ahead]; decide)

theorem exec_firePosition {c : Cut} {rest : List Cut} {s : State} (schedule : s.cut.schedule = c :: rest)
    (running : s.mode.isHalt = false) (reached : s.cut.headReached = true)
    (ahead : ∀ d ∈ rest.head?, atOrBeyond s.web d.fire = false) :
    exec .firePosition s =
      .next (finishDrive s (fireCut c (s.setCut { s.cut with schedule := rest, headReached := false }))) := by
  have next : headPassed s.web rest = false := by
    cases rest with
    | nil => rfl
    | cons d later => exact ahead d rfl
  have head : fireHead s = fireCut c (s.setCut { s.cut with schedule := rest, headReached := false }) := by
    unfold fireHead
    rw [schedule]
    exact congrArg (fun b => fireCut c (s.setCut { s.cut with schedule := rest, headReached := b })) next
  have fired : fireReached s.cut.schedule.length s = fireHead s := by
    rw [schedule]
    refine (if_pos reached).trans (fireReached_of_ahead ?_)
    rw [head, fireCut_headReached]
    rfl
  refine congrArg Host.Outcome.next ?_
  rw [if_pos (by rw [running, reached]; decide), fired, head]

/-- Settles O22: the head leaves the schedule and is fired; a fired cut passes the splice test, then waits or is struck. -/
theorem firedCutIsStruckOrWaits : Obligations.FiredCutIsStruckOrWaits := by
  refine ⟨fun s c rest schedule running reached ahead clear => ?_, fun c s => ?_⟩
  · rw [exec_firePosition schedule running reached ahead, clear.finishDrive_eq]
    · simp
    · exact .after (fireCut_internal c _) (setCut_internal s _)
  · exact (fireCut_eq c s).trans (if_congr (mustQueue_iff _) rfl rfl)

/-! ## The end of DRAINING (R186) -/

theorem drainEnds_iff (s : State) : s.drainEnds = true ↔ s.mode.isDraining = true ∧ s.cut.schedule = [] ∧
    s.cut.queue = [] ∧ s.cut.confirm = none ∧ s.map.records = [] := by
  simp [State.drainEnds, CutScheduler.isDrained, and_assoc]

theorem reportDrained_of_rest {s : State} (rest : ¬s.drainEnds = true) : reportDrained s = s := if_neg rest

/-- The end of DRAINING cannot turn into HALT: in SETUP the knife is not driven. -/
theorem reportDrained_of_ends {s : State} (ends : s.drainEnds = true) :
    (reportDrained s).mode = .setup ∧ (reportDrained s).flag .line .drained = true ∧ (reportDrained s).map = s.map := by
  have report : reportDrained s = finishDrive s (raiseEvent .drained (enterSetup s)) :=
    (if_pos ends).trans (congrArg (finishDrive s) (if_pos ends))
  have still : (raiseEvent .drained (enterSetup s)).driven .knife = false := enterIdle_knife_still .setup s
  refine ⟨?_, ?_, by simp⟩
  · rw [report, State.mode, finishDrive_prof still, enterSetup_eq]
    rfl
  · rw [report]
    exact Internal.drained_kept (finishDrive_internal s _).toKept ((or_bit_getLsbD _ .drained _).mpr (.inr rfl))

/-! ## Confirms (R63 to R66) -/

/-- A window closed by an operation on its record ends DRAINING if it was the last work, and nothing else follows. -/
theorem reportDrained_closing {s t : State} (mode : t.mode = s.mode) (schedule : t.cut.schedule = s.cut.schedule)
    (queue : t.cut.queue = s.cut.queue) (closed : t.cut.confirm = none) (records : t.map.records = [] ↔ s.map.records = [])
    {a : Answer} (answered : a = .next (reportDrained t)) :
    (¬(s.mode.isDraining = true ∧ s.cut.schedule = [] ∧ s.cut.queue = [] ∧ s.map.records = []) → a = .next t) ∧
    (s.mode.isDraining = true ∧ s.cut.schedule = [] ∧ s.cut.queue = [] ∧ s.map.records = [] →
      ∃ u, a = .next u ∧ u.mode = .setup ∧ u.flag .line .drained = true) := by
  have ends : t.drainEnds = true ↔
      s.mode.isDraining = true ∧ s.cut.schedule = [] ∧ s.cut.queue = [] ∧ s.map.records = [] := by
    simp [drainEnds_iff, mode, schedule, queue, closed, records]
  refine ⟨fun rest => ?_, fun last => ?_⟩
  · rw [answered, reportDrained_of_rest (mt ends.mp rest)]
  · obtain ⟨setup, drained, -⟩ := reportDrained_of_ends (ends.mpr last)
    exact ⟨_, answered, setup, drained⟩

theorem updateRecord_records_eq_nil (s : State) (n : RepeatNo) (f : RepeatRecord → RepeatRecord) :
    (s.updateRecord n f).map.records = [] ↔ s.map.records = [] := by
  cases records : s.map.records with
  | nil => simp [State.updateRecord, records, updateFirst]
  | cons r rest =>
    simp only [State.updateRecord, setMap_map, records, updateFirst]
    split <;> simp

/-- Settles O24: the edge and the expiry close the window, and closing the last one of a drained part ends DRAINING. -/
theorem confirmWindowEndsConfirmedOrMissed : Obligations.ConfirmWindowEndsConfirmedOrMissed := by
  intro s lastWork
  refine ⟨fun closed => ?_, fun w opened => ?_⟩
  · have answered : exec .knifeConfirm s = .next (strayConfirm s) := by
      show execKnifeConfirm s = _
      rw [execKnifeConfirm, closed]
    rw [answered, strayConfirm, satInc_eq]
  · intro confirmed missed
    have edge : exec .knifeConfirm s = .next (reportDrained confirmed) := by
      show execKnifeConfirm s = _
      rw [execKnifeConfirm, opened]
      rfl
    have records (f : RepeatRecord → RepeatRecord) := updateRecord_records_eq_nil s w.repeatNo f
    obtain ⟨edgeRest, edgeLast⟩ := reportDrained_closing (s := s) (t := confirmed) rfl rfl rfl rfl (records _) edge
    refine ⟨edgeRest, edgeLast, fun running reached => ?_⟩
    have expired : exec .confirmWindowExpiry s = .next (reportDrained missed) := by
      show execConfirmWindowExpiry s = _
      rw [execConfirmWindowExpiry, opened]
      exact congrArg Host.Outcome.next (if_pos (by rw [running, reached]; decide))
    exact reportDrained_closing (s := s) (t := missed) rfl rfl rfl rfl (records _) expired

/-! ## The knife's times (R164, R60) -/

theorem exec_knifePulseEnd {s : State} {w : Nat} (pulse : s.act.knife.drive = .pulse w) :
    exec .knifePulseEnd s = .next (finishDrive s (knifeTo (afterPulse s.profile.knifeOff) s)) := by
  show execKnifePulseEnd s = _
  rw [execKnifePulseEnd, pulse]

theorem exec_knifeOffTimeEnd {s : State} {n : Nat} (off : s.act.knife.drive = .offTime n) :
    exec .knifeOffTimeEnd s = .next (finishDrive s (knifeTo .free s)) := by
  show execKnifeOffTimeEnd s = _
  rw [execKnifeOffTimeEnd, off]

theorem SensesClear.finish_knifeTo {s : State} (clear : SensesClear s) (d : Drive) :
    finishDrive s (knifeTo d s) = refreshFilters s (knifeTo d s) := by
  refine clear.finishDrive_eq ?_ (knifeTo_internal d s)
  unfold knifeTo
  split <;> simp

theorem knifeTo_free (s : State) :
    knifeTo .free s = strikeOldest (s.setKnife { s.act.knife with drive := .free }) := rfl

/-- A knife that is freed strikes the oldest cut that waits (R60). -/
theorem knifeTo_free_of_cons {s : State} {c : Cut} {rest : List Cut} (queue : s.cut.queue = c :: rest) :
    knifeTo .free s =
      strike c ((s.setKnife { s.act.knife with drive := .free }).setCut { s.cut with queue := rest }) := by
  rw [knifeTo_free, strikeOldest, setKnife_cut, queue]

theorem knifeTo_free_of_nil {s : State} (queue : s.cut.queue = []) :
    knifeTo .free s = s.setKnife { s.act.knife with drive := .free } := by
  rw [knifeTo_free, strikeOldest, setKnife_cut, queue]

theorem exec_knifePulseEnd_of_not_pulse {s : State} (still : s.act.knife.drive.isPulse = false) :
    exec .knifePulseEnd s = .next s := by
  show execKnifePulseEnd s = _
  unfold execKnifePulseEnd
  split
  · next pulse => rw [pulse] at still; cases still
  all_goals rfl

theorem exec_knifeOffTimeEnd_of_not_off {s : State}
    (still : s.act.knife.drive.isBusy = false ∨ s.act.knife.drive.isPulse = true) :
    exec .knifeOffTimeEnd s = .next s := by
  show execKnifeOffTimeEnd s = _
  unfold execKnifeOffTimeEnd
  split
  · next off =>
    rw [off] at still
    cases still with
    | inl h => cases h
    | inr h => cases h
  all_goals rfl

/-- Settles O25: each row by the drive state that it needs, and the freed knife by the strike queue. -/
theorem knifeTimersFreeTheKnife : Obligations.KnifeTimersFreeTheKnife := by
  intro s clear freed
  refine ⟨fun w pulse => ?_, fun n off => ?_, exec_knifePulseEnd_of_not_pulse, exec_knifeOffTimeEnd_of_not_off⟩
  · rw [exec_knifePulseEnd pulse, clear.finish_knifeTo, afterPulse]
    refine ⟨fun off => ?_, fun noOff empty => ?_, fun c rest queue noOff => ?_⟩
    · rw [if_neg off, knifeTo]
      rfl
    · rw [if_pos noOff, knifeTo_free_of_nil empty]
    · rw [if_pos noOff, knifeTo_free_of_cons queue]
  · rw [exec_knifeOffTimeEnd off, clear.finish_knifeTo]
    refine ⟨fun empty => ?_, fun c rest queue => ?_⟩
    · rw [knifeTo_free_of_nil empty]
    · rw [knifeTo_free_of_cons queue]

end Sys2Proof.Machine

/-!
PROOFS. The events of the map and the ends of what they began (R74, R79, R81, R82, R84 to R86, R113, R167), and the filter
times of the outputs (R170).
-/

namespace Sys2Proof.Machine

/-! ## The camera event (R81, R82) -/

theorem requestCameraPulse_eq (s : State) : requestCameraPulse s =
    s.setAct { s.act with camera := some (s.act.camera.getD s.profile.cameraPulse) } := by
  unfold requestCameraPulse
  split
  · next w running =>
    have still : ({ s.act with camera := some ((some w).getD s.profile.cameraPulse) } : Actuators) = s.act :=
      congrArg (fun c => { s.act with camera := c }) running.symm
    rw [running, still]
    rfl
  · next idle => rw [idle]; rfl

theorem exec_cameraPosition {n : RepeatNo} {s : State} {r : RepeatRecord} (found : s.record n = some r)
    (running : s.mode.isHalt = false) (reached : r.camera.any (fun e => e.reached) = true)
    (untaken : r.cameraTaken = false) :
    exec (.cameraPosition n) s = .next (cameraEvent r s) := by
  have due : r.cameraDue = true := by
    unfold RepeatRecord.cameraDue
    cases camera : r.camera with
    | none => rw [camera] at reached; cases reached
    | some e =>
      rw [camera] at reached
      simpa [untaken] using reached
  show execCameraPosition n s = _
  rw [execCameraPosition, found]
  exact congrArg Host.Outcome.next (if_pos (by rw [running, due]; decide))

/-- Settles O28: the trigger's pulse, the notice, and the mark on the record, by the room in the queue. -/
theorem cameraEventTriggersAndNotifies : Obligations.CameraEventTriggersAndNotifies := by
  refine ⟨fun n s r found running reached untaken => ?_, fun _ => rfl⟩
  intro taken
  have number : r.repeatNo = n := repeatNo_of_record found
  rw [exec_cameraPosition found running reached untaken, cameraEvent, requestCameraPulse_eq, number]
  refine ⟨fun room => ?_, fun full => ?_⟩
  · have pushed : pushNotice ⟨n, r.laneSet⟩ (s.setAct { s.act with
        camera := some (s.act.camera.getD s.profile.cameraPulse) }) = _ := if_pos room
    rw [pushed]
    rfl
  · have pushed : pushNotice ⟨n, r.laneSet⟩ (s.setAct { s.act with
        camera := some (s.act.camera.getD s.profile.cameraPulse) }) = _ := if_neg (Nat.not_lt.mpr full)
    rw [pushed, satInc_eq, List.drop_one]
    rfl

/-! ## The ends (R74, R79, R86, R113, R167) -/

/-- Settles O30: each row takes the event that stands reached, and the exit of the last work ends DRAINING. -/
theorem takenEventsRemoveWhatTheyEnd : Obligations.TakenEventsRemoveWhatTheyEnd := by
  intro s running
  have act (b : Bool) (reached : b = true) : (!s.mode.isHalt && b) = true := by rw [running, reached]; decide
  refine ⟨fun f stamp reached => ?_, fun e purge reached => ?_, fun l f rejectEnd reached => ?_,
    fun l clear e hold reached => ?_, fun n r found reached => ?_⟩
  · show execLastStampExpiry s = _
    rw [execLastStampExpiry, stamp]
    exact congrArg Host.Outcome.next (if_pos (act _ reached))
  · show execPurgeEnd s = _
    rw [execPurgeEnd, purge]
    exact congrArg Host.Outcome.next (if_pos (act _ reached))
  · show execRejectEndExpiry l s = _
    rw [execRejectEndExpiry, rejectEnd]
    exact congrArg Host.Outcome.next (if_pos (act _ reached))
  · show execGateHoldEnd l s = _
    rw [execGateHoldEnd, hold]
    refine congrArg Host.Outcome.next ((if_pos (act _ reached)).trans (clear.finishDrive_eq ?_ (setGate_internal s l _)))
    simp
  · intro t ends
    have exits : exec (.recordExit n) s = .next (if r.decisionTaken then reportDrained t else s) := by
      show execRecordExit n s = _
      rw [execRecordExit, found]
      refine congrArg Host.Outcome.next (if_congr ?_ ?_ rfl)
      · simp [running, reached, RepeatRecord.exitDue]
      · rw [exitRecord, removeFirst_eq_eraseP]
    have endsIff : t.drainEnds = true ↔ ends := drainEnds_iff t
    refine ⟨fun waits => ?_, fun decided rest => ?_, fun decided last => ?_⟩
    · rw [exits, waits]
      rfl
    · rw [exits, if_pos decided, reportDrained_of_rest (mt endsIff.mp rest)]
    · obtain ⟨setup, drained, map⟩ := reportDrained_of_ends (endsIff.mpr last)
      exact ⟨_, exits.trans (congrArg Host.Outcome.next (if_pos decided)), setup, drained, map⟩

/-! ## The decision event (R84, R85) -/

theorem updateFirst_of_replaced {α : Type} {p : α → Bool} {x : α} (held : p x = true) (f : α → α) (xs : List α) :
    updateFirst p f (updateFirst p (fun _ => x) xs) = updateFirst p (fun _ => f x) xs := by
  induction xs with
  | nil => rfl
  | cons y ys ih =>
    by_cases test : p y = true
    · simp [updateFirst, test, held]
    · simp [updateFirst, test, ih]

/-- The second state has, in the place of the record of a number, this record, and the map is otherwise that of the first. -/
def Replaced (n : RepeatNo) (r : RepeatRecord) (s u : State) : Prop :=
  r.repeatNo = n ∧ u.record n = some r ∧
  u.map = { s.map with records := updateFirst (fun q => q.repeatNo == n) (fun _ => r) s.map.records }

theorem Replaced.of_found {n : RepeatNo} {r : RepeatRecord} {s : State} (found : s.record n = some r)
    (f : RepeatRecord → RepeatRecord) (number : ∀ q, (f q).repeatNo = q.repeatNo) :
    Replaced n (f r) s (s.updateRecord n f) := by
  refine ⟨(number r).trans (repeatNo_of_record found), ?_, ?_⟩
  · rw [record_updateRecord_same s number, found]
    rfl
  · rw [updateRecord_of_record f found]
    rfl

theorem Replaced.update {n : RepeatNo} {r : RepeatRecord} {s u v : State} (held : Replaced n r s u)
    (f : RepeatRecord → RepeatRecord) (number : ∀ q, (f q).repeatNo = q.repeatNo)
    (map : v.map = (u.updateRecord n f).map) : Replaced n (f r) s v := by
  obtain ⟨named, found, before⟩ := held
  have found' : v.record n = (u.updateRecord n f).record n := by rw [State.record, map, State.record]
  refine ⟨(number r).trans named, ?_, ?_⟩
  · rw [found', record_updateRecord_same u number, found]
    rfl
  · rw [map, State.updateRecord, setMap_map, before]
    exact congrArg (fun rs => { s.map with records := rs })
      (updateFirst_of_replaced (p := fun q => q.repeatNo == n) (beq_iff_eq.mpr named) f s.map.records)

theorem Replaced.of_map {n : RepeatNo} {r : RepeatRecord} {s u v : State} (held : Replaced n r s u)
    (map : v.map = u.map) : Replaced n r s v := by
  obtain ⟨named, found, before⟩ := held
  refine ⟨named, ?_, map.trans before⟩
  rw [State.record, map]
  exact found

theorem RepeatRecord.undecided_dispositions (r : RepeatRecord) (ds : Vector Disposition 8) (l : Lane) :
    ({ r with dispositions := ds } : RepeatRecord).undecided l = (LaneSet.has r.laneSet l && ds[l] == .undecided) := rfl

/-- A lane that decides gives its own label a disposition, and only that. -/
theorem decideLane_replaced {n : RepeatNo} {r : RepeatRecord} {s u : State} (held : Replaced n r s u) (l : Lane) :
    ∃ ds : Vector Disposition 8, Replaced n { r with dispositions := ds } s (decideLane n l u) ∧
      ({ r with dispositions := ds } : RepeatRecord).undecided l = false ∧
      ∀ m : Lane, m ≠ l ∨ r.undecided m = false → ds[m] = r.dispositions[m] := by
  obtain ⟨named, found, -⟩ := id held
  by_cases undecided : r.undecided l = true
  · have decides : decideLane n l u = dispose r l (gateChecks r l u).2 (gateChecks r l u).1 := by
      unfold decideLane
      rw [found]
      exact if_pos undecided
    obtain ⟨made, -⟩ := gateChecks_disposition r l u
    obtain ⟨map, -⟩ := dispose_map_counts r l (gateChecks r l u).2 (gateChecks r l u).1
    refine ⟨r.dispositions.set l.val (gateChecks r l u).2, ?_, ?_, fun m other => ?_⟩
    · refine held.update (fun q => q.dispose l (gateChecks r l u).2) (fun _ => rfl) ?_
      rw [decides, map, State.updateRecord, State.updateRecord, named]
      simp
    · simp [RepeatRecord.undecided_dispositions, made]
    · rw [set_getElem, if_neg]
      rintro rfl
      exact other.elim (fun apart => apart rfl) (fun decided => Bool.noConfusion (decided.symm.trans undecided))
  · have decides : decideLane n l u = u := by
      unfold decideLane
      rw [found]
      exact if_neg undecided
    exact ⟨r.dispositions, by rw [decides]; exact held, Bool.eq_false_iff.mpr undecided, fun _ _ => rfl⟩

/-- After the lanes of a row each of their labels has a disposition, and no other disposition has changed. -/
theorem decideLanes_replaced {n : RepeatNo} {s : State} (lanes : List Lane) {r : RepeatRecord} {u : State}
    (held : Replaced n r s u) :
    ∃ ds : Vector Disposition 8,
      Replaced n { r with dispositions := ds } s (lanes.foldl (fun v l => decideLane n l v) u) ∧
      (∀ l ∈ lanes, ({ r with dispositions := ds } : RepeatRecord).undecided l = false) ∧
      ∀ l : Lane, l ∉ lanes ∨ r.undecided l = false → ds[l] = r.dispositions[l] := by
  induction lanes generalizing r u with
  | nil => exact ⟨r.dispositions, held, fun _ member => absurd member List.not_mem_nil, fun _ _ => rfl⟩
  | cons x xs ih =>
    obtain ⟨ds, first, decided, others⟩ := decideLane_replaced held x
    obtain ⟨es, rest, allDecided, kept⟩ := ih first
    have same {l : Lane} (still : l ∉ x :: xs ∨ r.undecided l = false) : es[l] = r.dispositions[l] := by
      have before : ds[l] = r.dispositions[l] :=
        others l (still.imp_left fun outside => fun here => outside (here ▸ List.mem_cons_self))
      refine (kept l (still.imp (fun outside member => outside (List.mem_cons_of_mem x member)) fun decided => ?_)).trans
        before
      rw [RepeatRecord.undecided_dispositions, before]
      exact decided
    refine ⟨es, rest, fun l member => ?_, fun l still => same still⟩
    rcases List.mem_cons.mp member with rfl | later
    · have here : es[l] = ds[l] := kept l (.inr decided)
      rw [RepeatRecord.undecided_dispositions, here]
      exact decided
    · exact allDecided l later

theorem purgeFlag_eq (s : State) (r : RepeatRecord) :
    (if r.purgeTested then r else { r with purge := s.purgeInForce, purgeTested := true }) =
      { r with purge := s.purgeFlag r, purgeTested := true } := by
  unfold State.purgeFlag
  split
  · next tested => rw [← tested]
  · rfl

theorem decided_iff (r : RepeatRecord) : r.decided = true ↔ ∀ l : Lane, r.undecided l = false := by
  simp [RepeatRecord.decided, mem_allLanes]

theorem markDecided_eq {r : RepeatRecord} (untaken : r.decisionTaken = false) :
    (if r.decided then { r with decisionTaken := true } else r) =
      { r with decisionTaken := decide (∀ l : Lane, r.undecided l = false) } := by
  by_cases decided : r.decided = true
  · rw [if_pos decided, decide_eq_true ((decided_iff r).mp decided)]
  · rw [if_neg decided, decide_eq_false (mt (decided_iff r).mpr decided), ← untaken]

theorem Replaced.markDecided {n : RepeatNo} {r : RepeatRecord} {s u : State} (held : Replaced n r s u)
    (untaken : r.decisionTaken = false) :
    Replaced n { r with decisionTaken := decide (∀ l : Lane, r.undecided l = false) } s (Machine.markDecided n u) := by
  rw [← markDecided_eq untaken]
  exact held.update (fun q => if q.decided then { q with decisionTaken := true } else q)
    (fun q => by split <;> rfl) rfl

/-- Settles O29: the purge test, the lanes of the row one after the other, and the mark that no lane is left. -/
theorem decisionTestsPurgeAndDecidesOnce : Obligations.DecisionTestsPurgeAndDecidesOnce := by
  intro n lanes s r found running reached untaken
  have taken : exec (.decisionPosition n lanes) s = .next (finishDrive s (decisionEvent n lanes s)) := by
    show execDecisionPosition n lanes s = _
    rw [execDecisionPosition, found]
    exact congrArg Host.Outcome.next (if_pos (by simp [running, RepeatRecord.decisionDue, reached, untaken]))
  have tested : Replaced n { r with purge := s.purgeFlag r, purgeTested := true } s (testPurge n s) := by
    rw [← purgeFlag_eq]
    exact .of_found found (fun q => if q.purgeTested then q else { q with purge := s.purgeInForce, purgeTested := true })
      (fun q => by split <;> rfl)
  obtain ⟨ds, judged, allDecided, kept⟩ := decideLanes_replaced lanes tested
  obtain ⟨-, found', map⟩ := (judged.markDecided untaken).of_map (finishDrive_frame s (decisionEvent n lanes s)).1
  exact ⟨_, taken, _, found', rfl, fun l still => kept l still, fun l member => allDecided l member, map⟩

/-! ## Sense lines and filter times (R170) -/

theorem laneBit_getLsbD (l m : Lane) : (1#8 <<< l.val).getLsbD m.val = decide (m = l) := by
  revert l m
  decide

theorem has_put (lanes : LaneSet) (l m : Lane) (b : Bool) :
    LaneSet.has (LaneSet.put lanes l b) m = if m = l then b else LaneSet.has lanes m := by
  unfold LaneSet.has LaneSet.put
  cases b
  · simp only [Bool.false_eq_true, if_false, BitVec.getLsbD_and, BitVec.getLsbD_not, laneBit_getLsbD]
    by_cases here : m = l <;> simp [here]
  · simp only [if_true, BitVec.getLsbD_or, laneBit_getLsbD]
    by_cases here : m = l <;> simp [here]

theorem setSense_atFault (p : Pins) (o q : Output) (b : Bool) :
    (p.setSense o b).atFault q = if q = o then b else p.atFault q := by
  cases o with
  | knife => cases q <;> simp [Pins.setSense, Pins.atFault]
  | gate l => cases q <;> simp [Pins.setSense, Pins.atFault, has_put]
  | pusher l => cases q <;> simp [Pins.setSense, Pins.atFault, has_put]

theorem setSense_others (p : Pins) (o : Output) (b : Bool) :
    (p.setSense o b).mark = p.mark ∧ (p.setSense o b).stop = p.stop := by
  cases o <;> exact ⟨rfl, rfl⟩

theorem sampled_iff (s : State) (o : Output) :
    s.sampled o = true ↔ s.enabled o = true ∧ s.latchOf o = none ∧ s.driven o = false := by
  simp [State.sampled, and_assoc]

theorem senseChange_same (o : Output) (b : Bool) (s : State) :
    SameButFilters (senseChange o b s) (s.setPins (s.pins.setSense o b)) := by
  unfold senseChange
  dsimp only
  split
  · exact .of_setFilter _ _ _
  · exact .refl _

theorem filterAfterSense_eq (f : Filter) (b : Bool) :
    filterAfterSense f b = if f = .settling then .settling else if b then .measuring else .settled := by
  cases f <;> simp [filterAfterSense, sampledFilter]

theorem setPins_filterOf (s : State) (p : Pins) (q : Output) : (s.setPins p).filterOf q = s.filterOf q := by
  cases q <;> rfl

theorem senseChange_filterOf (o q : Output) (b : Bool) (s : State) : (senseChange o b s).filterOf q =
    if q = o ∧ s.sampled o = true ∧ s.filterOf q ≠ .settling then (if b then .measuring else .settled)
    else s.filterOf q := by
  unfold senseChange
  dsimp only
  by_cases sampled : s.sampled o = true
  · rw [if_pos sampled]
    by_cases here : q = o
    · subst here
      rw [setFilter_filterOf_same, filterAfterSense_eq]
      by_cases settling : s.filterOf q = .settling <;> simp [sampled, settling]
    · rw [setFilter_filterOf_other _ _ here, setPins_filterOf]
      simp [here]
  · rw [if_neg sampled, setPins_filterOf]
    simp [sampled]

/-- Settles O40: one equation for each filter time, and nothing latches where no driven output is at fault. -/
theorem drivenOutputsRestartTheirFilters : Obligations.DrivenOutputsRestartTheirFilters := by
  refine ⟨fun before after => ?_, fun o s => ?_⟩
  · obtain ⟨frame, act⟩ := refreshFilters_same before after
    exact ⟨refreshFilters_filterOf before after, frame, act⟩
  intro runs
  refine ⟨fun running settling => ?_, fun still => ?_, fun v harmless => ?_⟩
  · exact congrArg Host.Outcome.next (if_pos (by simp [(sampled_iff s o).mpr running, settling]))
  · refine congrArg Host.Outcome.next (if_neg ?_)
    rw [Bool.and_eq_true, sampled_iff, beq_iff_eq]
    exact fun both => still.elim (fun not => not both.1) (fun other => other both.2)
  · have same := senseChange_same o (v == .low) s
    have quiet (q : Output) : (senseChange o (v == .low) s).overloaded q = false := by
      rw [same.overloaded, ← Bool.not_eq_true, overloaded_iff]
      rintro ⟨enabled, -, driven, atFault⟩
      have harmlessHere := harmless q enabled driven
      have sense : (s.pins.setSense o (v == .low)).atFault q = true := atFault
      rw [setSense_atFault] at sense
      split at sense
      · next here =>
        rw [if_pos here] at harmlessHere
        rw [harmlessHere] at sense
        cases sense
      · next other =>
        rw [if_neg other] at harmlessHere
        exact Bool.noConfusion (harmlessHere.symm.trans sense)
    have driven (q : Output) : (senseChange o (v == .low) s).driven q = s.driven q := same.driven q
    obtain ⟨frame, act⟩ := (refreshFilters_same s _).trans same
    have pins : (refreshFilters s (senseChange o (v == .low) s)).pins = s.pins.setSense o (v == .low) := by
      rw [frame]
      rfl
    obtain ⟨markKept, stopKept⟩ := setSense_others s.pins o (v == .low)
    refine ⟨refreshFilters s (senseChange o (v == .low) s),
      congrArg Host.Outcome.next (finishDrive_of_noOverload quiet), ?_, act, ?_, ?_, fun q => ⟨?_, ?_⟩⟩
    · rw [pins]
      exact frame
    · rw [pins, markKept]
    · rw [pins, stopKept]
    · rw [State.atFault, pins, setSense_atFault]
      rfl
    · rw [refreshFilters_filterOf, driven, senseChange_filterOf]
      by_cases drivenHere : s.driven q = true
      · simp [drivenHere]
      · rw [if_neg (by simpa using drivenHere), if_neg drivenHere]
        refine if_congr ?_ (by cases v <;> rfl) rfl
        refine and_congr_right fun here => and_congr_left fun _ => ?_
        exact sampled_iff s o

end Sys2Proof.Machine

/-!
PROOFS. Mark events (R14 to R36): what each row hands to the cut scheduler, and the commit that comes to its point with one
(R12, R28, R31, R183).
-/

namespace Sys2Proof.Machine

/-! ## Raised events and registration -/

theorem raiseIf_setReg (b : Bool) (e : Event) (r : Registration) (s : State) :
    raiseIf b e (s.setReg r) = (raiseIf b e s).setReg r := by
  cases b <;> rfl

theorem raiseEvents_setReg (es : List Event) (r : Registration) (s : State) :
    raiseEvents es (s.setReg r) = (raiseEvents es s).setReg r := by
  induction es generalizing s with
  | nil => rfl
  | cons e es ih => exact ih (raiseEvent e s)

theorem raiseEvents_setCnt (es : List Event) (c : Counters) (s : State) :
    raiseEvents es (s.setCnt c) = (raiseEvents es s).setCnt c := by
  induction es generalizing s with
  | nil => rfl
  | cons e es ih => exact ih (raiseEvent e s)

theorem setReg_setReg (s : State) (a b : Registration) : (s.setReg a).setReg b = s.setReg b := rfl

/-! ## A mark event without a due commit (R23 to R30) -/

/-- The row of the table of 02 that a mark event of the model carries. -/
def MarkEvent.row (m : MarkEvent) : RegRow := ⟨m.next, m.lock, m.miss, m.reg, m.raised⟩

/-- The misses counted with a mark event (R35). -/
def State.missing (s : State) (missed : Bool) : State :=
  if missed then s.setCnt { s.cnt with misses := satInc s.cnt.misses } else s

/-- A registration with its events armed at a web position (R4). -/
def Registration.armedAt (r : Registration) (web : Pos) : Registration :=
  { r with
    window := r.window.map (fun w =>
      { w with opening := PosEvent.arm web w.opening.target, expiry := PosEvent.arm web w.expiry.target })
    virtualTarget := r.virtualTarget.map (fun e => PosEvent.arm web e.target) }

/-- Whether a mark event clamps the repeat length (R39). -/
def State.clampsAt (s : State) (m : MarkEvent) : Bool :=
  match s.reg.unclamped s.profile m.position m.error with
  | none => false
  | some x => decide (x < bandLow s.profile ∨ bandHigh s.profile < x)

theorem missing_kept (s : State) (missed : Bool) : (s.missing missed).reg = s.reg ∧ (s.missing missed).pos = s.pos ∧
    (s.missing missed).prof = s.prof ∧ (s.missing missed).cut = s.cut := by
  cases missed <;> exact ⟨rfl, rfl, rfl, rfl⟩

theorem classifyAndNumber_eq (m : MarkEvent) (s : State) : classifyAndNumber m s =
    raiseEvents m.raised ((s.missing m.missed).setReg { s.reg with
      state := m.next, lock := m.lock, miss := m.miss, lastError := m.error, window := none, virtualTarget := none,
      number := s.reg.number + 1, newest := some s.reg.number }) := by
  unfold classifyAndNumber State.missing
  dsimp only
  rw [raiseEvents_setReg]
  split
  · simp [raiseEvents_setCnt]
  · simp

/-- The repeat length after the filter stage (R36 to R39). -/
def Registration.filteredLength (r : Registration) (p : Profile) (m : MarkEvent) : Nat :=
  match r.unclamped p m.position m.error with
  | none => r.pEff
  | some x => if x < bandLow p then bandLow p else if bandHigh p < x then bandHigh p else x.toNat

theorem filterStage_eq (m : MarkEvent) (s : State) : filterStage m s =
    raiseIf (s.clampsAt m) .stretchLimit (s.setReg { s.reg with pEff := s.reg.filteredLength s.profile m }) := by
  unfold filterStage State.clampsAt Registration.filteredLength Registration.unclamped
  cases m.error with
  | none => rfl
  | some e => cases s.reg.lastReal <;> rfl

theorem armNext_eq (p : Pos) (s : State) : armNext p s = s.setReg { s.reg with
    window := if s.reg.state = .search then none
      else some (windowAbout s.web (expectedMark p s.reg.pEff) s.profile.halfWindow)
    virtualTarget := if s.reg.state = .search then some (PosEvent.arm s.web (p + dist s.profile.pNom)) else none } := by
  unfold armNext
  cases s.reg.state <;> rfl

theorem recordMark_eq (m : MarkEvent) (n : RepeatNo) (s : State) : recordMark m n s = s.setReg { s.reg with
    lastEvent := some ⟨m.kind, m.position, n⟩
    lastReal := if m.kind = .real then some m.position else none } := by
  unfold recordMark
  cases m.kind <;> rfl

/-- The work that follows the numbering of a mark event, as one write of the registration. -/
theorem recorded_eq (m : MarkEvent) (n : RepeatNo) (s : State) :
    recordMark m n (armNext m.position (filterStage m s)) =
      raiseIf (s.clampsAt m) .stretchLimit (s.setReg { s.reg with
        pEff := s.reg.filteredLength s.profile m
        window := if s.reg.state = .search then none
          else some (windowAbout s.web (expectedMark m.position (s.reg.filteredLength s.profile m)) s.profile.halfWindow)
        virtualTarget := if s.reg.state = .search then some (PosEvent.arm s.web (m.position + dist s.profile.pNom)) else none
        lastEvent := some ⟨m.kind, m.position, n⟩
        lastReal := if m.kind = .real then some m.position else none }) := by
  rw [filterStage_eq, armNext_eq, recordMark_eq]
  simp only [raiseIf_setReg, setReg_setReg, setReg_reg, setReg_view_web, setReg_view_profile,
    raiseIf_views]

theorem markedFor_of_notDue {m : MarkEvent} {s : State} (notDue : s.commitDue s.reg.number = false) :
    markedFor m s = raiseIf (s.clampsAt m) .stretchLimit (raiseEvents m.raised ((s.missing m.missed).setReg
      ((s.reg.afterEvent s.profile m.kind m.position m.error m.row).armedAt s.web))) := by
  have numbered : classified m s = _ := (if_neg (by simp [notDue])).trans (classifyAndNumber_eq m s)
  rw [markedFor, numbered, recorded_eq]
  obtain ⟨-, pos, prof, -⟩ := missing_kept s m.missed
  have profile : (s.missing m.missed).profile = s.profile := congrArg ProfileUnit.active prof
  have web : (s.missing m.missed).web = s.web := congrArg (fun p => p.web.counter) pos
  have armed (r : Registration) : raiseEvents m.raised ((s.missing m.missed).setReg r) =
      (raiseEvents m.raised (s.missing m.missed)).setReg r := raiseEvents_setReg _ _ _
  simp only [armed, setReg_setReg, setReg_reg, State.clampsAt, setReg_view_profile, setReg_view_web, raiseEvents_views,
    profile, web]
  refine congrArg (fun r => raiseIf _ .stretchLimit ((raiseEvents m.raised (s.missing m.missed)).setReg r)) ?_
  by_cases search : m.next = .search
  · simp only [Registration.afterEvent, Registration.armedAt, MarkEvent.row, search, if_true]
    rfl
  · simp only [Registration.afterEvent, Registration.armedAt, MarkEvent.row, search, if_false]
    rfl

/-- Armed events that lie ahead stand as they were armed. -/
theorem Registration.armedAt_of_ahead {r : Registration} {p : Profile} {k : MarkKind} {m : Pos} {err : Option Int}
    {row : RegRow} {web : Pos} (ahead : NextAhead web (r.afterEvent p k m err row)) :
    (r.afterEvent p k m err row).armedAt web = r.afterEvent p k m err row := by
  obtain ⟨window, virtual⟩ := ahead
  unfold Registration.armedAt
  by_cases search : row.next = .search
  · have beyond := virtual ⟨m + BitVec.ofNat 32 p.pNom, false⟩ (by simp [Registration.afterEvent, search])
    simp only [Registration.afterEvent, search, if_true, Option.map, PosEvent.arm, beyond]
  · obtain ⟨opening, expiry⟩ := window _ (Option.mem_def.mpr (if_neg search))
    simp only [Registration.afterEvent, search, if_false, Option.map, PosEvent.arm]
    simp only at opening expiry
    simp only [opening, expiry]

theorem handedRecord_of_notDue {m : MarkEvent} {s : State} (notDue : s.commitDue s.reg.number = false) :
    handedRecord m s = s.markRecord m.kind m.position m.error m.row := by
  have same : (classified m s).profile = s.profile := by
    unfold Machine.classified
    rw [if_neg (by simp [notDue])]
    exact congrArg ProfileUnit.active (by simp)
  rw [handedRecord, same, bne_self_eq_false, Bool.or_false]
  rfl

theorem takeMark_of_ahead {m : MarkEvent} {s : State} (notDue : s.commitDue s.reg.number = false)
    (ahead : NextAhead s.web ((s.missing m.missed).withMarkEvent m.kind m.position m.error m.row).reg) :
    takeMark m s = receiveMark (s.markRecord m.kind m.position m.error m.row)
      ((s.missing m.missed).withMarkEvent m.kind m.position m.error m.row) := by
  obtain ⟨reg, -, prof, -⟩ := missing_kept s m.missed
  have profile : (s.missing m.missed).profile = s.profile := congrArg ProfileUnit.active prof
  have armed := Registration.armedAt_of_ahead (r := s.reg) (p := s.profile) (k := m.kind) (m := m.position)
    (err := m.error) (row := m.row) (web := s.web) (by simpa [State.withMarkEvent, reg, profile] using ahead)
  rw [takeMark_eq, if_neg (by simp [notDue]), handedRecord_of_notDue notDue, markedFor_of_notDue notDue, armed,
    State.withMarkEvent, reg, profile]
  rfl

/-- With the next target ahead, no event that a mark event arms is already passed (R4). -/
theorem afterMark_of_ahead {s : State} {r : Registration} {p : Profile} {k : MarkKind} {m : Pos} {err : Option Int}
    {row : RegRow} (reg : s.reg = r.afterEvent p k m err row) : afterMark s = s := by
  have nothing : nextReached s = none := by
    unfold nextReached
    rw [reg]
    by_cases search : row.next = .search <;> simp [Registration.afterEvent, search]
  unfold afterMark Config.passedEventLimit takePassed
  rw [nothing]
  exact ite_self s

/-! ## The table of 02 (R21 to R26) -/

/-- The mark event of a row of the table. -/
def RegRow.event (row : RegRow) (kind : MarkKind) (position : Pos) (error : Option Int) (missed : Bool) : MarkEvent :=
  ⟨kind, position, error, row.next, row.lock, row.miss, row.reg, row.raised, missed⟩

theorem markInSearch_eq {s : State} (search : s.reg.state = .search) (m : Pos) (e : Int) :
    markInSearch s m = (markRow s.profile s.reg e).event .real m none false := by
  unfold markRow
  rw [search]
  rfl

theorem beyondTolerance_eq (p : Profile) (e : Int) :
    beyondTolerance p e = decide ((p.tReg : Int) < e ∨ e < -(p.tReg : Int)) := by
  refine decide_eq_decide.mpr ?_
  rw [lt_abs, lt_neg]

theorem markInWindow_eq {s : State} (tracking : s.reg.state ≠ .search) (m : Pos) (e : Int) :
    markInWindow s m e = (markRow s.profile s.reg e).event .real m (some e) false := by
  unfold markInWindow markRow
  cases state : s.reg.state with
  | search => exact absurd state tracking
  | locking =>
    by_cases last : s.reg.lock ≤ 1
    · simp [RegRow.event, last, Nat.sub_eq_zero_of_le last]
    · simp [RegRow.event, last]
      omega
  | locked => simp [RegRow.event, beyondTolerance_eq, warnIf]
  | coasting => simp [RegRow.event, beyondTolerance_eq, warnIf]

theorem coast_eq (s : State) (e : Pos) (miss : Nat) :
    coast s e miss = (coastRow s.profile s.reg miss).event .coasted e none true := by
  unfold coast coastRow
  by_cases grace : miss < s.profile.cMax
  · simp [RegRow.event, grace, warnIf]
  · simp [RegRow.event, grace, not_lt.mp grace]

theorem expiryEvent_eq (s : State) (e : Pos) :
    expiryEvent s e = (expiryRow s.profile s.reg).event .coasted e none true := by
  unfold expiryEvent expiryRow
  cases s.reg.state with
  | search | locking => rfl
  | locked => exact coast_eq s e 1
  | coasting => exact coast_eq s e (s.reg.miss + 1)

theorem virtualEvent_eq (s : State) (e : Pos) : virtualEvent s e = (virtualRow s.reg).event .virtual e none false := rfl

/-- Of the state before, the filter times depend on what was driven. -/
theorem refreshFilters_before {s t : State} (act : s.act = t.act) (mode : s.mode = t.mode) (u : State) :
    refreshFilters s u = refreshFilters t u := by
  have driven : s.driven = t.driven := by
    funext o
    rw [State.driven, act, mode]
    rfl
  rw [refreshFilters, driven, refreshFilters]

/-- A mark event with no commit at its point and the next target ahead is handed to the cut scheduler, and nothing is taken
after it. -/
theorem afterMark_takeMark {s : State} {row : RegRow} {kind : MarkKind} {m : Pos} {err : Option Int} {missed : Bool}
    (notDue : s.commitDue s.reg.number = false)
    (ahead : NextAhead s.web ((s.missing missed).withMarkEvent kind m err row).reg) :
    afterMark (takeMark (row.event kind m err missed) s) =
      receiveMark (s.markRecord kind m err row) ((s.missing missed).withMarkEvent kind m err row) := by
  have taken : takeMark (row.event kind m err missed) s = receiveMark (s.markRecord kind m err row)
      ((s.missing missed).withMarkEvent kind m err row) := takeMark_of_ahead notDue ahead
  rw [taken]
  refine afterMark_of_ahead (r := (s.missing missed).reg) (p := (s.missing missed).profile) (k := kind) (m := m)
    (err := err) (row := row) ?_
  simp [State.withMarkEvent]

/-- A row's mark event, with no output at fault besides: after the cut scheduler only filter times move. -/
theorem finish_mark {before other s : State} {row : RegRow} {kind : MarkKind} {m : Pos} {err : Option Int}
    {missed : Bool} (act : before.act = other.act) (mode : before.mode = other.mode) (clear : SensesClear s)
    (notDue : s.commitDue s.reg.number = false)
    (ahead : NextAhead s.web ((s.missing missed).withMarkEvent kind m err row).reg) :
    finishDrive before (afterMark (takeMark (row.event kind m err missed) s)) =
      refreshFilters other (receiveMark (s.markRecord kind m err row)
        ((s.missing missed).withMarkEvent kind m err row)) := by
  have quiet : SensesClear (afterMark (takeMark (row.event kind m err missed) s)) :=
    clear.of_senses ((afterMark_frame _).1.trans (takeMark_frame _ s).1)
      ((afterMark_internal _).enabled.trans (takeMark_internal _ s).enabled)
  rw [finishDrive_of_noOverload quiet.not_overloaded, afterMark_takeMark notDue ahead, refreshFilters_before act mode]

/-! ## The rows (R18 to R24) -/

theorem Mode.takesMarks_of {m : Mode} (marks : m = .run ∨ m = .dry) : m.takesMarks = true := m.takesMarks_iff.mpr marks

theorem exec_qualificationPoint {s : State} {c : Candidate} (marks : s.mode.takesMarks = true)
    (candidate : s.reg.candidate = some c) (reached : c.qualification.reached = true) :
    exec .qualificationPoint s = .next (qualifiedMark c.position (s.setReg { s.reg with candidate := none })) := by
  simp [exec, execQualificationPoint, candidate, marks, reached]

theorem exec_virtualMarkTarget {s : State} {e : PosEvent} (marks : s.mode.takesMarks = true)
    (target : s.reg.virtualTarget = some e) (reached : e.reached = true) :
    exec .virtualMarkTarget s = .next (finishDrive s (afterMark (takeVirtual e s))) := by
  simp [exec, execVirtualMarkTarget, target, marks, reached]

theorem exec_windowExpiry {s : State} {w : MarkWindow} (marks : s.mode.takesMarks = true)
    (window : s.reg.window = some w) (opened : w.status = .opened) (reached : w.expiry.reached = true) :
    exec .windowExpiry s = .next (if w.holdsFor s.reg.candidate then holdWindow w s
      else finishDrive s (afterMark (expireNow w s))) := by
  simp [exec, execWindowExpiry, window, marks, opened, reached]

theorem qualifiedMark_of_search {s : State} (search : s.reg.state = .search) (m : Pos) :
    qualifiedMark m s = finishDrive s (afterMark (takeMark ((markRow s.profile s.reg 0).event .real m none false) s)) := by
  unfold qualifiedMark
  rw [search, ← markInSearch_eq search]

theorem qualifiedMark_of_accepts {s : State} {w : MarkWindow} {m : Pos} (tracking : s.reg.state ≠ .search)
    (window : s.reg.window = some w) (accepts : w.accepts m = true) :
    qualifiedMark m s = finishDrive s (afterMark (takeMark
      ((markRow s.profile s.reg (signedDiff m w.expected)).event .real m (some (signedDiff m w.expected)) false) s)) := by
  unfold qualifiedMark
  rw [← markInWindow_eq tracking, window]
  cases state : s.reg.state with
  | search => exact absurd state tracking
  | locking | locked | coasting => exact if_pos accepts

theorem qualifiedMark_of_stray {s : State} {m : Pos} (tracking : s.reg.state ≠ .search)
    (stray : ∀ w ∈ s.reg.window, w.accepts m = false) : qualifiedMark m s = strayMark s := by
  unfold qualifiedMark
  cases state : s.reg.state with
  | search => exact absurd state tracking
  | locking | locked | coasting =>
    cases window : s.reg.window with
    | none => rfl
    | some w => exact if_neg (by simp [stray w window])

theorem accepts_iff (w : MarkWindow) (m : Pos) : w.accepts m = true ↔
    w.status ≠ .armed ∧ atOrBeyond m w.opening.target = true ∧ atOrBeyond w.expiry.target m = true := by
  simp [MarkWindow.accepts, MarkWindow.within]

theorem holdsFor_iff (w : MarkWindow) (c : Option Candidate) : w.holdsFor c = true ↔
    ∃ d ∈ c, atOrBeyond d.position w.opening.target = true ∧ atOrBeyond w.expiry.target d.position = true := by
  cases c <;> simp [MarkWindow.holdsFor, MarkWindow.within]

theorem expireNow_eq (w : MarkWindow) (s : State) : expireNow w s =
    takeMark ((expiryRow s.profile s.reg).event .coasted w.expected none true)
      (s.setReg { s.reg with windowCounter := 0 }) :=
  congrArg (fun m => takeMark m (s.setReg { s.reg with windowCounter := 0 })) (expiryEvent_eq s w.expected)

/-- Settles O13: both events are mark events of the row of SEARCH. -/
theorem searchTakesMarksAndVirtualMarks : Obligations.SearchTakesMarksAndVirtualMarks := by
  intro s running search notDue clear
  have marks := Mode.takesMarks_of running
  refine ⟨fun c candidate reached => ?_, fun e target reached => ?_⟩
  · intro u row t ahead
    rw [exec_qualificationPoint marks candidate reached, qualifiedMark_of_search (s := u) search]
    exact congrArg Host.Outcome.next (finish_mark (s := u) (missed := false) rfl rfl clear notDue ahead)
  · intro row t ahead
    rw [exec_virtualMarkTarget marks target reached, takeVirtual, virtualEvent_eq]
    exact congrArg Host.Outcome.next (finish_mark (missed := false) rfl rfl clear notDue ahead)

/-- Settles O14: an accepted mark is a mark event of its row, any other is only counted. -/
theorem qualifiedMarkMeetsItsWindow : Obligations.QualifiedMarkMeetsItsWindow := by
  intro s running tracking c candidate reached u accepts
  have marks := Mode.takesMarks_of running
  rw [exec_qualificationPoint marks candidate reached]
  refine ⟨fun w window accepted notDue clear => ?_, fun stray => ?_⟩
  · intro e row t ahead
    rw [qualifiedMark_of_accepts (s := u) tracking window ((accepts_iff w _).mpr accepted)]
    exact congrArg Host.Outcome.next (finish_mark (s := u) (missed := false) rfl rfl clear notDue ahead)
  · rw [qualifiedMark_of_stray (s := u) tracking fun w window =>
      Bool.eq_false_iff.mpr (mt (accepts_iff w _).mp (stray w window)), strayMark, satInc_eq]
    rfl

/-- Settles O16: a candidate within the bounds holds the window; otherwise the expiry is a coasted mark event at E. -/
theorem expiryIsHeldOrCoasts : Obligations.ExpiryIsHeldOrCoasts := by
  intro s running w window opened reached inside
  rw [exec_windowExpiry (Mode.takesMarks_of running) window opened reached]
  refine ⟨fun held => ?_, fun free _ notDue clear => ?_⟩
  · rw [if_pos ((holdsFor_iff w _).mpr held)]
    rfl
  · intro u row t ahead
    have missed : (s.setReg { s.reg with windowCounter := 0 }).missing true = u := by
      rw [State.missing, if_pos rfl, satInc_eq]
      rfl
    rw [if_neg (mt (holdsFor_iff w _).mp free), expireNow_eq]
    refine congrArg Host.Outcome.next (.trans (finish_mark (other := s) (missed := true) rfl rfl clear notDue ?_) ?_)
    all_goals rw [missed]
    · exact ahead
    · rfl

theorem expireIfHeld_of_held {s : State} {w : MarkWindow} (window : s.reg.window = some w) (held : w.status = .held) :
    expireIfHeld s = finishDrive s (afterMark (expireNow w s)) := by
  unfold expireIfHeld
  rw [window]
  exact if_pos held

/-- The state that a short mark leaves behind, its window apart (R15). -/
def State.shortMarked (s : State) : State :=
  (s.setReg { s.reg with candidate := none }).setCnt { s.cnt with shortMarks := satInc s.cnt.shortMarks }

theorem shortMark_of_held {s : State} {w : MarkWindow} (candidate : s.reg.candidate ≠ none)
    (window : s.reg.window = some w) (held : w.status = .held) :
    shortMark s = finishDrive s.shortMarked (afterMark (expireNow w s.shortMarked)) := by
  obtain ⟨c, candidate⟩ := Option.ne_none_iff_exists'.mp candidate
  rw [shortMark, candidate]
  exact expireIfHeld_of_held (s := s.shortMarked) window held

/-- Settles O17: the short mark is counted, and the expiry that waited for it is a coasted mark event at E. -/
theorem shortMarkReleasesTheHeldExpiry : Obligations.ShortMarkReleasesTheHeldExpiry := by
  intro s _ _ level candidate w window held notDue clear u row t ahead
  let pins : Pins := { s.pins with mark := if s.profile.markLevel = .high then .low else .high }
  have clear' : SensesClear (s.setPins pins).shortMarked := fun o member => by
    have absent := clear o member
    cases o <;> exact absent
  have missed : ((s.setPins pins).shortMarked.setReg
      { (s.setPins pins).shortMarked.reg with windowCounter := 0 }).missing true = u := by
    rw [State.missing, if_pos rfl, State.shortMarked, satInc_eq, satInc_eq]
    rfl
  rw [exec_markTrailingEdge, if_pos level, shortMark_of_held (s := s.setPins pins) candidate window held, expireNow_eq]
  refine congrArg Host.Outcome.next (.trans (finish_mark (other := s) (missed := true) rfl rfl clear' notDue ?_) ?_)
  all_goals rw [missed]
  · exact ahead
  · rfl

end Sys2Proof.Machine

/-!
PROOFS. The commit that comes to its point with a mark event (R12, R28, R31, R183): what the event itself leaves, and that the
events taken after it in the same row, and the latches at its end, leave it so.
-/

namespace Sys2Proof.Machine

/-! ## A commit applied -/

theorem Internal.commitApplied_kept {s t : State} (work : Internal s t) (set : s.flag .line .commitApplied = true) :
    t.flag .line .commitApplied = true :=
  ((work.links .line).kept _ set).resolve_right (by decide)

theorem applyToCandidate_filter (old : Profile) (s : State) :
    (applyToCandidate old s).reg.pEff = s.reg.pEff ∧ (applyToCandidate old s).reg.lastReal = s.reg.lastReal := by
  unfold applyToCandidate
  split <;> exact ⟨rfl, rfl⟩

theorem applyCommit_prof (s : State) :
    (applyCommit s).prof = { s.prof with active := s.prof.pending, commit := none } := by
  simp [applyCommit]

theorem applyCommit_flag (s : State) : (applyCommit s).flag .line .commitApplied = true := by
  let raised := raiseEvent .commitApplied (s.setProf { s.prof with active := s.prof.pending, commit := none })
  have set : raised.flag .line .commitApplied = true := (or_bit_getLsbD _ .commitApplied _).mpr (.inr rfl)
  have work : Internal raised (applyCommit s) :=
    .after (changeMasks_internal _ _ _) (.after (applyToCandidate_internal _ _) (applyToRepeatLength_internal _ _))
  exact work.commitApplied_kept set

/-- A new P_nom restarts the repeat length (R31). -/
theorem applyCommit_filter {s : State} (moved : s.prof.pending.pNom ≠ s.prof.active.pNom) :
    (applyCommit s).reg.pEff = s.prof.pending.pNom * 256 ∧ (applyCommit s).reg.lastReal = none := by
  let t := raiseEvent .commitApplied (s.setProf { s.prof with active := s.prof.pending, commit := none })
  have restarted : applyToRepeatLength s.profile t =
      t.setReg { t.reg with pEff := t.profile.pNom * 256, lastReal := none } := if_pos moved
  obtain ⟨pEff, lastReal⟩ := applyToCandidate_filter s.profile (applyToRepeatLength s.profile t)
  rw [restarted] at pEff lastReal
  have reg : (applyCommit s).reg = (applyToCandidate s.profile (applyToRepeatLength s.profile t)).reg :=
    (changeMasks_frame _ _ _).2.1
  rw [reg, restarted]
  exact ⟨pEff, lastReal⟩

/-! ## The entry to HALT (R187) -/

theorem enterHalt_of_halted {cause : HaltCause} {s : State} (halted : s.mode.isHalt = true) : enterHalt cause s = s :=
  if_pos halted

theorem enterHalt_of_running (cause : HaltCause) {s : State} (running : s.mode.isHalt = false) :
    (enterHalt cause s).prof = { s.prof with commit := none, mode := .halt cause } ∧
    (enterHalt cause s).reg = s.idleReg := by
  have entered : enterHalt cause s = _ := (enterHalt_eq cause s).trans (if_neg (by simp [running]))
  rw [entered]
  exact ⟨rfl, rfl⟩

/-! ## What an applied commit leaves, and what keeps it -/

/-- A commit to a profile stands applied; where it moved P_nom, SEARCH runs on its P_nom. -/
structure Applied (new : Profile) (moved : Prop) (t : State) : Prop where
  active : t.prof.active = new
  pending : t.prof.pending = new
  commit : t.prof.commit = none
  flag : t.flag .line .commitApplied = true
  search : moved → t.reg.pEff = new.pNom * 256 ∧ t.reg.window = none ∧ t.reg.state = .search

namespace Applied

variable {new : Profile} {moved : Prop} {s t : State}

theorem of_internal (applied : Applied new moved s) (work : Internal s t) (prof : t.prof = s.prof) (reg : t.reg = s.reg) :
    Applied new moved t where
  active := by rw [prof, applied.active]
  pending := by rw [prof, applied.pending]
  commit := by rw [prof, applied.commit]
  flag := work.commitApplied_kept applied.flag
  search m := by
    rw [reg]
    exact applied.search m

theorem enterHalt (applied : Applied new moved s) (cause : HaltCause) : Applied new moved (Machine.enterHalt cause s) := by
  cases mode : s.mode.isHalt with
  | true =>
    rw [enterHalt_of_halted mode]
    exact applied
  | false =>
    obtain ⟨prof, reg⟩ := enterHalt_of_running cause mode
    have flag := (enterHalt_internal cause s).commitApplied_kept applied.flag
    refine ⟨?_, ?_, ?_, flag, fun m => ?_⟩
    · rw [prof, applied.active]
    · rw [prof, applied.pending]
    · rw [prof]
    · rw [reg]
      exact ⟨(applied.search m).1, rfl, rfl⟩

theorem latchIfOverloaded (applied : Applied new moved s) (o : Output) :
    Applied new moved (Machine.latchIfOverloaded o s) := by
  unfold Machine.latchIfOverloaded
  split
  · cases o with
    | knife =>
      let stopped : State := s.setKnife { s.act.knife with drive := .latched, latch := some .overload }
      have latched : Applied new moved stopped := applied.of_internal (setKnife_internal s _) rfl rfl
      exact latched.enterHalt .knifeFault
    | gate l =>
      have work : Internal s (latchGate l .overload s) := latchOutput_internal (.gate l) .overload s
      obtain ⟨-, reg, -, -, prof, -⟩ := latchGate_frame l .overload s
      exact applied.of_internal work prof reg
    | pusher l =>
      have work : Internal s (latchPusher l .overload s) := latchOutput_internal (.pusher l) .overload s
      obtain ⟨-, reg, -, -, prof, -⟩ := latchPusher_frame l .overload s
      exact applied.of_internal work prof reg
  · exact applied

theorem finishDrive (applied : Applied new moved t) (before : State) : Applied new moved (Machine.finishDrive before t) := by
  have refreshed : Applied new moved (refreshFilters before t) :=
    applied.of_internal (refreshFilters_internal before t) (by simp) (by simp)
  have fold (os : List Output) (u : State) (h : Applied new moved u) :
      Applied new moved (os.foldl (fun s o => Machine.latchIfOverloaded o s) u) := by
    induction os generalizing u with
    | nil => exact h
    | cons o os ih => exact ih _ (h.latchIfOverloaded o)
  exact fold _ _ (refreshed.of_internal (drawOrder_internal _ _ _) (by simp) (by simp))

end Applied

/-! ## The events taken after the mark event -/

theorem commitDue_of_none {s : State} (noCommit : s.prof.commit = none) (n : RepeatNo) : s.commitDue n = false := by
  rw [State.commitDue, noCommit]

theorem takeMark_of_noCommit {m : MarkEvent} {s : State} (noCommit : s.prof.commit = none) :
    (takeMark m s).prof = s.prof ∧ (takeMark m s).reg =
      (s.reg.afterEvent s.profile m.kind m.position m.error m.row).armedAt s.web := by
  have notDue := commitDue_of_none noCommit s.reg.number
  obtain ⟨-, -, prof, -⟩ := missing_kept s m.missed
  rw [takeMark_eq, if_neg (by simp [notDue]), markedFor_of_notDue notDue]
  refine ⟨?_, ?_⟩
  · simp [prof]
  · simp

theorem nextReached_cases {s : State} {take : State → State} (next : nextReached s = some take) :
    (∃ e, s.reg.virtualTarget = some e ∧ take = takeVirtual e) ∨
    ∃ w, s.reg.window = some w ∧ (take = openWindow w ∨ take = takeExpiry w) := by
  unfold nextReached at next
  split at next
  · next _ _ e target =>
    split at next
    · cases next
      exact .inl ⟨e, target, rfl⟩
    · cases next
  · next _ w _ window =>
    refine .inr ⟨w, window, ?_⟩
    split at next
    · split at next
      · cases next
        exact .inl rfl
      · cases next
    · split at next
      · cases next
        exact .inr rfl
      · cases next
    · cases next
  · cases next

/-- Without a waiting commit the events of a row leave the profile unit as it is. -/
theorem nextReached_prof {s : State} {take : State → State} (next : nextReached s = some take)
    (noCommit : s.prof.commit = none) : (take s).prof = s.prof := by
  rcases nextReached_cases next with ⟨e, -, rfl⟩ | ⟨w, -, rfl | rfl⟩
  · exact (takeMark_of_noCommit noCommit).1
  · simp [openWindow]
  · unfold takeExpiry
    split
    · simp [holdWindow]
    · exact (takeMark_of_noCommit (s := s.setReg { s.reg with windowCounter := 0 }) noCommit).1

theorem takePassed_prof (k : Nat) {s : State} (noCommit : s.prof.commit = none) : (takePassed k s).prof = s.prof := by
  induction k generalizing s with
  | zero => rfl
  | succ k ih =>
    unfold takePassed
    split
    · split
      · next take next =>
        have kept := nextReached_prof next noCommit
        rw [ih (by rw [kept, noCommit]), kept]
      · rfl
    · rfl

theorem Applied.takePassed {new : Profile} {moved : Prop} (k : Nat) {s : State} (applied : Applied new moved s) :
    Applied new moved (Machine.takePassed k s) := by
  induction k generalizing s with
  | zero => exact applied
  | succ k ih =>
    unfold Machine.takePassed
    split
    · split
      · next take next =>
        have kept := nextReached_prof next applied.commit
        refine ih ⟨?_, ?_, ?_, (nextReached_internal next s).commitApplied_kept applied.flag, fun m => ?_⟩
        · rw [kept, applied.active]
        · rw [kept, applied.pending]
        · rw [kept, applied.commit]
        · obtain ⟨pEff, window, search⟩ := applied.search m
          rcases nextReached_cases next with ⟨e, -, rfl⟩ | ⟨w, some, -⟩
          · rw [takeVirtual, (takeMark_of_noCommit applied.commit).2]
            exact ⟨pEff, rfl, rfl⟩
          · rw [window] at some
            cases some
      · exact applied
    · exact applied

/-! ## The mark event of the commit's point -/

theorem commitAtMark_leaves (s : State) :
    (commitAtMark s).prof = { s.prof with active := s.prof.pending, commit := none } ∧
    (commitAtMark s).flag .line .commitApplied = true ∧
    (s.prof.pending.pNom ≠ s.prof.active.pNom → (commitAtMark s).reg.pEff = s.prof.pending.pNom * 256 ∧
      (commitAtMark s).reg.lastReal = none ∧ (commitAtMark s).reg.state = .search) := by
  have prof := applyCommit_prof s
  have profile : (applyCommit s).profile = s.prof.pending := congrArg ProfileUnit.active prof
  unfold commitAtMark
  dsimp only
  rw [profile]
  split
  · exact ⟨prof, applyCommit_flag s, fun moved =>
      ⟨(applyCommit_filter moved).1, (applyCommit_filter moved).2, rfl⟩⟩
  · next still => exact ⟨prof, applyCommit_flag s, fun moved => absurd moved still⟩

theorem filteredLength_of_noReal {r : Registration} {p : Profile} {m : MarkEvent} (noReal : r.lastReal = none) :
    r.filteredLength p m = r.pEff := by
  unfold Registration.filteredLength Registration.unclamped
  rw [noReal]
  cases m.error <;> rfl

theorem markedFor_applied {m : MarkEvent} {s : State} (due : s.commitDue s.reg.number = true) :
    Applied s.prof.pending (s.prof.pending.pNom ≠ s.prof.active.pNom) (markedFor m s) ∧
    (markedFor m s).mode = s.mode ∧ (markedFor m s).pos = s.pos := by
  have opened : classified m s = commitAtMark (classifyAndNumber m s) := if_pos due
  have before : (classifyAndNumber m s).prof = s.prof ∧ (classifyAndNumber m s).pos = s.pos := by simp
  obtain ⟨profBefore, posBefore⟩ := before
  obtain ⟨prof, flag, search⟩ := commitAtMark_leaves (classifyAndNumber m s)
  rw [profBefore] at prof search
  have pos : (commitAtMark (classifyAndNumber m s)).pos = s.pos := (commitAtMark_frame _).1.trans posBefore
  rw [markedFor, opened, recorded_eq]
  generalize commitAtMark (classifyAndNumber m s) = t at prof flag search pos ⊢
  refine ⟨⟨?_, ?_, ?_, ?_, fun moved => ?_⟩, ?_, ?_⟩
  · simp [prof]
  · simp [prof]
  · simp [prof]
  · exact (Internal.after (raiseIf_internal _ _ _) (setReg_internal t _)).commitApplied_kept flag
  · obtain ⟨pEff, noReal, state⟩ := search moved
    simp [state, pEff, filteredLength_of_noReal noReal]
  · simp [State.mode, prof]
  · simp [pos]

/-- A mark event at the commit's point: the commit stands applied, and the deficits decide between HALT and the mode. -/
theorem takeMark_applied {m : MarkEvent} {s : State} (due : s.commitDue s.reg.number = true)
    (marks : s.mode.takesMarks = true) :
    Applied s.prof.pending (s.prof.pending.pNom ≠ s.prof.active.pNom) (takeMark m s) ∧
    (takeMark m s).mode =
      if s.prof.pending.reverseLimit < s.webDeficit then .halt .reverseWeb
      else if s.prof.pending.reverseLimit < s.beltDeficit then .halt .reverseBelt else s.mode := by
  obtain ⟨applied, mode, pos⟩ := markedFor_applied (m := m) due
  have work := receiveMark_internal (handedRecord m s) (markedFor m s)
  have frame : (receiveMark (handedRecord m s) (markedFor m s)).prof = (markedFor m s).prof ∧
      (receiveMark (handedRecord m s) (markedFor m s)).reg = (markedFor m s).reg ∧
      (receiveMark (handedRecord m s) (markedFor m s)).pos = (markedFor m s).pos := by simp
  obtain ⟨profKept, regKept, posKept⟩ := frame
  have handed := applied.of_internal work profKept regKept
  have modeKept : (receiveMark (handedRecord m s) (markedFor m s)).mode = s.mode :=
    (congrArg ProfileUnit.mode profKept).trans mode
  have posKept := posKept.trans pos
  have profile : (receiveMark (handedRecord m s) (markedFor m s)).profile = s.prof.pending := handed.active
  rw [takeMark_eq, if_pos due]
  generalize receiveMark (handedRecord m s) (markedFor m s) = t at handed modeKept posKept profile ⊢
  refine ⟨?_, ?_⟩
  · rcases testDeficits_cases t with same | ⟨cause, same⟩
    · rw [same]
      exact handed
    · rw [same]
      exact handed.enterHalt cause
  · have tracks : t.mode.tracks = true := by
      rw [modeKept]
      cases mode : s.mode <;> simp_all [Mode.takesMarks, Mode.tracks]
    have running : t.mode.isHalt = false := by
      rw [modeKept]
      cases mode : s.mode <;> simp_all [Mode.takesMarks, Mode.isHalt]
    have halted (cause : HaltCause) : (enterHalt cause t).mode = .halt cause := by
      rw [State.mode, (enterHalt_of_running cause running).1]
    unfold testDeficits
    rw [if_pos tracks, profile, posKept, ← modeKept]
    change (if s.prof.pending.reverseLimit < s.webDeficit then enterHalt .reverseWeb t
      else if s.prof.pending.reverseLimit < s.beltDeficit then enterHalt .reverseBelt t else t).mode = _
    by_cases web : s.prof.pending.reverseLimit < s.webDeficit
    · rw [if_pos web, if_pos web]
      exact halted .reverseWeb
    · rw [if_neg web, if_neg web]
      by_cases belt : s.prof.pending.reverseLimit < s.beltDeficit
      · rw [if_pos belt, if_pos belt]
        exact halted .reverseBelt
      · rw [if_neg belt, if_neg belt]

/-! ## The rows that bring a mark event -/

/-- A row hands a state to its mark event that differs from the one before only in its registration, its pins' mark level
and its mark counts. -/
structure HandsOn (s u : State) : Prop where
  prof : u.prof = s.prof
  pos : u.pos = s.pos
  lanes : u.lanes = s.lanes
  log : u.log = s.log
  act : u.act = s.act
  number : u.reg.number = s.reg.number
  senses : SensesClear s → SensesClear u

theorem HandsOn.refl (s : State) : HandsOn s s := ⟨rfl, rfl, rfl, rfl, rfl, rfl, id⟩

theorem HandsOn.setReg {s u : State} (hands : HandsOn s u) {r : Registration} (number : r.number = u.reg.number) :
    HandsOn s (u.setReg r) :=
  ⟨hands.prof, hands.pos, hands.lanes, hands.log, hands.act, number.trans hands.number, hands.senses⟩

/-- The row's work is a mark event. -/
def BringsMark (c : Instr) (s : State) : Prop :=
  ∃ m u before, exec c s = .next (finishDrive before (afterMark (takeMark m u))) ∧ HandsOn s u

theorem expireNow_brings (w : MarkWindow) (s u before : State) {c : Instr}
    (answered : exec c s = .next (finishDrive before (afterMark (expireNow w u)))) (hands : HandsOn s u) :
    BringsMark c s :=
  ⟨expiryEvent u w.expected, u.setReg { u.reg with windowCounter := 0 }, before, answered, hands.setReg rfl⟩

theorem qualificationPoint_brings {s : State} {c : Candidate} (marks : s.mode.takesMarks = true)
    (candidate : s.reg.candidate = some c) (reached : c.qualification.reached = true)
    (place : s.reg.state = .search ∨ ∃ w, s.reg.window = some w ∧ w.accepts c.position = true) :
    BringsMark .qualificationPoint s := by
  have answered := exec_qualificationPoint marks candidate reached
  by_cases search : s.reg.state = .search
  · rw [qualifiedMark_of_search (s := s.setReg { s.reg with candidate := none }) search] at answered
    exact ⟨_, s.setReg { s.reg with candidate := none }, _, answered, (HandsOn.refl s).setReg rfl⟩
  · obtain ⟨w, window, accepts⟩ := place.resolve_left search
    rw [qualifiedMark_of_accepts (s := s.setReg { s.reg with candidate := none }) search window accepts] at answered
    exact ⟨_, s.setReg { s.reg with candidate := none }, _, answered, (HandsOn.refl s).setReg rfl⟩

theorem markTrailingEdge_brings {s : State} {w : MarkWindow} (level : s.pins.mark = s.profile.markLevel)
    (candidate : s.reg.candidate ≠ none) (window : s.reg.window = some w) (held : w.status = .held) :
    BringsMark .markTrailingEdge s := by
  let pins : Pins := { s.pins with mark := if s.profile.markLevel = .high then .low else .high }
  have answered := exec_markTrailingEdge s
  rw [if_pos level, shortMark_of_held (s := s.setPins pins) candidate window held] at answered
  refine expireNow_brings w s _ _ answered ⟨rfl, rfl, rfl, rfl, rfl, rfl, fun clear o member => ?_⟩
  have absent := clear o member
  cases o <;> exact absent

/-- Every row that the table of mark events names brings one. -/
theorem marksAt_brings {c : Instr} {s : State} (row : s.marksAt c = true) : BringsMark c s := by
  unfold State.marksAt at row
  rw [Bool.and_eq_true] at row
  obtain ⟨marks, row⟩ := row
  split at row
  · obtain ⟨e, target, reached⟩ := (Option.any_eq_true _ _).mp row
    exact ⟨virtualEvent s e.target, s, s, exec_virtualMarkTarget marks target reached, .refl s⟩
  · obtain ⟨c, candidate, test⟩ := (Option.any_eq_true _ _).mp row
    rw [Bool.and_eq_true, Bool.or_eq_true, beq_iff_eq] at test
    obtain ⟨reached, place⟩ := test
    exact qualificationPoint_brings marks candidate reached (place.imp_right (Option.any_eq_true _ _).mp)
  · obtain ⟨w, window, test⟩ := (Option.any_eq_true _ _).mp row
    simp only [Bool.and_eq_true, beq_iff_eq] at test
    obtain ⟨⟨opened, reached⟩, free⟩ := test
    have notHeld : w.holdsFor s.reg.candidate = false := by
      cases candidate : s.reg.candidate with
      | none => rfl
      | some c =>
        have outside : w.bounds c.position = false := by simpa [candidate] using free
        exact outside
    have answered := exec_windowExpiry marks window opened reached
    rw [notHeld] at answered
    exact expireNow_brings w s s s answered (.refl s)
  · simp only [Bool.and_eq_true, beq_iff_eq] at row
    obtain ⟨⟨level, candidate⟩, window⟩ := row
    obtain ⟨w, window, held⟩ := (Option.any_eq_true _ _).mp window
    exact markTrailingEdge_brings level (Option.isSome_iff_ne_none.mp candidate) window (beq_iff_eq.mp held)
  · cases row

/-- Settles O18: the mark event applies the commit, and what follows in its row keeps it applied. -/
theorem dueCommitIsAppliedAtTheMarkEvent : Obligations.DueCommitIsAppliedAtTheMarkEvent := by
  intro c s marksAt due new
  have marks : s.mode.takesMarks = true := by
    unfold State.marksAt at marksAt
    exact (Bool.and_eq_true _ _ ▸ marksAt).1
  obtain ⟨m, u, before, answered, prof, pos, -, -, -, number, senses⟩ := marksAt_brings marksAt
  have dueU : u.commitDue u.reg.number = true := by rw [number, State.commitDue, prof]; exact due
  obtain ⟨applied, mode⟩ := takeMark_applied (m := m) dueU (by rw [State.mode, prof]; exact marks)
  have passed := applied.takePassed Config.passedEventLimit
  have finished := passed.finishDrive before
  rw [prof] at finished
  refine ⟨_, answered, finished.active, finished.pending, finished.commit, finished.flag, finished.search, fun clear => ?_⟩
  have quiet : SensesClear (afterMark (takeMark m u)) := (senses clear).of_senses
    ((afterMark_frame _).1.trans (takeMark_frame m u).1)
    ((afterMark_internal _).enabled.trans (takeMark_internal m u).enabled)
  have kept : (finishDrive before (afterMark (takeMark m u))).prof = (takeMark m u).prof := by
    rw [finishDrive_of_noOverload quiet.not_overloaded]
    exact (refreshFilters_frame _ _).2.2.2.2.2.2.1.trans (takePassed_prof _ applied.commit)
  rw [State.mode, kept]
  refine mode.trans ?_
  have deficits : u.webDeficit = s.webDeficit ∧ u.beltDeficit = s.beltDeficit := by
    simp [State.webDeficit, State.beltDeficit, State.web, State.belt, pos]
  rw [prof, deficits.1, deficits.2, State.mode, prof]
  rfl

end Sys2Proof.Machine

/-!
PROOFS. SET_MODE and COMMIT_PROFILE (R178, R182 to R186): the requests by their tests, and the state of each that is taken.
-/

namespace Sys2Proof.Machine

/-! ## Filter times depend on the outputs alone -/

theorem restartFilters_act (p : Output → Bool) (os : List Output) {s t : State} (act : s.act = t.act) :
    (restartFilters p os s).act = (restartFilters p os t).act := by
  induction os generalizing s t with
  | nil => exact act
  | cons o os ih =>
    have written : (s.setFilter o .settling).act = (t.setFilter o .settling).act := by
      cases o <;> simp [State.setFilter, State.setKnife, State.setGate, State.setPusher, State.gate, State.pusher, act]
    rw [restartFilters_cons, restartFilters_cons]
    split
    · exact ih written
    · exact ih act

/-- Two states with the same outputs, driven in their modes alike, restart the same filter times. -/
theorem refreshFilters_act {s t : State} (act : s.act = t.act) (gates : s.mode.drivesGates = t.mode.drivesGates) :
    (refreshFilters s s).act = (refreshFilters t t).act := by
  have driven : (fun o => s.driven o || s.driven o) = fun o => t.driven o || t.driven o := by
    funext o
    cases o <;> simp [State.driven, Actuators.driven, act, gates]
  rw [refreshFilters_eq, refreshFilters_eq, driven]
  exact restartFilters_act _ _ act

/-! ## SET_MODE (R185, R186, R172) -/

theorem exec_setMode {s : State} (frames : FramesWhole s) (target : Nat) :
    exec (.setMode .line target) s = .next (changeMode .line target s) :=
  taken_of_whole _ (frames.link .line) (by decide)

theorem changeMode_of_taken {target : Nat} {s t : State} (low : target ≤ 2) (next : modeAfter target s = some t)
    (quiet : SensesClear t) :
    changeMode .line target s = (refreshFilters s t).reply .line .setMode .ok .none := by
  unfold changeMode
  rw [if_neg (not_lt.mpr low), next]
  exact congrArg (fun u => u.reply .line .setMode .ok .none) (finishDrive_of_noOverload quiet.not_overloaded)

theorem changeMode_of_refused {target : Nat} {s : State} (low : target ≤ 2) (next : modeAfter target s = none) :
    changeMode .line target s = s.refuse .line .setMode .mode := by
  unfold changeMode
  rw [if_neg (not_lt.mpr low), next]

/-- The entry to RUN or DRY (R9, R32). -/
theorem startRun_eq {s : State} (pos : 0 < s.profile.pNom) (near : s.profile.pNom < 2 ^ 31) (m : Mode) :
    startRun m s = { s with
      prof := { s.prof with mode := m }
      pos := s.levelled
      reg := { s.reg with virtualTarget := some ⟨s.web + BitVec.ofNat 32 s.profile.pNom, false⟩ } } := by
  unfold startRun
  rw [arm_ahead pos near]
  rfl

/-- The entry to DRAINING (R186, R32). -/
def State.drainingIn (s : State) (isDry : Bool) : State := { s with
  prof := { s.prof with mode := .draining isDry }
  reg := { s.reg with window := none, virtualTarget := none, candidate := none, lastReal := none } }

/-- The profile unit and the registration that DRAINING moves are those that SETUP sets again. -/
theorem drainingIn_afterSetup {s : State} {isDry : Bool} (kind : s.mode.drivesGates = !isDry) :
    (s.drainingIn isDry).afterSetup = s.afterSetup := by
  have act : (refreshFilters (s.drainingIn isDry) (s.drainingIn isDry)).act = (refreshFilters s s).act :=
    refreshFilters_act rfl kind.symm
  unfold State.afterSetup
  rw [act]
  rfl

theorem startDraining_eq {s : State} {isDry : Bool} (unlatched : isDry = true ∨ s.act.knife.latch = none) :
    startDraining isDry s = endDraining (s.drainingIn isDry) := by
  cases isDry with
  | true => rfl
  | false =>
    have unlatched : s.act.knife.latch = none := unlatched.resolve_left Bool.false_ne_true
    have still : haltIfLatched (s.drainingIn false) = s.drainingIn false := by
      refine if_neg ?_
      rw [State.knifeLatched, show (s.drainingIn false).act.knife.latch = none from unlatched]
      exact Bool.false_ne_true
    exact congrArg endDraining still

theorem drivesGates_of_stopping {s : State} (kind : s.mode = .dry ∨ s.mode = .run ∧ s.act.knife.latch = none) :
    s.mode.drivesGates = !(s.mode == .dry) := by
  rcases kind with dry | ⟨run, -⟩
  · rw [dry]
    rfl
  · rw [run]
    rfl

/-- STOP in RUN without a knife latch, or in DRY (R186). -/
theorem modeAfter_stop {s : State} (kind : s.mode = .dry ∨ s.mode = .run ∧ s.act.knife.latch = none) :
    modeAfter 2 s = some (endDraining (s.drainingIn (s.mode == .dry))) := by
  unfold modeAfter
  rcases kind with dry | ⟨run, free⟩
  · rw [dry]
    exact congrArg some (startDraining_eq (.inl rfl))
  · rw [run]
    exact congrArg some (startDraining_eq (.inr free))

/-- Settles O45: the mode and the target select the row of the table. -/
theorem modeRequestsFollowTheTable : Obligations.ModeRequestsFollowTheTable := by
  intro target s frames clear answer becomes started draining empty
  have answered : answer = .next (changeMode .line target s) := exec_setMode frames target
  have taken {t : State} (low : target ≤ 2) (next : modeAfter target s = some t) (pins : t.pins = s.pins)
      (enabled : t.act.enabled = s.act.enabled) : becomes t :=
    answered.trans (congrArg Host.Outcome.next (changeMode_of_taken low next (clear.of_senses pins enabled)))
  have refused (low : target ≤ 2) (next : modeAfter target s = none) :
      answer = .next (s.refuse .line .setMode .mode) :=
    answered.trans (congrArg Host.Outcome.next (changeMode_of_refused low next))
  refine ⟨fun beyond => ?_, fun low other => ?_, fun stop other => ?_, fun stop drains => ?_,
    fun pos near setup => ⟨fun run free => ?_, fun run latched => ?_, fun dry => ?_⟩, fun stop kind => ⟨?_, ?_⟩⟩
  · exact answered.trans (congrArg Host.Outcome.next (if_pos beyond))
  · have notStop : target ≠ 2 := by omega
    refine refused (by omega) ?_
    unfold modeAfter
    cases mode : s.mode with
    | setup => exact absurd mode other
    | run | dry | draining _ => exact if_neg notStop
    | halt _ => rfl
  · subst stop
    refine refused le_rfl ?_
    unfold modeAfter
    cases mode : s.mode with
    | setup | halt _ => rfl
    | run | dry | draining _ => simp [mode, Mode.isHalt] at other
  · subst stop
    refine taken le_rfl ?_ rfl rfl
    unfold modeAfter
    cases mode : s.mode with
    | draining _ => rfl
    | setup | halt _ | run | dry => simp [mode, Mode.isDraining] at drains
  · subst run
    have still : haltIfLatched (startRun .run s) = startRun .run s := if_neg (by simp [State.knifeLatched, startRun, free])
    refine taken (by decide) ?_ rfl rfl
    unfold modeAfter
    rw [setup, still, startRun_eq pos near]
    rfl
  · subst run
    have halts : haltIfLatched (startRun .run s) = enterHalt .knifeFault (startRun .run s) :=
      if_pos (by simp [State.knifeLatched, startRun, Option.isSome_iff_ne_none, latched])
    rw [startRun_eq pos near] at halts
    refine taken (by decide) ?_ ?_ ?_
    · unfold modeAfter
      rw [setup, startRun_eq pos near, halts, enterHalt_eq]
      rfl
    · rw [← enterHalt_eq, (enterHalt_frame _ _).2.2.1]
    · rw [← enterHalt_eq]
      exact (enterHalt_internal _ _).enabled
  · subst dry
    refine taken (by decide) ?_ rfl rfl
    unfold modeAfter
    rw [setup]
    exact congrArg some (startRun_eq pos near .dry)
  all_goals
    intro work
    subst stop
    have next := modeAfter_stop kind
    have ends : (s.drainingIn (s.mode == .dry)).drainEnds = true ↔ empty := by
      rw [drainEnds_iff]
      exact and_iff_right rfl
    rw [endDraining] at next
  · rw [if_neg (mt ends.mp work)] at next
    exact taken le_rfl next rfl rfl
  · rw [if_pos (ends.mpr work), enterSetup_eq, drainingIn_afterSetup (drivesGates_of_stopping kind)] at next
    refine taken le_rfl next ?_ ?_
    · rw [(raiseEvent_frame _ _).2.2.2.2.2.2.2.2.1]
      rfl
    · rw [(raiseEvent_frame _ _).2.2.2.2.2.2.1]
      exact (refreshFilters_internal s s).enabled

end Sys2Proof.Machine

/-!
PROOFS. COMMIT_PROFILE and CANCEL_COMMIT (R178, R182 to R184): the tests in their order, and the commit applied at the request.
-/

namespace Sys2Proof.Machine

/-! ## The tests (R178) -/

theorem exec_commitProfile {s : State} (frames : FramesWhole s) (source : Nat) (n : RepeatNo) :
    exec (.commitProfile .line source n) s = .next (commitProfile .line source n s) :=
  taken_of_whole _ (frames.link .line) (by decide)

theorem exec_cancelCommit {s : State} (frames : FramesWhole s) :
    exec (.cancelCommit .line) s = .next (if s.prof.commit.isSome then (withdrawCommit s).reply .line .cancelCommit .ok .none
      else s.refuse .line .cancelCommit .unknown) :=
  taken_of_whole _ (frames.link .line) (by decide)

theorem commit_allowedOn_of_ne {k : StationLink} (other : k ≠ .line) :
    Request.commitProfile.allowedOn k = false ∧ Request.cancelCommit.allowedOn k = false := by
  cases k with
  | line => exact absurd rfl other
  | inspection => decide
  | delivery => decide

theorem sourceOf_of_beyond {source : Nat} (beyond : 3 < source) (n : RepeatNo) : sourceOf source n = none := by
  unfold sourceOf
  rw [if_neg (by omega), if_neg (by omega), if_neg (by omega), if_neg (by omega)]

/-- The place where a commit is to be applied, of a source that is not IMMEDIATE. -/
def waitingSource (source : Nat) (n : RepeatNo) : CommitSource :=
  if source = 1 then .nextMark else if source = 2 then .splice else .atRepeat n

/-- The operand that a source number below 4 gives. -/
def operandOf (source : Nat) (n : RepeatNo) : SourceOperand :=
  if source = 0 then .immediate else .waiting (waitingSource source n)

theorem sourceOf_of_low {source : Nat} (low : source ≤ 3) (n : RepeatNo) :
    sourceOf source n = some (operandOf source n) := by
  unfold sourceOf operandOf waitingSource
  by_cases zero : source = 0
  · simp [zero]
  · by_cases one : source = 1
    · simp [one]
    · by_cases two : source = 2
      · simp [two]
      · simp [show source = 3 by omega]

theorem operandOf_immediate (source : Nat) (n : RepeatNo) : operandOf source n = .immediate ↔ source = 0 := by
  unfold operandOf
  split <;> simp [*]

theorem repeatTaken_operandOf {source : Nat} (low : source ≤ 3) (n : RepeatNo) (s : State) :
    s.repeatTaken (operandOf source n) = true ↔ source = 3 ∧ s.classOf n ≠ .notYet := by
  unfold operandOf waitingSource
  by_cases zero : source = 0
  · simp [zero, State.repeatTaken]
  · by_cases one : source = 1
    · simp [one, State.repeatTaken]
    · by_cases two : source = 2
      · simp [two, State.repeatTaken]
      · simp [State.repeatTaken, show source = 3 by omega]

theorem repeatsInHand_iff (s : State) :
    s.repeatsInHand = true ↔ s.cut.schedule ≠ [] ∨ s.cut.queue ≠ [] ∨ s.map.records ≠ [] := by
  simp [State.repeatsInHand, State.pendingCuts, imp_iff_not_or, or_assoc]

theorem sameGeometry_iff (a b : Profile) : sameGeometry b a = true ↔
    a.gCam = b.gCam ∧ a.gGate = b.gGate ∧ a.gStack = b.gStack ∧ a.labelLength = b.labelLength ∧
    a.gatePre = b.gatePre ∧ a.gatePost = b.gatePost := by
  simp only [sameGeometry, Bool.and_eq_true, beq_iff_eq, and_assoc]
  constructor <;>
    exact fun ⟨gCam, gGate, gStack, label, gatePre, gatePost⟩ =>
      ⟨gCam.symm, gGate.symm, gStack.symm, label.symm, gatePre.symm, gatePost.symm⟩

/-- The tests of a source that is read, as the table of R178 has them. -/
theorem commitRefusal_eq {source : Nat} (low : source ≤ 3) (n : RepeatNo) (s : State) :
    commitRefusal (operandOf source n) s =
      if s.prof.commit ≠ none then some (.busy, .none)
      else if s.mode.isHalt = true then some (.mode, .none)
      else if source = 0 ∧ s.mode.tracks = true ∧ (s.cut.schedule ≠ [] ∨ s.cut.queue ≠ [] ∨ s.map.records ≠ []) then
        some (.state, .none)
      else if source = 3 ∧ s.classOf n ≠ .notYet then some (.range, .none)
      else match firstFailure s.prof.pending with
        | some field => some (.range, .fieldNamed field)
        | none => if source ≠ 0 ∧ ¬sameGeometry s.prof.pending s.prof.active = true then some (.geometry, .none) else none := by
  unfold commitRefusal
  refine if_congr (Option.isSome_iff_ne_none) rfl (if_congr Iff.rfl rfl (if_congr ?_ rfl (if_congr ?_ rfl ?_)))
  · rw [operandOf_immediate, repeatsInHand_iff]
  · exact repeatTaken_operandOf low n s
  · cases firstFailure s.prof.pending with
    | some f => rfl
    | none => exact if_congr (by simp [operandOf_immediate]) rfl rfl

/-! ## A commit applied with the same lanes (R183) -/

theorem changeMasks_same (m : LaneSet) (s : State) : changeMasks m m s = s := by
  have quiet (l : Lane) : s.contends m m l = false := by
    unfold State.contends
    cases LaneSet.has m l <;> rfl
  have still (l : Lane) (t : State) : changeMask m m l t = t := by
    unfold changeMask
    cases LaneSet.has m l <;> rfl
  have fold (ls : List Lane) : ls.foldl (fun t l => changeMask m m l t) s = s := by
    induction ls with
    | nil => rfl
    | cons l ls ih => rw [List.foldl_cons, still, ih]
  unfold changeMasks
  simp only [quiet, fold, List.filter_false]
  rfl

/-- The state of an applied commit, its lanes and its registration apart. -/
def State.committed (s : State) : State :=
  (raiseEvent .commitApplied s).setProf { s.prof with active := s.prof.pending, commit := none }

theorem applyToCandidate_eq (old : Profile) (s : State) : applyToCandidate old s = s.setReg { s.reg with
    candidate := if old.markLevel = s.profile.markLevel then s.reg.candidate else none } := by
  unfold applyToCandidate
  by_cases same : old.markLevel = s.profile.markLevel
  · rw [if_neg (not_not.mpr same.symm), if_pos same]
    rfl
  · rw [if_pos (Ne.symm same), if_neg same]

/-- What an applied commit leaves of the registration and the flags where the lanes stand. -/
theorem applyCommit_of_sameLanes {s : State} (lanes : s.prof.active.laneMask = s.prof.pending.laneMask) :
    applyCommit s =
      if s.prof.active.pNom = s.prof.pending.pNom then
        raiseIf (outsideBand s.prof.pending s.reg.pEff) .stretchLimit (s.committed.setReg { s.reg with
          candidate := if s.prof.active.markLevel = s.prof.pending.markLevel then s.reg.candidate else none
          pEff := clampToBand s.prof.pending s.reg.pEff })
      else s.committed.setReg { s.reg with
        candidate := if s.prof.active.markLevel = s.prof.pending.markLevel then s.reg.candidate else none
        pEff := s.prof.pending.pNom * 256
        lastReal := none } := by
  have masks : applyCommit s = changeMasks s.prof.active.laneMask
      (applyToCandidate s.prof.active (applyToRepeatLength s.prof.active s.committed)).profile.laneMask
      (applyToCandidate s.prof.active (applyToRepeatLength s.prof.active s.committed)) := rfl
  have profile : (applyToCandidate s.prof.active (applyToRepeatLength s.prof.active s.committed)).profile =
      s.prof.pending := by
    rw [State.profile]
    simp [State.committed]
  rw [masks, profile, ← lanes, changeMasks_same, applyToCandidate_eq]
  have kept : (applyToRepeatLength s.prof.active s.committed).profile = s.prof.pending := by
    rw [State.profile]
    simp [State.committed]
  rw [kept]
  by_cases same : s.prof.active.pNom = s.prof.pending.pNom
  · have clamped : applyToRepeatLength s.prof.active s.committed =
        raiseIf (outsideBand s.prof.pending s.reg.pEff) .stretchLimit
          (s.committed.setReg { s.reg with pEff := clampToBand s.prof.pending s.reg.pEff }) :=
      if_neg (not_not.mpr same.symm)
    rw [clamped, if_pos same]
    simp only [raiseIf_setReg, setReg_setReg, setReg_reg]
  · have restarted : applyToRepeatLength s.prof.active s.committed =
        s.committed.setReg { s.reg with pEff := s.prof.pending.pNom * 256, lastReal := none } :=
      if_pos (Ne.symm same)
    rw [restarted, if_neg same]
    rfl

/-! ## The commit at the request (R183, R184) -/

theorem applyCommit_applied (s : State) : Applied s.prof.pending False (applyCommit s) := by
  have prof := applyCommit_prof s
  refine ⟨?_, ?_, ?_, applyCommit_flag s, False.elim⟩ <;> rw [prof]

theorem Applied.takeMark {new : Profile} {s : State} (applied : Applied new False s) (m : MarkEvent) :
    Applied new False (Machine.takeMark m s) := by
  obtain ⟨prof, -⟩ := takeMark_of_noCommit (m := m) applied.commit
  refine ⟨?_, ?_, ?_, (takeMark_internal m s).commitApplied_kept applied.flag, False.elim⟩
  · rw [prof, applied.active]
  · rw [prof, applied.pending]
  · rw [prof, applied.commit]

theorem Applied.setReg {new : Profile} {s : State} (applied : Applied new False s) (r : Registration) :
    Applied new False (s.setReg r) :=
  ⟨applied.active, applied.pending, applied.commit, applied.flag, False.elim⟩

theorem Applied.immediateRegistration {new : Profile} {s : State} (applied : Applied new False s) (old : Profile) :
    Applied new False (Machine.immediateRegistration old s) := by
  unfold Machine.immediateRegistration expireAtCommit
  split
  · split
    · exact applied.setReg _
    · split
      · exact applied
      · next w _ =>
        split
        · exact ((applied.setReg { s.reg with windowCounter := 0 }).takeMark (expiryEvent s w.expected)).takePassed _
        · exact applied
  · exact applied

theorem commitNow_applied (s : State) : Applied s.prof.pending False (commitNow s) := by
  have applied := (applyCommit_applied s).immediateRegistration s.profile
  rcases testDeficits_cases (immediateRegistration s.profile (applyCommit s)) with same | ⟨cause, same⟩
  · rw [commitNow, same]
    exact applied
  · rw [commitNow, same]
    exact applied.enterHalt cause

theorem outsideBand_nat (p : Profile) (n : Nat) :
    outsideBand p (n : Int) = decide (n < bandLow p ∨ bandHigh p < n) :=
  decide_eq_decide.mpr (by rw [Int.ofNat_lt, Int.ofNat_lt])

theorem clampToBand_nat (p : Profile) (n : Nat) :
    clampToBand p (n : Int) = if n < bandLow p then bandLow p else if bandHigh p < n then bandHigh p else n :=
  if_congr Int.ofNat_lt rfl (if_congr Int.ofNat_lt rfl (Int.toNat_natCast n))

/-- The deficits tested with the counters of the state before (R12). -/
theorem testDeficits_eq {s t : State} (running : s.mode.isHalt = false) (mode : t.mode = s.mode) (pos : t.pos = s.pos) :
    testDeficits t =
      if s.mode = .setup then t
      else if t.profile.reverseLimit < s.webDeficit then t.afterHalt .reverseWeb
      else if t.profile.reverseLimit < s.beltDeficit then t.afterHalt .reverseBelt else t := by
  have tracks : t.mode.tracks = !(s.mode == .setup) := by
    rw [mode]
    cases mode : s.mode <;> simp_all [Mode.tracks, Mode.isHalt]
  unfold testDeficits
  rw [tracks, pos, enterHalt_eq, enterHalt_eq]
  by_cases setup : s.mode = .setup
  · simp [setup]
  · rw [if_neg setup, if_pos (by simpa using setup)]
    rfl

theorem withdrawn_of_none {s : State} (noCommit : s.prof.commit = none) :
    s.committed = (raiseEvent .commitApplied s).setProf { s.prof with active := s.prof.pending } := by
  rw [State.committed, ← noCommit]

/-- The registration at an IMMEDIATE commit, where no HELD window is released (R183, R184). -/
theorem immediateRegistration_of_free {old : Profile} {s : State}
    (free : s.mode.takesMarks = false ∨ s.profile.pNom ≠ old.pNom ∨ s.reg.candidate ≠ none ∨
      ∀ w ∈ s.reg.window, w.status ≠ .held) :
    immediateRegistration old s =
      if s.mode.takesMarks = true ∧ s.profile.pNom ≠ old.pNom then s.setReg (s.reg.restarted s.web s.profile.pNom)
      else s := by
  unfold immediateRegistration
  by_cases marks : s.mode.takesMarks = true
  · rw [if_pos marks]
    by_cases moved : s.profile.pNom ≠ old.pNom
    · rw [if_pos moved, if_pos ⟨marks, moved⟩]
    · rw [if_neg moved, if_neg (fun both => moved both.2)]
      unfold expireAtCommit
      split
      · rfl
      · next w window =>
        refine if_neg fun held => ?_
        rcases free with idle | new | candidate | open_
        · rw [marks] at idle
          cases idle
        · exact moved new
        · exact candidate held.2
        · exact open_ w window held.1
  · rw [if_neg marks, if_neg (fun both => marks both.1)]

/-- The registration at an IMMEDIATE commit that releases a HELD window (R14, R19). -/
theorem immediateRegistration_of_held {old : Profile} {s : State} {w : MarkWindow} (marks : s.mode.takesMarks = true)
    (same : s.profile.pNom = old.pNom) (candidate : s.reg.candidate = none) (window : s.reg.window = some w)
    (held : w.status = .held) : immediateRegistration old s = afterMark (expireNow w s) := by
  unfold immediateRegistration expireAtCommit
  rw [if_pos marks, if_neg (not_not.mpr same), window]
  exact if_pos ⟨held, candidate⟩

theorem applyCommit_views (s : State) : (applyCommit s).mode = s.mode ∧ (applyCommit s).profile = s.prof.pending ∧
    (applyCommit s).pos = s.pos ∧ (applyCommit s).prof.commit = none ∧ (applyCommit s).cnt = s.cnt := by
  have prof := applyCommit_prof s
  refine ⟨?_, ?_, by simp, ?_, by simp⟩
  · rw [State.mode, prof]
    rfl
  · rw [State.profile, prof]
  · rw [prof]

/-- The parts of the registration that decide about the window. -/
theorem applyCommit_window {s : State} (lanes : s.prof.active.laneMask = s.prof.pending.laneMask) :
    (applyCommit s).reg.candidate =
      (if s.prof.active.markLevel = s.prof.pending.markLevel then s.reg.candidate else none) ∧
    (applyCommit s).reg.window = s.reg.window ∧
    expiryRow s.prof.pending (applyCommit s).reg = expiryRow s.prof.pending s.reg := by
  rw [applyCommit_of_sameLanes lanes]
  split
  · rw [(raiseIf_frame _ _ _).2.1]
    exact ⟨rfl, rfl, rfl⟩
  · exact ⟨rfl, rfl, rfl⟩

theorem Applied.reply {new : Profile} {moved : Prop} {s : State} (applied : Applied new moved s) (k : StationLink)
    (q : Request) (res : Result) (p : Payload) : Applied new moved (s.reply k q res p) := by
  have frame : (s.reply k q res p).prof = s.prof ∧ (s.reply k q res p).reg = s.reg := by simp
  obtain ⟨prof, reg⟩ := frame
  refine ⟨?_, ?_, ?_, (answer_flag s k .line _ .commitApplied).trans applied.flag, fun m => ?_⟩
  · rw [prof, applied.active]
  · rw [prof, applied.pending]
  · rw [prof, applied.commit]
  · rw [reg]
    exact applied.search m

theorem commitProfile_of_refused {source : Nat} {n : RepeatNo} {s : State} {res : Result} {p : Payload}
    (low : source ≤ 3) (refusal : commitRefusal (operandOf source n) s = some (res, p)) :
    commitProfile .line source n s = s.reply .line .commitProfile res p := by
  simp only [commitProfile, sourceOf_of_low low, refusal]

theorem commitProfile_of_accepted {source : Nat} {n : RepeatNo} {s : State} (low : source ≤ 3)
    (passed : commitRefusal (operandOf source n) s = none) :
    commitProfile .line source n s = acceptCommit .line (operandOf source n) s := by
  simp only [commitProfile, sourceOf_of_low low, passed]

/-- Settles O44: the first test that fails names the refusal; a commit that passes waits or is applied. -/
theorem commitRequestsAreTestedInOrder : Obligations.CommitRequestsAreTestedInOrder := by
  intro source n s frames answer refused old new clear inHand taken moved
  have answered : answer = .next (commitProfile .line source n s) := exec_commitProfile frames source n
  have declined {res : Result} {p : Payload} (low : source ≤ 3)
      (refusal : commitRefusal (operandOf source n) s = some (res, p)) : refused res p :=
    answered.trans (congrArg Host.Outcome.next (commitProfile_of_refused low refusal))
  refine ⟨fun k other => ?_, fun beyond => ?_, fun low waits => ?_, fun low free halted => ?_, fun free hand => ?_,
    fun free noHand late => ?_, fun f fails free noHand onTime => ?_, fun valid free noHand onTime => ?_, fun waits => ?_,
    fun free => ?_⟩
  · obtain ⟨commit, cancel⟩ := commit_allowedOn_of_ne other
    exact ⟨taken_of_denied _ (frames.link k) commit, taken_of_denied _ (frames.link k) cancel⟩
  · show answer = _
    rw [answered, commitProfile, sourceOf_of_beyond beyond]
    rfl
  · refine declined low ?_
    rw [commitRefusal_eq low, if_pos waits]
  · refine declined low ?_
    rw [commitRefusal_eq low, if_neg (not_not.mpr free), if_pos halted]
  · obtain ⟨low, free, running⟩ := free
    refine declined low ?_
    rw [commitRefusal_eq low, if_neg (not_not.mpr free), if_neg (by simp [running]), if_pos hand]
  · obtain ⟨low, free, running⟩ := free
    refine declined low ?_
    rw [commitRefusal_eq low, if_neg (not_not.mpr free), if_neg (by simp [running]), if_neg noHand, if_pos late]
  · obtain ⟨low, free, running⟩ := free
    refine declined low ?_
    rw [commitRefusal_eq low, if_neg (not_not.mpr free), if_neg (by simp [running]), if_neg noHand, if_neg onTime, fails]
  · obtain ⟨low, free, running⟩ := free
    have refusal : commitRefusal (operandOf source n) s = if moved then some (.geometry, .none) else none := by
      rw [commitRefusal_eq low, if_neg (not_not.mpr free), if_neg (by simp [running]), if_neg noHand, if_neg onTime, valid]
      exact if_congr (and_congr_right fun _ => not_congr (sameGeometry_iff _ _)) rfl rfl
    have accepted (stays : ¬moved) : answer = .next (acceptCommit .line (operandOf source n) s) := by
      rw [answered, commitProfile_of_accepted low (refusal.trans (if_neg stays))]
    refine ⟨fun moves => ?_, fun stays waits => ?_, fun immediate => ?_, fun immediate quiet lanes => ?_⟩
    · exact declined low (refusal.trans (if_pos moves))
    · rw [accepted stays, operandOf, if_neg waits]
      rfl
    all_goals
      have stays : ¬moved := fun moves => moves.1 immediate
      have now := accepted stays
      rw [operandOf, if_pos immediate] at now
    · have replied := ((commitNow_applied s).finishDrive s).reply .line .commitProfile .ok (.commitAccepted true)
      exact ⟨_, now, replied.active, replied.pending, replied.commit, replied.flag, reply_slot _ _ _ _ _⟩
    · intro applied candidate low high base marks tested ends
      have clearAfter : SensesClear (commitNow s) :=
        quiet.of_senses (commitNow_frame s).1 (commitNow_internal s).enabled
      have finish {t : State} (result : commitNow s = tested t) : ends t := by
        rw [acceptCommit, finishDrive_of_noOverload clearAfter.not_overloaded, result] at now
        exact now
      have retested {t : State} (mode : t.mode = s.mode) (pos : t.pos = s.pos) (profile : t.profile = new) :
          testDeficits t = tested t := by
        rw [testDeficits_eq running mode pos, profile]
      have committed : s.committed = applied := withdrawn_of_none free
      have opened := applyCommit_of_sameLanes lanes
      rw [committed, outsideBand_nat, clampToBand_nat] at opened
      obtain ⟨mode, profile, pos, noCommit, cnt⟩ := applyCommit_views s
      obtain ⟨candidateEq, windowEq, rowEq⟩ := applyCommit_window lanes
      have marking : s.mode.takesMarks = true ↔ marks := Mode.takesMarks_iff _
      refine ⟨fun unheld => finish ?_, fun marking' same noCandidate tracking w window held => ?_⟩
      · have unheld' : (applyCommit s).mode.takesMarks = false ∨ (applyCommit s).profile.pNom ≠ s.profile.pNom ∨
            (applyCommit s).reg.candidate ≠ none ∨ ∀ w ∈ (applyCommit s).reg.window, w.status ≠ .held := by
          rw [mode, profile, candidateEq, windowEq]
          exact unheld.imp (fun idle => Bool.eq_false_iff.mpr (mt marking.mp idle)) (.imp_left Ne.symm)
        have registered := immediateRegistration_of_free unheld'
        rw [mode, profile] at registered
        have views : (immediateRegistration s.profile (applyCommit s)).mode = s.mode ∧
            (immediateRegistration s.profile (applyCommit s)).pos = s.pos ∧
            (immediateRegistration s.profile (applyCommit s)).profile = new := by
          rw [registered]
          split <;> exact ⟨mode, pos, profile⟩
        obtain ⟨modeAfter, posAfter, profileAfter⟩ := views
        rw [commitNow, retested modeAfter posAfter profileAfter, registered]
        refine congrArg tested ?_
        by_cases same : old.pNom = new.pNom
        · rw [if_neg (fun both => both.2 same.symm)]
          exact opened.trans ((if_pos same).trans (if_pos same).symm)
        · refine .trans ?_ (if_neg same).symm
          rw [opened, if_neg same]
          by_cases marks' : marks
          · rw [if_pos ⟨marking.mpr marks', Ne.symm same⟩, if_pos marks']
            rfl
          · rw [if_neg (fun both => marks' (marking.mp both.1)), if_neg marks']
      · intro u row t ahead
        refine finish ?_
        have baseEq : applyCommit s = base := opened.trans ((if_pos same).trans (if_pos same).symm)
        have releases : immediateRegistration s.profile (applyCommit s) = afterMark (expireNow w (applyCommit s)) :=
          immediateRegistration_of_held (by rw [mode]; exact marking.mpr marking') (by rw [profile]; exact same.symm)
            (candidateEq.trans noCandidate) (windowEq.trans window) held
        rw [expireNow_eq, profile, rowEq] at releases
        rw [baseEq] at releases mode profile pos noCommit cnt
        have missed : (base.setReg { base.reg with windowCounter := 0 }).missing true = u := by
          rw [State.missing, if_pos rfl, satInc_eq]
          simp only [setReg_cnt, cnt]
          rfl
        have taken := afterMark_takeMark (s := base.setReg { base.reg with windowCounter := 0 }) (row := row)
          (kind := .coasted) (m := w.expected) (err := none) (missed := true) (commitDue_of_none noCommit _)
        rw [missed] at taken
        have web : base.web = s.web := congrArg (fun p => p.web.counter) pos
        have handed : immediateRegistration s.profile base =
            receiveMark (u.markRecord .coasted w.expected none row) t := releases.trans (taken (web.symm ▸ ahead))
        have frame : (receiveMark (u.markRecord .coasted w.expected none row) t).prof = base.prof ∧
            (receiveMark (u.markRecord .coasted w.expected none row) t).pos = base.pos := by
          simp [t, u, State.withMarkEvent]
        obtain ⟨profKept, posKept⟩ := frame
        rw [commitNow, baseEq, handed]
        exact retested ((congrArg ProfileUnit.mode profKept).trans mode) (posKept.trans pos)
          ((congrArg ProfileUnit.active profKept).trans profile)
  · rw [exec_cancelCommit frames, if_pos (Option.isSome_iff_ne_none.mpr waits)]
    rfl
  · rw [exec_cancelCommit frames, free]
    rfl

end Sys2Proof.Machine

/-!
PROOFS. The reads of the links (R196 to R198): events, status pages and repeats.
-/

namespace Sys2Proof.Machine

/-! ## Events (R196) -/

theorem everyLink_allowed (k : StationLink) : Request.readEvents.allowedOn k = true ∧
    Request.ackEvents.allowedOn k = true ∧ Request.setEventMask.allowedOn k = true ∧
    Request.readStatus.allowedOn k = true ∧ Request.readRepeat.allowedOn k = true := by
  cases k <;> decide

/-! ## Status pages (R197) -/

section Pages

variable {k : StationLink} {s : State}

theorem pageReply_of_page {n : Nat} {image : StatusImage} {p : StatusPage} (held : (s.link k).snapshot = some image)
    (page : statusPage image n = some p) :
    pageReply k n s = s.reply k .readStatus .ok (.status (s.link k).snapshotNo p) := by
  unfold pageReply
  rw [held]
  simp only [page]

theorem readStatus_of_held {n : Nat} {image : StatusImage} {p : StatusPage} (low : 1 ≤ n) (high : n ≤ 29)
    (held : (s.link k).snapshot = some image) (page : statusPage image n = some p) :
    readStatus k n s = s.reply k .readStatus .ok (.status (s.link k).snapshotNo p) := by
  unfold readStatus
  rw [if_neg (by omega), if_neg (by omega)]
  exact pageReply_of_page held page

theorem readStatus_of_noSnapshot {n : Nat} (low : 1 ≤ n) (high : n ≤ 29) (absent : (s.link k).snapshot = none) :
    readStatus k n s = s.refuse k .readStatus .state := by
  unfold readStatus pageReply
  rw [if_neg (by omega), if_neg (by omega), absent]

theorem readStatus_of_beyond {n : Nat} (beyond : 29 < n) : readStatus k n s = s.refuse k .readStatus .range :=
  if_pos beyond

end Pages

theorem statusPage_lane (i : StatusImage) (l : Lane) :
    statusPage i (l.val + 11) = some (i.laneWork l) ∧ statusPage i (l.val + 19) = some (i.laneEjects l) := by
  obtain ⟨n, bound⟩ := l
  interval_cases n <;> exact ⟨rfl, rfl⟩

/-! The pages give their counts and reports by `countP` and `head?` in the statement. -/

theorem stackLog_eq (i : StatusImage) : i.stackLog =
    .stackLog (i.log.slots.toList.countP (fun x => x == .free)) (i.log.slots.toList.countP (Slot.isIn .forming))
      (i.log.slots.toList.countP (Slot.isIn .closed)) (i.log.slots.toList.countP (Slot.isIn .ready)) i.log.ready.length
      (i.log.ready.head?.bind (fun j => (i.log.slots[j].record?).map (fun r => (j, r.lane, r.seq)))) := by
  unfold StatusImage.stackLog StatusImage.slotsIn
  simp only [List.countP_eq_length_filter]
  cases i.log.ready <;> rfl

theorem openStack_bind (i : StatusImage) (u : LaneUnit) : i.openStack u =
    u.openStack.bind (fun o => match i.log.slots[o.slot] with
      | .held .forming r => some (o, r.seq, r.count, r.target)
      | .held .closed _ | .held .ready _ | .free => none) := by
  unfold StatusImage.openStack
  cases u.openStack <;> rfl

/-! ## Repeats (R198) -/

section Repeats

variable {k : StationLink} {s : State} {n : RepeatNo}

theorem copyOf_of_record {r : RepeatRecord} (found : s.record n = some r) : s.copyOf n = some (.record r) := by
  unfold State.copyOf
  rw [found]

theorem find?_of_split {cuts older newer : List Cut} {c : Cut} (cutsEq : cuts = older ++ c :: newer)
    (before : ∀ x ∈ older, x.repeatNo ≠ n) (named : c.repeatNo = n) :
    cuts.find? (fun x => x.repeatNo == n) = some c := by
  have skipped : older.find? (fun x => x.repeatNo == n) = none :=
    List.find?_eq_none.mpr fun x member => by simp [before x member]
  rw [cutsEq, List.find?_append, skipped]
  simp [named]

theorem find?_eq_none_of_ne {cuts : List Cut} (others : ∀ x ∈ cuts, x.repeatNo ≠ n) :
    cuts.find? (fun x => x.repeatNo == n) = none :=
  List.find?_eq_none.mpr fun x member => by simp [others x member]

theorem copyOf_of_schedule {c : Cut} (absent : s.record n = none)
    (found : s.cut.schedule.find? (fun x => x.repeatNo == n) = some c) : s.copyOf n = some (.cut c false) := by
  unfold State.copyOf
  rw [absent, found]

theorem copyOf_of_queue (absent : s.record n = none)
    (unscheduled : s.cut.schedule.find? (fun x => x.repeatNo == n) = none) :
    s.copyOf n = (s.cut.queue.find? (fun x => x.repeatNo == n)).map (fun c => .cut c true) := by
  unfold State.copyOf
  rw [absent, unscheduled]

theorem readRepeat_zero : readRepeat k n 0 s = readIdentity k n s := rfl

theorem readRepeat_part {part : Nat} (low : 1 ≤ part) (high : part ≤ 3) : readRepeat k n part s = readPart k n part s := by
  unfold readRepeat
  rw [if_neg (by omega), if_neg (by omega)]

end Repeats

/-- Settles O49: each read by its page or part. -/
theorem linksAnswerFromFlagsSnapshotAndCopy : Obligations.LinksAnswerFromFlagsSnapshotAndCopy := by
  intro k s whole u
  obtain ⟨readEvents, ackEvents, setMask, readStatus, readRepeat⟩ := everyLink_allowed k
  have status (n : Nat) : exec (.readStatus k n) s = .next (Machine.readStatus k n s) := taken_of_whole _ whole readStatus
  have repeats (n : RepeatNo) (part : Nat) : exec (.readRepeat k n part) s = .next (Machine.readRepeat k n part s) :=
    taken_of_whole _ whole readRepeat
  refine ⟨taken_of_whole _ whole readEvents, fun m => ⟨?_, ?_⟩, fun page beyond => ?_, ?_, fun page low high absent => ?_,
    fun image held => ?_, fun n part beyond => ?_, fun n => ?_, fun n part low high => ?_⟩
  · refine (taken_of_whole _ whole ackEvents).trans ?_
    rw [acknowledge, setLink_link_same]
    rfl
  · refine (taken_of_whole _ whole setMask).trans ?_
    rw [Machine.setMask, setLink_link_same]
  · rw [status, readStatus_of_beyond beyond]
  · have image : ((takeSnapshot k s).link k).snapshot = some s.statusImage := by
      rw [takeSnapshot, setLink_link_same]
    have number : ((takeSnapshot k s).link k).snapshotNo = u.snapshotNo + 1 := by
      rw [takeSnapshot, setLink_link_same]
    have page : statusPage s.statusImage 0 = some s.statusImage.overview := rfl
    have read : Machine.readStatus k 0 s = pageReply k 0 (takeSnapshot k s) := rfl
    rw [status, read, pageReply_of_page image page, number]
    rfl
  · rw [status, readStatus_of_noSnapshot low high absent]
  · intro page reg cut map log act p diag driven gate held'
    have answers {n : Nat} {q : StatusPage} (low : 1 ≤ n) (high : n ≤ 29) (is : statusPage image n = some q) : page n q := by
      show exec (.readStatus k n) s = _
      rw [status, readStatus_of_held low high held is]
    refine ⟨answers (by decide) (by decide) rfl, answers (by decide) (by decide) rfl, answers (by decide) (by decide) rfl,
      answers (by decide) (by decide) rfl, answers (by decide) (by decide) rfl, answers (by decide) (by decide) rfl, ?_,
      answers (by decide) (by decide) rfl, answers (by decide) (by decide) rfl, answers (by decide) (by decide) rfl,
      fun l => ?_, answers (by decide) (by decide) rfl, answers (by decide) (by decide) rfl,
      answers (by decide) (by decide) rfl⟩
    · exact answers (by decide) (by decide) (congrArg some (stackLog_eq image))
    · obtain ⟨work, ejects⟩ := statusPage_lane image l
      refine ⟨answers (by omega) (by omega) (work.trans ?_), answers (by omega) (by omega) ejects⟩
      exact congrArg (fun o => some (StatusPage.laneWork _ _ _ _ o _)) (openStack_bind image image.lanes[l])
  · rw [repeats]
    exact congrArg Host.Outcome.next (if_pos beyond)
  · have copies {c : RepeatCopy} (copy : s.copyOf n = some c) : exec (.readRepeat k n 0) s =
        .next ((s.setLink k { u with copy := some c }).reply k .readRepeat .ok (.repeatPart 0 c)) := by
      rw [repeats, readRepeat_zero, readIdentity, copy]
      rfl
    intro copied
    refine ⟨fun r found => copies (copyOf_of_record found), fun absent older c newer cuts before named => ?_,
      fun absent others older c newer cuts before named => ?_, fun absent others => ?_⟩
    · exact copies (copyOf_of_schedule absent (find?_of_split cuts before named))
    · refine copies ?_
      rw [copyOf_of_queue absent (find?_eq_none_of_ne others), find?_of_split cuts before named]
      rfl
    · have missing : s.copyOf n = none := by
        rw [copyOf_of_queue absent (find?_eq_none_of_ne fun x member => others x (List.mem_append_left _ member)),
          find?_eq_none_of_ne fun x member => others x (List.mem_append_right _ member)]
        rfl
      rw [repeats, readRepeat_zero, readIdentity, missing]
      rfl
  · intro answer
    have answered : answer = .next (readPart k n part s) := (repeats n part).trans (by rw [readRepeat_part low high])
    rw [answered]
    refine ⟨fun other => ?_, fun c copy named => ?_⟩
    · unfold readPart
      split
      · rfl
      · next c copy => rw [if_neg (other c copy)]
    · unfold readPart
      rw [show (s.link k).copy = some c from copy]
      dsimp only
      rw [if_pos named]
      cases c <;> rfl

end Sys2Proof.Machine

/-!
PROOFS. The profile fields (R175 to R179): the table, the requests on one field, and the checks of a commit.
-/

namespace Sys2Proof.Machine

/-! ## The table of R175 -/

theorem inFixedRange_iff (field value : Nat) :
    inFixedRange field value = true ↔ ∃ b ∈ fixedRange field, b.1 ≤ value ∧ value ≤ b.2 := by
  unfold inFixedRange
  cases fixedRange field <;> simp

theorem beyondNamedList_iff (field value : Nat) : beyondNamedList field value = true ↔
    (field = 4 ∨ field = 32 ∨ field = 33 ∨ 41 ≤ field ∧ field ≤ 44) ∧ 1 < value := by
  simp only [beyondNamedList, namedListFields, Bool.and_eq_true, List.contains_eq_mem, decide_eq_true_eq, List.mem_cons,
    List.not_mem_nil, or_false]
  omega

/-- A field outside the table has no range and no value. -/
theorem fixedRange_of_outside {field : Nat} (outside : field < 1 ∨ 44 < field) (p : Profile) :
    fixedRange field = none ∧ p.get field = none := by
  rcases outside with low | high
  · obtain rfl : field = 0 := by omega
    exact ⟨rfl, rfl⟩
  · obtain ⟨d, rfl⟩ := Nat.exists_eq_add_of_le' (show 45 ≤ field by omega)
    exact ⟨rfl, rfl⟩

theorem get_isSome {field : Nat} (low : 1 ≤ field) (high : field ≤ 44) (p : Profile) : ∃ v, p.get field = some v := by
  interval_cases field <;> exact ⟨_, rfl⟩

/-- The 44 fields of a profile as numbers, in the order of R175. -/
def Profile.numbers (p : Profile) : List Nat :=
  [p.pNom, p.halfWindow, p.mMin, levelNumber p.markLevel, p.tReg, p.filterShift, p.stretchLimit, p.nLock, p.grace, p.cMax,
    p.sensorToCut, p.latency, p.qMin, p.confirmWindow, p.spliceDistance, p.splicePre, p.splicePost, p.reverseLimit,
    p.laneMask.toNat, p.gCam, p.gGate, p.gStack] ++
  [p.labelLength, p.gatePre, p.gatePost, p.minClosed, p.settle, p.sigmaWarn, p.sigmaTight, p.sigmaJam, p.purgeTail,
    boolNumber p.inspectionRequired, policyNumber p.noVerdict, p.changeGap, p.autoClear, p.knifePulse, p.knifeOff,
    p.pusherPulse, p.pusherOff, p.cameraPulse, levelNumber p.knifeLevel, levelNumber p.gateLevel,
    levelNumber p.pusherLevel, levelNumber p.cameraLevel]

theorem get_succ (p : Profile) (i : Nat) : p.get (i + 1) = p.numbers[i]? := by
  by_cases small : i < 44
  · interval_cases i <;> rfl
  · obtain ⟨d, rfl⟩ := Nat.exists_eq_add_of_le' (not_lt.mp small)
    rfl

theorem numbers_put (p : Profile) (v : Nat) {i : Nat} (small : i < 44) :
    (p.put v (i + 1)).numbers = p.numbers.set i (((p.put v (i + 1)).get (i + 1)).getD 0) := by
  interval_cases i <;> rfl

/-- A write of one field leaves every other field. -/
theorem get_put_other {p : Profile} {field g v : Nat} (low : 1 ≤ field) (high : field ≤ 44) (other : g ≠ field) :
    (p.put v field).get g = p.get g := by
  obtain ⟨i, rfl⟩ := Nat.exists_eq_add_of_le' low
  cases g with
  | zero => rfl
  | succ j => rw [get_succ, get_succ, numbers_put p v (by omega), List.getElem?_set_ne (by omega)]

/-- A value in range is read back: a two-valued field has no other numbers, and the lane mask holds eight bits. -/
theorem get_put_same {p : Profile} {field v : Nat} (low : 1 ≤ field) (high : field ≤ 44)
    (ranged : inFixedRange field v = true) : (p.put v field).get field = some v := by
  by_cases two : field = 4 ∨ field = 32 ∨ field = 33 ∨ 41 ≤ field
  · have named : v ≤ 1 := by
      rcases two with rfl | rfl | rfl | last
      · exact (of_decide_eq_true ranged).2
      · exact (of_decide_eq_true ranged).2
      · exact (of_decide_eq_true ranged).2
      · interval_cases field <;> exact (of_decide_eq_true ranged).2
    rcases two with rfl | rfl | rfl | last
    · interval_cases v <;> rfl
    · interval_cases v <;> rfl
    · interval_cases v <;> rfl
    · interval_cases field <;> interval_cases v <;> rfl
  · by_cases mask : field = 19
    · subst mask
      have small : v ≤ 255 := (of_decide_eq_true ranged).2
      exact congrArg some (Nat.mod_eq_of_lt (by omega))
    · have plain : field ≤ 3 ∨ (5 ≤ field ∧ field ≤ 18) ∨ (20 ≤ field ∧ field ≤ 31) ∨ (34 ≤ field ∧ field ≤ 40) := by
        omega
      rcases plain with plain | ⟨_, _⟩ | ⟨_, _⟩ | ⟨_, _⟩
      all_goals
        clear ranged
        interval_cases field <;> rfl

/-! ## The requests -/

theorem profileFields_allowedOn_of_ne {k : StationLink} (other : k ≠ .line) :
    Request.setProfileField.allowedOn k = false ∧ Request.readProfile.allowedOn k = false := by
  cases k with
  | line => exact absurd rfl other
  | inspection => decide
  | delivery => decide

theorem exec_setProfileField {s : State} (frames : FramesWhole s) (field value : Nat) :
    exec (.setProfileField .line field value) s = .next (setProfileField .line field value s) :=
  taken_of_whole _ (frames.link .line) (by decide)

theorem exec_readProfile {s : State} (frames : FramesWhole s) (selector field : Nat) :
    exec (.readProfile .line selector field) s = .next (readProfile .line selector field s) :=
  taken_of_whole _ (frames.link .line) (by decide)

theorem readProfile_of_outside {selector field : Nat} (outside : 1 < selector ∨ field < 1 ∨ 44 < field) (s : State) :
    readProfile .line selector field s = s.refuse .line .readProfile .range := by
  have absent (p : Profile) (beyond : field < 1 ∨ 44 < field) : p.get field = none := (fixedRange_of_outside beyond p).2
  unfold readProfile ProfileUnit.selected
  by_cases zero : selector = 0
  · rw [if_pos zero]
    dsimp only
    rw [absent _ (by omega)]
  · rw [if_neg zero]
    by_cases one : selector = 1
    · rw [if_pos one]
      dsimp only
      rw [absent _ (by omega)]
    · rw [if_neg one]

theorem readProfile_of_field {selector field v : Nat} {s : State} (low : selector ≤ 1)
    (value : (if selector = 0 then s.prof.active else s.prof.pending).get field = some v) :
    readProfile .line selector field s = s.reply .line .readProfile .ok (.fieldValue v) := by
  unfold readProfile ProfileUnit.selected
  by_cases zero : selector = 0
  · rw [if_pos zero] at value
    rw [if_pos zero]
    dsimp only
    rw [value]
  · rw [if_neg zero] at value
    rw [if_neg zero, if_pos (by omega)]
    dsimp only
    rw [value]

/-! ## The checks of a commit (R179) -/

/-- A field of a profile within its range (check 1 of R179). -/
def Profile.ranged (p : Profile) (f : Nat) : Prop := ∃ v ∈ p.get f, ∃ b ∈ fixedRange f, b.1 ≤ v ∧ v ≤ b.2

/-- The test of check 1 on one field. -/
def Profile.misses (p : Profile) (f : Nat) : Bool :=
  match p.get f with
  | some v => !inFixedRange f v
  | none => true

theorem misses_eq_false (p : Profile) (f : Nat) : p.misses f = false ↔ p.ranged f := by
  unfold Profile.misses Profile.ranged
  cases p.get f with
  | none => simp
  | some v => simpa using inFixedRange_iff f v

theorem firstOutOfRange_eq (p : Profile) :
    firstOutOfRange p = ((List.range 44).find? (fun i => p.misses (i + 1))).map (· + 1) := by
  unfold firstOutOfRange fieldIdentifiers
  rw [List.find?_map]
  rfl

theorem firstOutOfRange_eq_some {p : Profile} {f : Fin 44} (bad : ¬p.ranged (f.val + 1))
    (good : ∀ g < f, p.ranged (g.val + 1)) : firstOutOfRange p = some (f.val + 1) := by
  have found : (List.range 44).find? (fun i => p.misses (i + 1)) = some f.val := by
    refine List.find?_range_eq_some.mpr ⟨?_, List.mem_range.mpr f.isLt, fun j before => ?_⟩
    · exact Bool.not_eq_false _ ▸ mt (misses_eq_false p _).mp bad
    · have small : j < 44 := before.trans f.isLt
      simp [(misses_eq_false p _).mpr (good ⟨j, small⟩ before)]
  rw [firstOutOfRange_eq, found]
  rfl

theorem firstOutOfRange_eq_none {p : Profile} (good : ∀ f : Fin 44, p.ranged (f.val + 1)) : firstOutOfRange p = none := by
  have nothing : (List.range 44).find? (fun i => p.misses (i + 1)) = none :=
    List.find?_eq_none.mpr fun i member => by
      simp [(misses_eq_false p _).mpr (good ⟨i, List.mem_range.mp member⟩)]
  rw [firstOutOfRange_eq, nothing]
  rfl

/-- The cross checks as the statement has them (checks 2 to 12 of R179). -/
theorem crossChecks_eq (p : Profile) : crossChecks p =
    [ (decide (p.qMin + 1 ≤ p.pNom), 13), (decide (p.halfWindow ≤ p.pNom / 4), 2),
      (decide (p.tReg ≤ p.halfWindow), 5), (decide (p.cMax > p.grace), 10),
      (decide (p.sensorToCut ≤ 15 * p.pNom), 11),
      (decide (p.qMin + 2 * p.halfWindow ≤ p.pNom * (1024 - p.stretchLimit) / 1024), 13),
      (decide (p.confirmWindow < p.qMin), 14), (decide ((p.gCam : Int) < p.gGate - p.gatePre), 20),
      (decide (p.gGate + p.labelLength + p.gatePost < p.gStack), 22),
      (decide (p.sigmaJam < p.sigmaTight) && decide (p.sigmaTight ≤ p.sigmaWarn), 29),
      (decide (p.gStack + p.labelLength ≤ 47 * p.sigmaTight), 22) ] := by
  have camera : decide (p.gCam + p.gatePre < p.gGate) = decide ((p.gCam : Int) < p.gGate - p.gatePre) :=
    decide_eq_decide.mpr (by omega)
  rw [crossChecks, camera, Bool.decide_and]
  rfl

theorem setProfileField_of_waiting {field value : Nat} {s : State} (waits : s.prof.commit ≠ none) :
    setProfileField .line field value s = s.refuse .line .setProfileField (resultWhileWaiting field value) :=
  if_pos (Option.isSome_iff_ne_none.mpr waits)

/-- Settles O43: the requests by field and value, the checks by their order. -/
theorem profileFieldsAreWrittenAndRead : Obligations.ProfileFieldsAreWrittenAndRead := by
  refine ⟨rfl, fun field value s frames => ?_, fun p => ?_⟩
  · intro inRange beyondList set
    have answered : set = .next (setProfileField .line field value s) := exec_setProfileField frames field value
    refine ⟨fun k selector other => ?_, fun waits beyond => ?_, fun waits within => ?_, fun free outside => ?_,
      fun free ranged => ?_, fun selector => ?_⟩
    · obtain ⟨write, read⟩ := profileFields_allowedOn_of_ne other
      exact ⟨taken_of_denied _ (frames.link k) write, taken_of_denied _ (frames.link k) read⟩
    · rw [answered, setProfileField_of_waiting waits, resultWhileWaiting, (beyondNamedList_iff _ _).mpr beyond,
        Bool.true_and]
    · rw [answered, setProfileField_of_waiting waits, resultWhileWaiting,
        Bool.eq_false_iff.mpr (mt (beyondNamedList_iff _ _).mp within), Bool.false_and]
      rfl
    · rw [answered, setProfileField, free]
      exact congrArg Host.Outcome.next (if_neg (mt (inFixedRange_iff _ _).mp outside))
    · have bounds : 1 ≤ field ∧ field ≤ 44 := by
        by_contra beyond
        obtain ⟨b, range, -⟩ := ranged
        rw [(fixedRange_of_outside (by omega) s.prof.pending).1] at range
        cases range
      obtain ⟨low, high⟩ := bounds
      have written : setProfileField .line field value s =
          (s.setProf { s.prof with pending := s.prof.pending.put value field }).reply .line .setProfileField .ok
            (.fieldWritten field value) := by
        rw [setProfileField, free]
        exact if_pos ((inFixedRange_iff _ _).mpr ranged)
      have pending : ((s.setProf { s.prof with pending := s.prof.pending.put value field }).reply .line .setProfileField
          .ok (.fieldWritten field value)).prof.pending = s.prof.pending.put value field := by simp
      refine ⟨_, answered.trans (congrArg Host.Outcome.next written), ?_, fun g => ?_⟩
      · rw [pending]
      · rw [pending]
        split
        · next here => rw [here, get_put_same low high ((inFixedRange_iff _ _).mpr ranged)]
        · next other => rw [get_put_other low high other]
    · intro read
      have readEq : read = .next (readProfile .line selector field s) := exec_readProfile frames selector field
      refine ⟨fun outside => ?_, fun low named bound => ?_⟩
      · rw [readEq, readProfile_of_outside outside]
      · obtain ⟨v, value⟩ := get_isSome named bound (if selector = 0 then s.prof.active else s.prof.pending)
        exact ⟨v, value, by rw [readEq, readProfile_of_field low value]⟩
  · intro ranged checks
    refine ⟨fun f bad good => ?_, fun good => ?_⟩
    · rw [firstFailure, firstOutOfRange_eq_some bad good]
    · have failure : firstFailure p = (checks.find? (fun c => !c.1)).map (·.2) := by
        rw [firstFailure, firstOutOfRange_eq_none good, crossChecks_eq]
      rw [failure]
      refine ⟨?_, fun passed c later split before fails => ?_⟩
      · simp only [Option.map_eq_none_iff, List.find?_eq_none, Bool.not_eq_true', Bool.not_eq_false]
      · rw [split, List.find?_append, List.find?_eq_none.mpr fun x member => by simp [before x member]]
        simp [fails]

end Sys2Proof.Machine


/-!
PROOFS. Frames (R192 to R194, R201): the words of a response and of a status page, the checks of a frame, and the frame
that spells a request row (Logs 14 and 31).
-/

namespace Sys2Proof.Machine

/-! ## The words of a status page -/

theorem commitWords_length (commit : Option CommitRequest) : (commitWords commit).length = 2 := by
  rcases commit with _ | ⟨source, splice⟩
  · rfl
  · cases source <;> rfl

theorem windowWords_length (w : Option (WindowStatus × Pos × Pos × Pos)) : (windowWords w).length = 7 := by
  cases w <;> rfl

theorem openStackWords_length (o : Option (OpenStack × Seq × Nat × Nat)) : (openStackWords o).length = 4 := by
  cases o <;> rfl

theorem orderWords_length (o : Option (BitVec 8 × BitVec 16 × Nat)) : (orderWords o).length = 3 := by cases o <;> rfl

theorem ejectWords_length (e : Option (SlotIndex × Seq × Pos × Bool)) : (ejectWords e).length = 4 := by cases e <;> rfl

theorem quarantineWords_length (q : Option (Seq × Nat × BitVec 16 × Option RepeatNo × Option RepeatNo)) :
    (quarantineWords q).length = 5 := by
  cases q <;> rfl

theorem lastMarkWords_length (e : Option LastMark) : (lastMarkWords e).length = 4 := by cases e <;> rfl

/-- The pages whose number of words is fixed. -/
theorem StatusPage.words_length_of_plain {p : StatusPage} (noDrives : ∀ a b c d, p ≠ .drives a b c d)
    (noGates : ∀ reports, p ≠ .gates reports) : p.words.length ≤ 14 := by
  have commit := commitWords_length
  have window := windowWords_length
  have opened := openStackWords_length
  have orders := orderWords_length
  have eject := ejectWords_length
  have quarantine := quarantineWords_length
  have mark := lastMarkWords_length
  cases p with
  | drives a b c d => exact absurd rfl (noDrives a b c d)
  | gates reports => exact absurd rfl (noGates reports)
  | stackLog free forming closed ready entries oldest =>
    cases oldest <;> simp [StatusPage.words]
  | _ => simp [StatusPage.words, words32, posWords, placeWords, zoneWords, *]

/-- One of the two values of a conditional. -/
theorem value_of_ite {α : Type} {c : Prop} [Decidable c] {a b x : α} (h : (if c then a else b) = x) : a = x ∨ b = x := by
  by_cases held : c
  · exact .inl ((if_pos held).symm.trans h)
  · exact .inr ((if_neg held).symm.trans h)

/-- A page of the image has at most 14 words, so that with its snapshot number it stays within the 15 of a response
(R193, R197). -/
theorem statusPage_words_length {image : StatusImage} {n : Nat} {p : StatusPage} (page : statusPage image n = some p) :
    p.words.length ≤ 14 := by
  have plain {q : StatusPage} (is : some q = some p) (noDrives : ∀ a b c d, q ≠ .drives a b c d)
      (noGates : ∀ reports, q ≠ .gates reports) : p.words.length ≤ 14 := by
    obtain rfl := Option.some.inj is
    exact StatusPage.words_length_of_plain noDrives noGates
  have gates {a b c d : Lane} (is : some (StatusPage.gates ([a, b, c, d].map image.gate)) = some p) :
      p.words.length ≤ 14 := by
    obtain rfl := Option.some.inj is
    simp [StatusPage.words, GateReport.words, posWords, words32]
  have drives (is : some image.drives = some p) : p.words.length ≤ 14 := by
    obtain rfl := Option.some.inj is
    simp [StatusPage.words, StatusImage.drives, allLanes]
  have lane {l : Option Lane} {f : Lane → StatusPage} (is : l.map f = some p)
      (noDrives : ∀ i a b c d, f i ≠ .drives a b c d) (noGates : ∀ i reports, f i ≠ .gates reports) :
      p.words.length ≤ 14 := by
    obtain ⟨i, _, found⟩ := Option.map_eq_some_iff.mp is
    exact plain (congrArg some found) (noDrives i) (noGates i)
  unfold statusPage at page
  iterate 8
    obtain is | page := value_of_ite page
    · exact plain is (fun _ _ _ _ => nofun) (fun _ => nofun)
  obtain is | page := value_of_ite page
  · exact drives is
  iterate 2
    obtain is | page := value_of_ite page
    · exact gates is
  iterate 2
    obtain is | page := value_of_ite page
    · exact lane is (fun _ _ _ _ _ => nofun) (fun _ _ => nofun)
  iterate 3
    obtain is | page := value_of_ite page
    · exact plain is (fun _ _ _ _ => nofun) (fun _ => nofun)
  cases page

/-! ## The words of a response -/

theorem responseHeader_eq (code : BitVec 8) (res : Result) (len : Nat) :
    responseHeader code res len = code ++ res.code ++ BitVec.ofNat 4 len :=
  (BitVec.append_assoc (x₁ := code) (x₂ := res.code) (x₃ := BitVec.ofNat 4 len)).symm

end Sys2Proof.Machine

namespace Sys2Proof

/-! ## Words of operands (R194, Log 31) -/

theorem numberWord_toNat {n : Nat} (fits : fitsWord n = true) : (numberWord n).toNat = n := by
  have small : n < 65536 := by simpa [fitsWord] using fits
  exact Nat.mod_eq_of_lt small

theorem pairWords_append (v : BitVec 32) : v.extractLsb' 16 16 ++ v.extractLsb' 0 16 = v := by
  have whole : v.extractLsb' 16 16 ++ v.extractLsb' 0 16 = v.extractLsb' 0 32 :=
    BitVec.extractLsb'_append_extractLsb'_eq_extractLsb' (by decide)
  exact whole.trans BitVec.extractLsb'_eq_self

theorem lowByte_append (a b : BitVec 8) : lowByte (a ++ b) = b := BitVec.extractLsb'_append_eq_right

theorem highByte_append (a b : BitVec 8) : highByte (a ++ b) = a := BitVec.extractLsb'_append_eq_left

theorem lowByte_setWidth (a : BitVec 8) : lowByte (a.setWidth 16) = a := by
  ext i hi
  simp [lowByte, BitVec.getLsbD_eq_getElem hi, Nat.lt_trans hi (by decide : 8 < 16)]

theorem flagWord_bits (a b : Bool) : (flagWord a b)[0] = a ∧ (flagWord a b)[1] = b := by
  cases a <;> cases b <;> decide

theorem fitsByte_lt {n : Nat} (fits : fitsByte n = true) : n < 256 := by simpa [fitsByte] using fits

/-! ## Requests by their codes -/

theorem requestOfCode_code (q : Request) : requestOfCode q.code = some q := by cases q <;> rfl

theorem requestOfCode_eq_none {code : BitVec 8} (unknown : ∀ q : Request, q.code ≠ code) : requestOfCode code = none :=
  List.find?_eq_none.mpr (fun q _ => by simp [unknown q])

theorem Request.header_code (q : Request) : q.header.extractLsb' 8 8 = q.code := by cases q <;> rfl

theorem Request.header_reserved (q : Request) : q.header.extractLsb' 4 4 = 0 := by cases q <;> rfl

theorem Request.header_length (q : Request) : (q.header.extractLsb' 0 4).toNat = q.payloadLength := by cases q <;> rfl

/-! ## The frame that spells a request row -/

theorem Instr.payloadWords_length {c : Instr} {k : StationLink} {q : Request} (request : c.request = some (k, q)) :
    c.payloadWords.length = q.payloadLength := by
  cases c <;> simp only [Instr.request, Option.some.injEq, Prod.mk.injEq, reduceCtorEq] at request <;>
    obtain ⟨rfl, rfl⟩ := request <;> rfl

/-- The payload words of a request row spell that row again (R194). -/
theorem Request.command_payloadWords {c : Instr} {k : StationLink} {q : Request} (request : c.request = some (k, q))
    (fits : c.wellFormed = true) : q.command k c.payloadWords = c := by
  cases c <;> simp only [Instr.request, Option.some.injEq, Prod.mk.injEq, reduceCtorEq] at request <;>
    obtain ⟨rfl, rfl⟩ := request <;>
    simp only [Instr.wellFormed, Bool.and_eq_true, decide_eq_true_eq] at fits <;>
    simp [Request.command, Instr.payloadWords, payloadWord, pairWords, numberWord_toNat, pairWords_append,
      lowByte_append, highByte_append, lowByte_setWidth, flagWord_bits, fitsByte_lt, fits]

/-! ## The checks of R192 -/

/-- A frame that is counted whole: of 16 to 256 bits, a multiple of 16. -/
def Frame.Counted (f : Frame) : Prop := f.bits ≠ 0 ∧ f.bits % 16 = 0 ∧ f.bits ≤ 256

theorem Frame.refusal_of_uncounted {f : Frame} (k : StationLink) (uncounted : ¬f.Counted) :
    f.refusal k = some (0, .format) := by
  refine if_pos ?_
  by_contra whole
  rw [not_or, not_or, not_not] at whole
  exact uncounted ⟨whole.1, whole.2.1, Nat.not_lt.mp whole.2.2⟩

theorem Frame.Counted.passes {f : Frame} (counted : f.Counted) :
    ¬(f.bits = 0 ∨ f.bits % 16 ≠ 0 ∨ f.bits > 256) := by
  obtain ⟨some_bits, whole_words, short⟩ := counted
  rintro (none_at_all | part | long)
  · exact some_bits none_at_all
  · exact part whole_words
  · exact Nat.not_lt.mpr short long

theorem Frame.refusal_of_unknown {f : Frame} {header : Word16} {payload : List Word16} (k : StationLink)
    (words : f.words = header :: payload) (counted : f.Counted)
    (unknown : ∀ q : Request, q.code ≠ header.extractLsb' 8 8) :
    f.refusal k = some (header.extractLsb' 8 8, .format) := by
  simp only [Frame.refusal, if_neg counted.passes, words, requestOfCode_eq_none unknown]

section
variable {f : Frame} {header : Word16} {payload : List Word16} {q : Request}
  (words : f.words = header :: payload) (counted : f.Counted) (code : q.code = header.extractLsb' 8 8)
include words counted code

/-- The checks that follow the one of the request code. -/
theorem Frame.refusal_of_known (k : StationLink) :
    f.refusal k = if header.extractLsb' 4 4 ≠ 0 then some (header.extractLsb' 8 8, .format)
      else if payload.length < (header.extractLsb' 0 4).toNat ∨ (header.extractLsb' 0 4).toNat ≠ q.payloadLength then
        some (header.extractLsb' 8 8, .format)
      else if q.allowedOn k then none else some (header.extractLsb' 8 8, .denied) := by
  simp only [Frame.refusal, if_neg counted.passes, words, ← code, requestOfCode_code]

theorem Frame.refusal_of_reserved (k : StationLink) (reserved : header.extractLsb' 4 4 ≠ 0) :
    f.refusal k = some (header.extractLsb' 8 8, .format) := by
  rw [Frame.refusal_of_known words counted code, if_pos reserved]

theorem Frame.refusal_of_length (k : StationLink) (reserved : header.extractLsb' 4 4 = 0)
    (length : payload.length < (header.extractLsb' 0 4).toNat ∨ (header.extractLsb' 0 4).toNat ≠ q.payloadLength) :
    f.refusal k = some (header.extractLsb' 8 8, .format) := by
  rw [Frame.refusal_of_known words counted code, if_neg (not_not.mpr reserved), if_pos length]

theorem Frame.refusal_of_rights (k : StationLink) (reserved : header.extractLsb' 4 4 = 0)
    (enough : (header.extractLsb' 0 4).toNat ≤ payload.length)
    (length : (header.extractLsb' 0 4).toNat = q.payloadLength) :
    f.refusal k = if q.allowedOn k then none else some (header.extractLsb' 8 8, .denied) := by
  have fits : ¬(payload.length < (header.extractLsb' 0 4).toNat ∨
      (header.extractLsb' 0 4).toNat ≠ q.payloadLength) := by
    rintro (short | other)
    · exact Nat.not_lt.mpr enough short
    · exact other length
  rw [Frame.refusal_of_known words counted code, if_neg (not_not.mpr reserved), if_neg fits]

end

/-! ## The frame of a request row -/

/-- The frame of a request row, with fill words: it spells the row again, and passes every check but that of the rights
(R192, R194). -/
theorem Instr.frame_spells {c : Instr} {k : StationLink} {q : Request} {fill : List Word16}
    (request : c.request = some (k, q)) (fits : c.wellFormed = true) (room : q.payloadLength + fill.length ≤ 15) :
    ∃ f, c.frame fill = some f ∧ f.words = q.header :: (c.payloadWords ++ fill) ∧ f.command k = some c ∧
      f.refusal k = if q.allowedOn k then none else some (q.code, .denied) := by
  have length : c.payloadWords.length = q.payloadLength := c.payloadWords_length request
  have payload : (c.payloadWords ++ fill).take (q.header.extractLsb' 0 4).toNat = c.payloadWords := by
    rw [q.header_length, ← length, List.take_left]
  refine ⟨⟨16 * (q.header :: (c.payloadWords ++ fill)).length, q.header :: (c.payloadWords ++ fill)⟩, ?_, rfl, ?_, ?_⟩
  · simp only [Instr.frame, request, Option.map_some]
  · simp only [Frame.command, q.header_code, requestOfCode_code, Option.map_some, payload,
      Request.command_payloadWords request fits]
  · have counted : Frame.Counted ⟨16 * (q.header :: (c.payloadWords ++ fill)).length,
        q.header :: (c.payloadWords ++ fill)⟩ := by
      simp only [Frame.Counted, List.length_cons, List.length_append, length]
      omega
    rw [Frame.refusal_of_rights rfl counted q.header_code.symm k q.header_reserved
      (by simp [q.header_length, length]) q.header_length, q.header_code]

end Sys2Proof

namespace Sys2Proof.Machine

/-! ## What a frame does -/

theorem discards_of_whole {k : StationLink} {s : State} (whole : (s.link k).phase ≠ .discarded) :
    s.discards k = false := by
  simpa [State.discards] using whole

/-- The response of the first check that fails, and nothing else (R192). -/
theorem exec_brokenFrame_of_refused {k : StationLink} {s : State} {f : Frame} {code : BitVec 8} {res : Result}
    (whole : (s.link k).phase ≠ .discarded) (refused : f.refusal k = some (code, res)) :
    exec (.brokenFrame k f) s = .next (s.answer k ⟨code, res, .none⟩) := by
  change execBrokenFrame k f s = _
  simp [execBrokenFrame, discards_of_whole whole, refused]

/-- A request row whose frame is not discarded, or is, does what `taken` says of its own work. -/
theorem exec_request_taken {c : Instr} {k : StationLink} {q : Request} (request : c.request = some (k, q)) (s : State) :
    ∃ body, exec c s = taken k q s body := by
  cases c <;> simp only [Instr.request, Option.some.injEq, Prod.mk.injEq, reduceCtorEq] at request <;>
    obtain ⟨rfl, rfl⟩ := request <;> exact ⟨_, rfl⟩

theorem exec_request_of_denied {c : Instr} {k : StationLink} {q : Request} {s : State}
    (request : c.request = some (k, q)) (whole : (s.link k).phase ≠ .discarded) (denied : q.allowedOn k = false) :
    exec c s = .next (s.answer k ⟨q.code, .denied, .none⟩) := by
  obtain ⟨body, does⟩ := exec_request_taken request s
  exact does.trans (taken_of_denied body whole denied)

theorem exec_request_of_discarded {c : Instr} {k : StationLink} {q : Request} {s : State}
    (request : c.request = some (k, q)) (discarded : (s.link k).phase = .discarded) : exec c s = .next s := by
  obtain ⟨body, does⟩ := exec_request_taken request s
  have lost : s.discards k = true := by simp [State.discards, discarded]
  rw [does, taken, if_pos lost]

theorem exec_brokenFrame_of_discarded {k : StationLink} {s : State} (f : Frame)
    (discarded : (s.link k).phase = .discarded) : exec (.brokenFrame k f) s = .next s := by
  have lost : s.discards k = true := by simp [State.discards, discarded]
  exact if_pos lost

/-- A frame that passes every check does what the row does that its words spell (Log 14). -/
theorem exec_brokenFrame_of_spelled {c : Instr} {k : StationLink} {q : Request} {f : Frame} (s : State)
    (request : c.request = some (k, q)) (passes : f.refusal k = none) (spells : f.command k = some c) :
    exec (.brokenFrame k f) s = exec c s := by
  by_cases discarded : (s.link k).phase = .discarded
  · rw [exec_brokenFrame_of_discarded f discarded, exec_request_of_discarded request discarded]
  · rw [exec_eq_execRequest (c := c) (by simp [request])]
    change execBrokenFrame k f s = _
    simp [execBrokenFrame, discards_of_whole discarded, passes, spells]

/-- Settles O48: the response and page words by their definitions, the checks in their order, and every request row by
the frame of its own words. -/
theorem framesAreCheckedAndAnswered : Obligations.FramesAreCheckedAndAnswered := by
  intro k s slot whole
  refine ⟨⟨_, rfl, rfl, fun n => ?_⟩, fun r => ?_, fun n page image p is => ?_, fun kept => ?_,
    fun f kept => ⟨fun uncounted => ?_, fun header payload words isCounted => ⟨fun failed => ?_, ?_⟩⟩,
    fun c q request => ⟨fun kept denied => exec_request_of_denied request kept denied, fun fill fits room => ?_⟩,
    fun discarded => ⟨fun f => exec_brokenFrame_of_discarded f discarded,
      fun c q request => exec_request_of_discarded request discarded⟩⟩
  · simp [LinkUnit.shiftedOut]
  · simp only [Response.words, responseHeader_eq]
  · exact ⟨_, rfl, statusPage_words_length is⟩
  · exact taken_of_whole _ kept (by cases k <;> rfl)
  · exact exec_brokenFrame_of_refused kept (Frame.refusal_of_uncounted k uncounted)
  · by_cases known : ∃ q : Request, q.code = header.extractLsb' 8 8
    · obtain ⟨q, code⟩ := known
      have reserved := failed.resolve_left (fun unknown => unknown q code)
      exact exec_brokenFrame_of_refused kept (Frame.refusal_of_reserved words isCounted code k reserved)
    · exact exec_brokenFrame_of_refused kept
        (Frame.refusal_of_unknown k words isCounted (not_exists.mp known))
  · refine fun q code reserved => ⟨fun length => ?_, fun enough length denied => ?_⟩
    · exact exec_brokenFrame_of_refused kept (Frame.refusal_of_length words isCounted code k reserved length)
    · refine exec_brokenFrame_of_refused kept
        ((Frame.refusal_of_rights words isCounted code k reserved enough length).trans (if_neg ?_))
      simp [denied]
  · obtain ⟨f, framed, words, spells, checked⟩ := Instr.frame_spells request fits room
    refine ⟨f, framed, words, c.payloadWords_length request, spells, fun allowed => ?_⟩
    exact exec_brokenFrame_of_spelled s request (checked.trans (if_pos allowed)) spells

end Sys2Proof.Machine


/-!
PROOFS. Ejects and stacks closed short (07: R125 to R133, R165): the head of an eject list by the state of its pusher,
and the open stack that joins the list.
-/

namespace Sys2Proof.Machine

/-! ## The head of an eject list (R128) -/

/-- A lane whose head has left its list, the next one armed ahead. -/
def LaneUnit.headTaken (u : LaneUnit) : LaneUnit :=
  { u with ejects := match u.ejects.tail with
      | [] => []
      | e :: rest => { e with position := { e.position with reached := false } } :: rest }

theorem headReady_eq (s : State) (l : Lane) (i : SlotIndex) (r : StackRecord) :
    s.headReady l i r = (s.setLane l (s.lane l).headTaken).readied i r := rfl

theorem readied_setLane (s : State) (i : SlotIndex) (r : StackRecord) (l : Lane) (u : LaneUnit) :
    (s.readied i r).setLane l u = (s.setLane l u).readied i r := rfl

section
variable {l : Lane} {s : State} {e : Eject} {rest : List Eject} {r : StackRecord}

theorem ejectReached_of_unreached (n : Nat) (unreached : (s.lane l).headReached = false) : ejectReached l n s = s := by
  cases n with
  | zero => rfl
  | succ n =>
    unfold ejectReached
    rw [unreached]
    rfl

theorem LaneUnit.headTaken_headReached (u : LaneUnit) : u.headTaken.headReached = false := by
  unfold LaneUnit.headTaken LaneUnit.headReached
  cases u.ejects.tail <;> rfl

theorem headReady_lane (i : SlotIndex) (r : StackRecord) : (s.headReady l i r).lane l = (s.lane l).headTaken :=
  setLane_lane_same _ _ _

/-- The head leaves the list, its record READY, and the next head, that lies ahead, is armed. -/
theorem releaseHead_eq (ejects : (s.lane l).ejects = e :: rest) (held : s.slot e.slot = .held .closed r)
    (ahead : NextEjectAhead s l) (f : StackRecord → StackRecord) :
    releaseHead l f s = s.headReady l e.slot (f r) := by
  have made : makeReady e.slot f (s.setLane l { s.lane l with ejects := rest }) =
      (s.setLane l { s.lane l with ejects := rest }).readied e.slot (f r) :=
    makeReady_of_closed f (by rw [setLane_slot, held])
  have lane : ((s.setLane l { s.lane l with ejects := rest }).readied e.slot (f r)).lane l =
      { s.lane l with ejects := rest } := setLane_lane_same _ _ _
  unfold releaseHead
  simp only [ejects, made]
  unfold armEjectHead
  rw [lane, headReady_eq, LaneUnit.headTaken, ejects, List.tail_cons]
  cases rest with
  | nil => rfl
  | cons e' rest' =>
    have next : atOrBeyond s.belt e'.position.target = false := ahead e' (by rw [ejects]; rfl)
    have unreached : (!s.mode.isHalt && atOrBeyond s.belt e'.position.target) = false := by rw [next, Bool.and_false]
    dsimp only
    rw [readied_setLane, setLane_setLane]
    change (s.setLane l { s.lane l with ejects := { e' with position := { e'.position with
      reached := !s.mode.isHalt && atOrBeyond s.belt e'.position.target } } :: rest' }).readied e.slot (f r) = _
    rw [unreached]

/-! ## Ejects (R128 to R130, R165) -/

theorem ejectHead_of_dry (ejects : (s.lane l).ejects = e :: rest) (held : s.slot e.slot = .held .closed r)
    (ahead : NextEjectAhead s l) (dry : s.mode.isDryKind = true) :
    ejectHead l s = s.headReady l e.slot (s.ejectedRecord l r) := by
  unfold ejectHead
  simp only [ejects, dry, if_true]
  rw [releaseHead_eq ejects held ahead]
  rfl

section
variable (ejects : (s.lane l).ejects = e :: rest) (pulses : s.mode.isDryKind = false)
include ejects pulses

theorem ejectHead_of_latched (held : s.slot e.slot = .held .closed r) (ahead : NextEjectAhead s l)
    (latched : (s.pusher l).drive = .latched) :
    ejectHead l s = s.headReady l e.slot { r with ejectFault := true } := by
  refine Eq.trans ?_ (releaseHead_eq ejects held ahead StackRecord.withEjectFault)
  unfold ejectHead
  simp only [ejects, pulses, latched, Bool.false_eq_true, if_false]

theorem ejectHead_of_free (held : s.slot e.slot = .held .closed r) (ahead : NextEjectAhead s l)
    (free : (s.pusher l).drive = .free) :
    ejectHead l s = (s.headReady l e.slot r).pulsedFor l e.slot e.seq := by
  have lane : ((startPusherPulse l s).setLane l { s.lane l with pulseStack := some (e.slot, e.seq) }).lane l =
      { s.lane l with pulseStack := some (e.slot, e.seq) } := setLane_lane_same _ _ _
  have released := releaseHead_eq (l := l) (r := r) (e := e) (rest := rest)
    (s := (startPusherPulse l s).setLane l { s.lane l with pulseStack := some (e.slot, e.seq) })
    (by rw [lane]; exact ejects) held (by rw [NextEjectAhead, lane]; exact ahead) id
  have unfolded : ejectHead l s = releaseHead l id
      ((startPusherPulse l s).setLane l { s.lane l with pulseStack := some (e.slot, e.seq) }) := by
    unfold ejectHead
    split
    · next none => cases none.symm.trans ejects
    · next e' rest' same =>
      cases same.symm.trans ejects
      rw [pulses, free]
      rfl
  rw [unfolded, released, State.pulsedFor]
  change _ = ((s.headReady l e.slot r).setPusher l { s.pusher l with drive := .pulse s.profile.pusherPulse }).setLane l
    { (s.headReady l e.slot r).lane l with pulseStack := some (e.slot, e.seq) }
  rw [headReady_lane, headReady_eq, headReady_eq, lane, setLane_setLane]
  change _ = (((startPusherPulse l s).setLane l (s.lane l).headTaken).setLane l
    { (s.lane l).headTaken with pulseStack := some (e.slot, e.seq) }).readied e.slot r
  rw [setLane_setLane]
  rfl

theorem ejectHead_of_busy (busy : (s.pusher l).drive.isBusy = true) :
    ejectHead l s = s.setLane l { s.lane l with
      ejects := { e with due := true, position := { e.position with reached := false } } :: rest } := by
  unfold ejectHead
  split
  · next none => cases none.symm.trans ejects
  · next e' rest' same =>
    cases same.symm.trans ejects
    rw [pulses]
    cases drive : (s.pusher l).drive with
    | free | latched => rw [drive] at busy; cases busy
    | pulse _ | offTime _ => rfl

end

end

theorem setPusher_setPusher (s : State) (l : Lane) (p q : Pusher) : (s.setPusher l p).setPusher l q = s.setPusher l q := by
  unfold State.setPusher
  simp [State.setAct]

/-! ## The row of an eject and the pusher's own times (R128 to R130, R165) -/

section
variable {l : Lane} {s : State}

theorem runEjects_of_reached (reached : (s.lane l).headReached = true)
    (taken : ((ejectHead l s).lane l).headReached = false) : runEjects l s = ejectHead l s := by
  unfold runEjects
  cases ejects : (s.lane l).ejects with
  | nil => rw [LaneUnit.headReached, ejects] at reached; cases reached
  | cons e rest =>
    rw [List.length_cons, ejectReached, reached]
    exact ejectReached_of_unreached _ taken

theorem pulsedFor_headReached (i : SlotIndex) (seq : Seq) :
    ((s.pulsedFor l i seq).lane l).headReached = (s.lane l).headReached := by
  have lane : (s.pulsedFor l i seq).lane l = { s.lane l with pulseStack := some (i, seq) } := setLane_lane_same _ _ _
  rw [lane]
  rfl

/-- The row of a reached head that its eject takes. -/
theorem exec_ejectPosition_of_taken {t : State} (clear : SensesClear s) (running : s.mode.isHalt = false)
    (reached : (s.lane l).headReached = true) (ejected : ejectHead l s = t) (taken : (t.lane l).headReached = false) :
    exec (.ejectPosition l) s = .next (refreshFilters s t) := by
  have run : runEjects l s = t :=
    (runEjects_of_reached reached (by rw [ejected]; exact taken)).trans ejected
  have row : exec (.ejectPosition l) s = .next (finishDrive s (runEjects l s)) := by
    refine congrArg Host.Outcome.next (if_pos ?_)
    rw [running, reached]
    rfl
  rw [row, clear.finishDrive_eq (by simp) (runEjects_internal l s), run]

theorem exec_pusherOffTimeEnd {n : Nat} (clear : SensesClear s) (off : (s.pusher l).drive = .offTime n) :
    exec (.pusherOffTimeEnd l) s = .next (refreshFilters s (endPusherOffTime l s)) := by
  have row : exec (.pusherOffTimeEnd l) s = .next (finishDrive s (endPusherOffTime l s)) := by
    show execPusherOffTimeEnd l s = _
    rw [execPusherOffTimeEnd, off]
  rw [row, clear.finishDrive_eq (by simp) (endPusherOffTime_internal l s)]

/-- A pusher freed with its head due ejects that head. -/
theorem endPusherOffTime_of_due (idle : (s.pusher l).pendingPulse = false) (running : s.mode.isHalt = false)
    (due : (s.lane l).headDue = true) {t : State}
    (ejected : ejectHead l (s.setPusher l { s.pusher l with drive := .free }) = t)
    (taken : (t.lane l).headReached = false) : endPusherOffTime l s = t := by
  have freed : endPusherOffTime l s = freePusher l s := by
    refine if_neg ?_
    rw [idle]
    exact Bool.false_ne_true
  have ejects : freePusher l s = runEjects l (ejectHead l (s.setPusher l { s.pusher l with drive := .free })) := by
    refine if_pos ?_
    rw [running]
    exact due
  rw [freed, ejects, ejected]
  exact ejectReached_of_unreached _ taken

theorem endPusherOffTime_of_rest (rest : s.mode.isHalt = true ∨
      (s.pusher l).pendingPulse = false ∧ ∀ e ∈ (s.lane l).ejects.head?, e.due = false) :
    endPusherOffTime l s = s.setPusher l { s.pusher l with drive := .free } := by
  have freed : endPusherOffTime l s = freePusher l s := by
    refine if_neg ?_
    rcases rest with halted | ⟨idle, -⟩
    · rw [halted, Bool.not_true, Bool.and_false]
      exact Bool.false_ne_true
    · rw [idle]
      exact Bool.false_ne_true
  rw [freed]
  refine if_neg ?_
  rcases rest with halted | ⟨-, waits⟩
  · rw [halted]
    exact Bool.false_ne_true
  · have undue : (s.lane l).headDue = false := by
      unfold LaneUnit.headDue
      cases ejects : (s.lane l).ejects with
      | nil => rfl
      | cons e rest => exact waits e (by rw [ejects]; rfl)
    change ¬(!s.mode.isHalt && (s.lane l).headDue) = true
    rw [undue, Bool.and_false]
    exact Bool.false_ne_true

end

/-- Settles O37: the eject of the head by its pusher, and the pusher's own times. -/
theorem ejectsFollowTheirPusher : Obligations.EjectsFollowTheirPusher := by
  refine ⟨fun l s e rest ejects running clear ahead r held => ⟨fun reached => ?_, fun due idle n off => ?_⟩,
    fun l s clear => ?_⟩
  · have headReached : (s.lane l).headReached = true := by rw [LaneUnit.headReached, ejects]; exact reached
    have takes {t : State} (ejected : ejectHead l s = t) (taken : (t.lane l).headReached = false) :
        exec (.ejectPosition l) s = .next (refreshFilters s t) :=
      exec_ejectPosition_of_taken clear running headReached ejected taken
    have taken (r : StackRecord) : ((s.headReady l e.slot r).lane l).headReached = false := by
      rw [headReady_lane, LaneUnit.headTaken_headReached]
    refine ⟨fun dry => takes (ejectHead_of_dry ejects held ahead dry) (taken _),
      fun pulses => ⟨fun free => ?_, fun latched => ?_, fun busy => ?_⟩⟩
    · exact takes (ejectHead_of_free ejects pulses held ahead free) (by rw [pulsedFor_headReached, taken])
    · exact takes (ejectHead_of_latched ejects pulses held ahead latched) (taken _)
    · exact takes (ejectHead_of_busy ejects pulses busy) (by rw [setLane_lane_same]; rfl)
  · intro t
    have headDue : (s.lane l).headDue = true := by rw [LaneUnit.headDue, ejects]; exact due
    have free : (t.pusher l).drive = .free := by rw [setPusher_pusher_same]
    have ends {v : State} (ejected : ejectHead l t = v) (taken : (v.lane l).headReached = false) :
        exec (.pusherOffTimeEnd l) s = .next (refreshFilters s v) :=
      (exec_pusherOffTimeEnd clear off).trans
        (congrArg (fun v => Host.Outcome.next (refreshFilters s v))
          (endPusherOffTime_of_due idle running headDue ejected taken))
    have taken : ((t.headReady l e.slot r).lane l).headReached = false := by
      rw [headReady_lane, LaneUnit.headTaken_headReached]
    refine ⟨fun dry => ends ?_ taken, fun pulses => ends (ejectHead_of_free ejects pulses held ahead free) ?_⟩
    · have kept : t.ejectedRecord l r = r := if_neg (by rw [free]; exact nofun)
      exact (ejectHead_of_dry (s := t) ejects held ahead dry).trans (by rw [kept])
    · rw [pulsedFor_headReached, taken]
  · intro p
    refine ⟨fun w pulse => ?_, fun still => ?_, fun n off => ⟨fun pending running => ?_, fun rest => ?_⟩, fun other => ?_⟩
    · have ended : endPusherPulse l s = _ := if_pos (by rw [show (s.pusher l).drive = _ from pulse]; rfl)
      show execPusherPulseEnd l s = _
      rw [execPusherPulseEnd, show (s.pusher l).drive = _ from pulse]
      dsimp only
      rw [clear.finishDrive_eq (by simp) (endPusherPulse_internal l s), ended]
    · show execPusherPulseEnd l s = _
      rw [execPusherPulseEnd]
      cases drive : (s.pusher l).drive with
      | pulse w => rw [show p.drive = _ from drive] at still; cases still
      | free | offTime _ | latched => rfl
    · have starts : endPusherOffTime l s = startPusherPulse l (s.setPusher l { s.pusher l with pendingPulse := false }) := by
        refine if_pos ?_
        rw [show (s.pusher l).pendingPulse = true from pending, running]
        rfl
      rw [exec_pusherOffTimeEnd clear off, starts, startPusherPulse, setPusher_pusher_same, setPusher_setPusher]
      rfl
    · rw [exec_pusherOffTimeEnd clear off, endPusherOffTime_of_rest rest]
    · show execPusherOffTimeEnd l s = _
      rw [execPusherOffTimeEnd]
      cases drive : (s.pusher l).drive with
      | offTime n => rw [show p.drive = _ from drive] at other; exact absurd other (by simp [Drive.isBusy, Drive.isPulse])
      | free | pulse _ | latched => rfl

/-! ## An entry joins the list (R125, R127, R131) -/

section
variable {l : Lane} {s : State} {i : SlotIndex} {seq : Seq} {target : Pos}

/-- The entry of a stack that closes, before it is due. -/
def newEject (i : SlotIndex) (seq : Seq) (target : Pos) (reached : Bool) : Eject := ⟨i, seq, ⟨target, reached⟩, false⟩

theorem joinEjects_of_first (empty : (s.lane l).ejects = []) :
    joinEjects l i seq target s = runEjects l (s.setLane l { s.lane l with
      ejects := [newEject i seq target (!s.mode.isHalt && atOrBeyond s.belt target)] }) := by
  have joined : joinEjects l i seq target s =
      runEjects l (armEjectHead l (s.setLane l { s.lane l with ejects := [newEject i seq target false] })) := by
    unfold joinEjects
    simp only [empty]
    rfl
  rw [joined, armEjectHead, setLane_lane_same]
  dsimp only
  rw [setLane_setLane]
  rfl

theorem joinEjects_of_wait (waits : (s.lane l).ejects ≠ [] ∨ atOrBeyond s.belt target = false ∨ s.mode.isHalt = true) :
    joinEjects l i seq target s = s.setLane l { s.lane l with
      ejects := (s.lane l).ejects ++ [newEject i seq target false] } := by
  cases ejects : (s.lane l).ejects with
  | cons e rest =>
    unfold joinEjects
    simp only [ejects]
    rfl
  | nil =>
    have unreached : (!s.mode.isHalt && atOrBeyond s.belt target) = false := by
      rcases waits with some | ahead | halted
      · exact absurd ejects some
      · rw [ahead, Bool.and_false]
      · rw [halted]
        rfl
    rw [joinEjects_of_first ejects, unreached]
    exact ejectReached_of_unreached _ (by rw [setLane_lane_same]; rfl)

theorem joinEjects_of_passed (empty : (s.lane l).ejects = []) (passed : atOrBeyond s.belt target = true)
    (running : s.mode.isHalt = false) {t : State}
    (ejected : ejectHead l (s.setLane l { s.lane l with ejects := [newEject i seq target true] }) = t)
    (taken : (t.lane l).headReached = false) : joinEjects l i seq target s = t := by
  have reached : (!s.mode.isHalt && atOrBeyond s.belt target) = true := by rw [running, passed]; rfl
  rw [joinEjects_of_first empty, reached]
  exact (runEjects_of_reached (by rw [setLane_lane_same]; rfl) (by rw [ejected]; exact taken)).trans ejected

theorem setSlot_setSlot (s : State) (i : SlotIndex) (x y : Slot) : (s.setSlot i x).setSlot i y = s.setSlot i y := by
  unfold State.setSlot
  simp [State.setLog]

theorem setSlot_setLane (s : State) (i : SlotIndex) (x : Slot) (l : Lane) (u : LaneUnit) :
    (s.setSlot i x).setLane l u = (s.setLane l u).setSlot i x := rfl

theorem headReady_setSlot (s : State) (l : Lane) (i : SlotIndex) (x : Slot) (r : StackRecord) :
    (s.setSlot i x).headReady l i r = s.headReady l i r := by
  unfold State.headReady State.setSlot
  simp [State.setLog, State.setLane, State.setLanes, State.lane]

end

/-! ## Stacks closed short (R131) -/

section
variable {l : Lane} {s : State} {o : OpenStack} {q : StackRecord} (kind : ClosingKind)

/-- The open stack closed into the list of its lane. -/
theorem closeIntoEjects_eq (held : s.slot o.slot = .held .forming q) :
    closeIntoEjects l o q.seq kind s = joinEjects l o.slot q.seq (s.ejectAt o)
      ((s.setLane l { s.lane l with openStack := none }).setSlot o.slot (.held .closed { q with closing := some kind })) := by
  unfold closeIntoEjects
  rw [closeSlot_of_forming kind (by rw [setLane_slot, held])]
  rfl

/-- The first entry of a list whose position the belt has passed: its stack is ejected by the state of the pusher. -/
theorem joinEjects_ejects {i : SlotIndex} {seq : Seq} {target : Pos} {c : StackRecord} (empty : (s.lane l).ejects = [])
    (passed : atOrBeyond s.belt target = true) (running : s.mode.isHalt = false) :
    let listed (due : Bool) := s.setLane l { s.lane l with ejects := [⟨i, seq, ⟨target, !due⟩, due⟩] }
    let ejected := (listed false).headReady l i (s.ejectedRecord l c)
    joinEjects l i seq target (s.setSlot i (.held .closed c)) =
      if s.mode.isDryKind then ejected
      else match (s.pusher l).drive with
        | .free => ejected.pulsedFor l i seq
        | .latched => ejected
        | .pulse _ | .offTime _ => (listed true).setSlot i (.held .closed c) := by
  intro listed _
  have lane : ((listed false).setSlot i (.held .closed c)).lane l =
      { s.lane l with ejects := [newEject i seq target true] } := setLane_lane_same _ _ _
  have ejects : (((listed false).setSlot i (.held .closed c)).lane l).ejects = [newEject i seq target true] := by rw [lane]
  have held : ((listed false).setSlot i (.held .closed c)).slot (newEject i seq target true).slot = .held .closed c :=
    setSlot_slot_same _ _ _
  have ahead : NextEjectAhead ((listed false).setSlot i (.held .closed c)) l := by
    intro e next
    rw [ejects] at next
    cases next
  have joins {t : State} (ejected : ejectHead l ((listed false).setSlot i (.held .closed c)) = t)
      (taken : (t.lane l).headReached = false) :
      joinEjects l i seq target (s.setSlot i (.held .closed c)) = t :=
    joinEjects_of_passed (s := s.setSlot i (.held .closed c)) empty passed running ejected taken
  have ready (r : StackRecord) : ((listed false).setSlot i (.held .closed c)).headReady l i r =
      (listed false).headReady l i r := headReady_setSlot _ l i _ r
  have taken (r : StackRecord) : (((listed false).headReady l i r).lane l).headReached = false := by
    rw [headReady_lane, LaneUnit.headTaken_headReached]
  by_cases dry : s.mode.isDryKind = true
  · rw [if_pos dry]
    exact joins ((ejectHead_of_dry ejects held ahead dry).trans (ready _)) (taken _)
  · rw [if_neg dry]
    have pulses : s.mode.isDryKind = false := by simpa using dry
    cases drive : (s.pusher l).drive with
    | free =>
      have kept : s.ejectedRecord l c = c := if_neg (by rw [drive]; exact nofun)
      refine joins ((ejectHead_of_free ejects pulses held ahead drive).trans ?_) ?_
      · exact congrArg (fun t => State.pulsedFor t l i seq) ((ready c).trans (by rw [← kept]))
      · rw [pulsedFor_headReached, taken]
    | latched =>
      have flagged : s.ejectedRecord l c = { c with ejectFault := true } := if_pos drive
      exact joins ((ejectHead_of_latched ejects pulses held ahead drive).trans ((ready _).trans (by rw [← flagged]))) (taken _)
    | pulse w | offTime w =>
      refine joins ((ejectHead_of_busy ejects pulses (show (s.pusher l).drive.isBusy = true by rw [drive]; rfl)).trans ?_) ?_
      · rw [lane, setSlot_setLane, setLane_setLane]
        rfl
      · exact congrArg LaneUnit.headReached (setLane_lane_same s l _)

/-- A stack closed short is made READY empty, waits in its list, or is ejected at once. -/
theorem shortClose_eq (forming : s.formingStack l = some (o, q)) : shortClose l kind s = s.shortEnded l o q kind := by
  obtain ⟨opened, record⟩ := formingStack_eq forming
  have held := formingRecord_eq_some.mp record
  have closes : shortClose l kind s = if q.count = 0 then
      makeReady o.slot (fun r => { r with closing := some .aborted }) (s.setLane l { s.lane l with openStack := none })
      else closeIntoEjects l o q.seq kind s := by
    unfold shortClose
    simp only [opened, record]
  unfold State.shortEnded
  by_cases empty : q.count = 0
  · rw [closes, if_pos empty, makeReady_of_forming _ (by rw [setLane_slot, held])]
    dsimp only
    rw [if_pos (.inl empty), State.shortClosed, if_pos empty]
    rfl
  rw [closes, if_neg empty, closeIntoEjects_eq kind held]
  generalize content : ({ q with closing := some kind } : StackRecord) = c
  have lane : (s.setLane l { s.lane l with openStack := none }).lane l = { s.lane l with openStack := none } :=
    setLane_lane_same _ _ _
  dsimp only
  by_cases waits : EjectWaits s l o q
  · rw [if_pos waits, joinEjects_of_wait (s := (s.setLane l _).setSlot o.slot (.held .closed c))
      (by rw [setSlot_lane, lane]; exact waits.resolve_left empty), setSlot_lane, lane, State.shortClosed, if_neg empty,
      content, setSlot_setLane, setLane_setLane]
    rfl
  · obtain ⟨-, bare, reaches, runs⟩ : ¬q.count = 0 ∧ (s.lane l).ejects = [] ∧ atOrBeyond s.belt (s.ejectAt o) = true ∧
        s.mode.isHalt = false := by simpa [EjectWaits] using waits
    have joined := joinEjects_ejects (s := s.setLane l { s.lane l with openStack := none }) (l := l) (i := o.slot)
      (seq := q.seq) (target := s.ejectAt o) (c := c) (by rw [lane]; exact bare) reaches runs
    simp only [lane, setLane_setLane] at joined
    rw [if_neg waits]
    exact joined

end

/-! ## CLOSE_NOW and CANCEL_ORDER of an open stack (R131 to R133) -/

theorem exec_closeNow {lane : Nat} {s : State} (frames : FramesWhole s) :
    exec (.closeNow .delivery lane) s = .next (match laneOf lane with
      | none => s.refuse .delivery .closeNow .range
      | some l => closeNow .delivery l s) :=
  taken_of_whole _ (frames.link .delivery) (by decide)

theorem closeNow_of_noStack {k : StationLink} {l : Lane} {s : State} (bare : s.formingStack l = none) :
    closeNow k l s = s.refuse k .closeNow .noStack := by
  unfold closeNow
  split
  · rfl
  · next o opened =>
    have absent : s.formingRecord o = none := by simpa [State.formingStack, opened] using bare
    rw [absent]

/-- Settles O36: the open stack of the lane is closed short, and the lane follows. -/
theorem openStacksAreClosedShort : Obligations.OpenStacksAreClosedShort := by
  intro l s frames clear
  refine ⟨fun bare => ?_, fun lane outside => ?_, fun o q forming => ?_⟩
  · rw [exec_closeNow frames, laneOf_succ]
    exact congrArg Host.Outcome.next (closeNow_of_noStack bare)
  · rw [exec_closeNow frames, (laneOf_eq_none lane).mpr outside]
  · intro following closed
    obtain ⟨opened, record⟩ := formingStack_eq forming
    constructor
    · have closes : closeOpenStack l o s = closed (s.shortEnded l o q .shortClose) := by
        have prof : (shortClose l .shortClose s).profile = s.profile := by simp [State.profile]
        rw [closeOpenStack, afterClose_eq, prof, shortClose_eq _ forming]
      have does : closeNow .delivery l s = (finishDrive s (closeOpenStack l o s)).reply .delivery .closeNow .ok
          (.stackNamed o.slot q.seq) := by
        unfold closeNow
        simp only [opened, record]
      rw [exec_closeNow frames, laneOf_succ]
      refine congrArg Host.Outcome.next (does.trans ?_)
      rw [clear.finishDrive_eq (by simp) (closeOpenStack_internal l o s), closes]
    · have cancels : cancelOpenStack l s =
          following (s.shortEnded l o q .shortCancel) .changing s.profile.changeGap := by
        unfold cancelOpenStack
        rw [shortClose_eq _ forming]
      have does : cancelOn .line l q.tag s = (finishDrive s (cancelOpenStack l s)).reply .line .cancelOrder .ok
          (.stackCancelled o.slot q.seq (q.count != 0)) := by
        unfold cancelOn
        simp only [forming, if_true]
      rw [exec_cancelOrder frames, does, clear.finishDrive_eq (by simp) (cancelOpenStack_internal l s), cancels]

end Sys2Proof.Machine


/-!
PROOFS. The gate decision (06: R104 to R116; 07: R122 to R126, R139): the table of its twelve checks, and what each
outcome does to its lane.
-/

namespace Sys2Proof.Machine

/-! ## The table of the checks (R104 to R115) -/

/-- The checks of a label that a lane judges, after those of the lane itself (R109 to R115). -/
def labelRows (p : Profile) (r : RepeatRecord) (l : Lane) (rejectEnd : Option Fading) (seq : Seq) :
    List (Bool × Disposition) :=
  [ (r.purge, .rejected .purge), (r.reg, .rejected .reg), (r.uncut, .rejected .uncut), (r.splice, .rejected .splice),
    (r.spacing, .rejected .spacing), (LaneSet.has r.lineLanes l, .rejected .line),
    (LaneSet.has r.vision l, .rejected .vision),
    (r.inspection && r.verdict == .awaited && p.noVerdict == .reject, .rejected .noVerdict),
    (rejectEnd.any (fun e => !atOrBeyond (r.stamp + BitVec.ofNat 32 p.gGate) (e.value + BitVec.ofNat 32 p.minClosed)),
      .rejected .gateMerge),
    (true, .stacked seq) ]

/-- The disposition of the first row that applies. -/
def firstApplying (rows : List (Bool × Disposition)) : Disposition :=
  ((rows.find? (fun c => c.1)).map (fun c => c.2)).getD .undecided

theorem firstApplying_cons (b : Bool) (d : Disposition) (rows : List (Bool × Disposition)) :
    firstApplying ((b, d) :: rows) = if b then d else firstApplying rows := by
  cases b <;> rfl

theorem gateMerges_eq (p : Profile) (r : RepeatRecord) (rejectEnd : Option Fading) : gateMerges p r rejectEnd =
    rejectEnd.any (fun e => !atOrBeyond (r.stamp + BitVec.ofNat 32 p.gGate) (e.value + BitVec.ofNat 32 p.minClosed)) := by
  cases rejectEnd <;> rfl

/-- The rows of a label, by the first cause against it. -/
theorem labelRows_first (p : Profile) (r : RepeatRecord) (l : Lane) (rejectEnd : Option Fading) (seq : Seq) :
    firstApplying (labelRows p r l rejectEnd seq) =
      ((labelCause p r l rejectEnd).map Disposition.rejected).getD (.stacked seq) := by
  unfold labelRows labelCause recordCause RepeatRecord.firstCause noVerdictRejects
  simp only [firstApplying_cons, gateMerges_eq]
  cases r.purge with
  | true => rfl
  | false =>
    cases r.reg with
    | true => rfl
    | false =>
      cases r.uncut with
      | true => rfl
      | false =>
        cases r.splice with
        | true => rfl
        | false =>
          cases r.spacing with
          | true => rfl
          | false =>
            cases LaneSet.has r.lineLanes l with
            | true => rfl
            | false =>
              cases LaneSet.has r.vision l with
              | true => rfl
              | false => split_ifs <;> rfl

/-- The checks of the lane itself (R104 to R108). -/
def laneRows (u : LaneUnit) (full : Bool) : List (Bool × Disposition) :=
  [ (u.state == .off, .rejected .laneOff),
    (u.state == .fault, .quarantined),
    (u.state == .held, .rejected .laneHeld),
    (u.state == .idle, .rejected .noOrder),
    (u.opens && u.orders.isEmpty, .rejected .noOrder),
    (u.opens && full, .rejected .logFull),
    (u.opens && decide (4 ≤ u.ejects.length), .rejected .ejectBusy),
    (u.state == .changing && u.gap != 0, .rejected .changeGap) ]

/-- No slot of the log is free. -/
def State.logFull (s : State) : Bool := allSlots.all (fun i => s.slot i != .free)

/-- The record of a number after its purge test. -/
def State.purged (s : State) (r : RepeatRecord) : RepeatRecord := { r with purge := s.purgeFlag r, purgeTested := true }

theorem tableDisposition_eq (s : State) (r : RepeatRecord) (l : Lane) : s.tableDisposition r l =
    firstApplying (laneRows (s.lane l) s.logFull ++
      labelRows s.profile (s.purged r) l (s.lane l).rejectEnd (s.stackingSeq l)) := rfl

theorem logFull_iff (s : State) : s.logFull = true ↔ s.freeSlot = none := by
  simp [State.logFull, State.freeSlot, List.find?_eq_none]

theorem judge_disposition_eq (r : RepeatRecord) (l : Lane) (s : State) {seq : Seq}
    (stacked : (stackLabel r l s).2 = .stacked seq) :
    (judge r l s).2 = firstApplying (labelRows s.profile r l (s.lane l).rejectEnd seq) := by
  rw [labelRows_first]
  unfold judge
  cases labelCause s.profile r l (s.lane l).rejectEnd with
  | some c => rfl
  | none => exact stacked

theorem stackLabel_disposition {s : State} {l : Lane} {o : OpenStack} {q : StackRecord} (r : RepeatRecord)
    (forming : s.formingStack l = some (o, q)) : (stackLabel r l s).2 = .stacked q.seq := by
  obtain ⟨opened, record⟩ := formingStack_eq forming
  unfold stackLabel
  simp only [opened, record]
  split <;> rfl

theorem formingStack_of {s : State} {l : Lane} {o : OpenStack} {q : StackRecord} (opened : (s.lane l).openStack = some o)
    (record : s.formingRecord o = some q) : s.formingStack l = some (o, q) := by
  simp [State.formingStack, opened, record]

/-- The lane as an opening leaves it (R122, R123). -/
def LaneUnit.withStack (u : LaneUnit) (i : SlotIndex) (o : Order) (rest : List Order) : LaneUnit :=
  { u with
    state := .stacking, orders := rest, gap := 0, nextSeq := u.nextSeq + 1, openStack := some ⟨i, o.nogap, o.final, none⟩ }

theorem openStack_forming {s : State} {l : Lane} {i : SlotIndex} (free : s.slot i = .free) (o : Order) (rest : List Order) :
    (openStack l i o rest s).lane l = (s.lane l).withStack i o rest ∧
    (openStack l i o rest s).formingStack l =
      some (⟨i, o.nogap, o.final, none⟩, openingRecord l o (s.lane l).nextSeq s.mode.isDryKind) := by
  rw [openStack_eq free]
  have lane := setLane_lane_same (s.setSlot i (.held .forming (openingRecord l o (s.lane l).nextSeq s.mode.isDryKind))) l
    ((s.lane l).withStack i o rest)
  refine ⟨lane, ?_⟩
  refine formingStack_of (congrArg LaneUnit.openStack lane) (formingRecord_eq_some.mpr ?_)
  rw [setLane_slot, setSlot_slot_same]

/-- An opening that fails, and the state it leaves (R122, R151). -/
theorem tryOpen_of_noOrder {s : State} {l : Lane} (empty : (s.lane l).orders = []) :
    tryOpen l s = (s.setLaneState l .idle, some .noOrder) := by
  unfold tryOpen
  simp only [empty]

section
variable {s : State} {l : Lane} {o : Order} {rest : List Order} (orders : (s.lane l).orders = o :: rest)
include orders

theorem tryOpen_of_logFull (full : s.freeSlot = none) :
    tryOpen l s = ((raiseEvent .logFull s).setLaneState l .blocked, some .logFull) := by
  unfold tryOpen
  simp only [orders, full]

theorem tryOpen_of_ejectBusy {i : SlotIndex} (free : s.freeSlot = some i) (busy : 4 ≤ (s.lane l).ejects.length) :
    tryOpen l s = (s.setLaneState l .blocked, some .ejectBusy) := by
  unfold tryOpen
  simp only [orders, free]
  exact if_neg (Nat.not_lt.mpr busy)

theorem tryOpen_of_room {i : SlotIndex} (free : s.freeSlot = some i) (room : (s.lane l).ejects.length < 4) :
    tryOpen l s = (openStack l i o rest s, none) := by
  unfold tryOpen
  simp only [orders, free]
  exact if_pos room

end

theorem openAndJudge_of_failed {s t : State} {l : Lane} {c : Cause} (tried : tryOpen l s = (t, some c)) (r : RepeatRecord) :
    openAndJudge r l s = (t, .rejected c) := by
  unfold openAndJudge
  simp only [tried]

theorem openAndJudge_of_opened {s t : State} {l : Lane} (tried : tryOpen l s = (t, none)) (r : RepeatRecord) :
    openAndJudge r l s = judge r l t := by
  unfold openAndJudge
  simp only [tried]

/-- A lane that opens is none of the lanes that do not. -/
theorem LaneUnit.opens_iff (u : LaneUnit) : u.opens = true ↔ u.state = .blocked ∨ u.state = .changing ∧ u.gap = 0 := by
  simp [LaneUnit.opens]

theorem laneRows_of_opens {u : LaneUnit} (opens : u.opens = true) (full : Bool) (rows : List (Bool × Disposition)) :
    firstApplying (laneRows u full ++ rows) =
      if u.orders = [] then .rejected .noOrder else if full then .rejected .logFull
      else if 4 ≤ u.ejects.length then .rejected .ejectBusy else firstApplying rows := by
  have change : (u.state == .changing && u.gap != 0) = false := by
    rcases (LaneUnit.opens_iff u).mp opens with blocked | ⟨-, gap⟩
    · rw [blocked]; rfl
    · simp [gap]
  have other (st : LaneState) (apart : st ≠ .blocked ∧ st ≠ .changing) : (u.state == st) = false := by
    rcases (LaneUnit.opens_iff u).mp opens with blocked | ⟨changing, -⟩
    · simp [blocked, Ne.symm apart.1]
    · simp [changing, Ne.symm apart.2]
  simp [laneRows, firstApplying_cons, change, other, opens]

theorem laneRows_of_closed {u : LaneUnit} (closed : u.opens = false) (full : Bool) (rows : List (Bool × Disposition)) :
    firstApplying (laneRows u full ++ rows) = match u.state with
      | .off => .rejected .laneOff
      | .fault => .quarantined
      | .held => .rejected .laneHeld
      | .idle => .rejected .noOrder
      | .changing => .rejected .changeGap
      | .blocked | .stacking => firstApplying rows := by
  cases state : u.state with
  | changing =>
    have gap : u.gap ≠ 0 := by
      intro gap
      simp [LaneUnit.opens, state, gap] at closed
    simp [laneRows, firstApplying_cons, closed, state, gap]
  | off | fault | held | idle | blocked | stacking => simp [laneRows, firstApplying_cons, closed, state]

theorem stackingSeq_of_opens {s : State} {l : Lane} (opens : (s.lane l).opens = true) :
    s.stackingSeq l = (s.lane l).nextSeq := if_pos opens

theorem openAndJudge_disposition {s : State} {l : Lane} (opens : (s.lane l).opens = true) (r : RepeatRecord) :
    (openAndJudge r l s).2 = firstApplying (laneRows (s.lane l) s.logFull ++
      labelRows s.profile r l (s.lane l).rejectEnd (s.stackingSeq l)) := by
  rw [laneRows_of_opens opens, stackingSeq_of_opens opens]
  cases orders : (s.lane l).orders with
  | nil => rw [openAndJudge_of_failed (tryOpen_of_noOrder orders), if_pos rfl]
  | cons o rest =>
    rw [if_neg (List.cons_ne_nil o rest)]
    cases found : s.freeSlot with
    | none => rw [openAndJudge_of_failed (tryOpen_of_logFull orders found), if_pos ((logFull_iff s).mpr found)]
    | some i =>
      have room : ¬s.logFull = true := by rw [logFull_iff, found]; exact nofun
      rw [if_neg room]
      by_cases busy : 4 ≤ (s.lane l).ejects.length
      · rw [openAndJudge_of_failed (tryOpen_of_ejectBusy orders found busy), if_pos busy]
      · obtain ⟨lane, forming⟩ := openStack_forming (l := l) (freeSlot_eq_some found) o rest
        rw [openAndJudge_of_opened (tryOpen_of_room orders found (Nat.lt_of_not_le busy)), if_neg busy,
          judge_disposition_eq r l _ (stackLabel_disposition r forming), lane]
        simp [State.profile, LaneUnit.withStack, openingRecord]

theorem gateChecks_of_opens {s : State} {l : Lane} (opens : (s.lane l).opens = true) (r : RepeatRecord) :
    gateChecks r l s = openAndJudge r l s := by
  unfold gateChecks
  rcases (LaneUnit.opens_iff _).mp opens with blocked | ⟨changing, gap⟩
  · simp only [blocked]
  · simp only [changing, gap, if_true]

/-- The gate checks of a lane give the disposition of the table. -/
theorem gateChecks_table {s : State} {l : Lane} {r : RepeatRecord} (tested : r.purgeTested = true)
    (stacking : (s.lane l).state = .stacking → ∃ o q, s.formingStack l = some (o, q)) :
    (gateChecks r l s).2 = s.tableDisposition r l := by
  have purged : s.purged r = r := by
    have flag : s.purgeFlag r = r.purge := if_pos tested
    rw [State.purged, flag, ← tested]
  rw [tableDisposition_eq, purged]
  cases opens : (s.lane l).opens with
  | true => rw [gateChecks_of_opens opens, openAndJudge_disposition opens]
  | false =>
    rw [laneRows_of_closed opens]
    unfold gateChecks
    cases state : (s.lane l).state with
    | blocked => simp [LaneUnit.opens, state] at opens
    | off | fault | held | idle => rfl
    | changing =>
      have gap : (s.lane l).gap ≠ 0 := by
        intro gap
        simp [LaneUnit.opens, state, gap] at opens
      simp only [if_neg gap]
    | stacking =>
      obtain ⟨o, q, forming⟩ := stacking state
      have seq : s.stackingSeq l = q.seq := by
        simp [State.stackingSeq, opens, forming]
      simp only [seq]
      exact judge_disposition_eq r l s (stackLabel_disposition r forming)

end Sys2Proof.Machine


/-!
PROOFS. The row of a decision that one lane takes (R84, R85, R113, R116, R139), and the outcomes of its label.
-/

namespace Sys2Proof.Machine

/-! ## What the row leaves beside the lane's own work -/

theorem refreshFilters_drive (before after : State) (m : Lane) :
    ((refreshFilters before after).gate m).hold = (after.gate m).hold ∧
    ((refreshFilters before after).pusher m).drive = (after.pusher m).drive := by
  obtain ⟨-, act⟩ := refreshFilters_same before after
  have gate := congrArg (fun a : Actuators => (a.gates[m]).hold) act
  have pusher := congrArg (fun a : Actuators => (a.pushers[m]).drive) act
  simp only [Actuators.unfiltered, Fin.getElem_fin, Vector.getElem_map] at gate pusher
  exact ⟨gate, pusher⟩

/-- The interval of a rejected label, and nothing for any other (R113). -/
def intervalOf (r : RepeatRecord) (l : Lane) (d : Disposition) (s : State) : State :=
  match d with
  | .rejected _ => rejectInterval r l s
  | .undecided | .stacked _ | .quarantined => s

/-- The second state is what the row of one lane's decision makes of the lane's work. -/
structure Decided (s : State) (l : Lane) (r : RepeatRecord) (made : State × Disposition) (t : State) : Prop where
  lanes : t.lanes = (intervalOf r l made.2 made.1).lanes
  log : t.log = made.1.log
  links : t.links = made.1.links
  cnt : t.cnt = (s.countLanes (fun m c => if m = l then c.decided made.2 else c)).cnt
  pos : t.pos = s.pos
  reg : t.reg = s.reg
  cut : t.cut = s.cut
  prof : t.prof = s.prof
  drive : ∀ m, (t.gate m).hold = ((intervalOf r l made.2 made.1).gate m).hold ∧
    (t.pusher m).drive = ((intervalOf r l made.2 made.1).pusher m).drive

theorem dispose_eq (r : RepeatRecord) (l : Lane) (d : Disposition) (s : State) : dispose r l d s =
    ((intervalOf r l d s).updateRecord r.repeatNo (fun r => { r with dispositions := r.dispositions.set l.val d })).countLanes
      (fun m c => if m = l then c.decided d else c) := by
  cases d <;> rfl

theorem intervalOf_frame (r : RepeatRecord) (l : Lane) (d : Disposition) (s : State) :
    (intervalOf r l d s).log = s.log ∧ (intervalOf r l d s).links = s.links ∧ (intervalOf r l d s).cnt = s.cnt ∧
    (intervalOf r l d s).pos = s.pos ∧ (intervalOf r l d s).reg = s.reg ∧ (intervalOf r l d s).cut = s.cut ∧
    (intervalOf r l d s).prof = s.prof := by
  cases d <;> simp [intervalOf]

/-- One lane's decision: its label is judged on the state whose record has its purge test made. -/
theorem exec_decision {n : RepeatNo} {l : Lane} {s : State} {r : RepeatRecord} (found : s.record n = some r)
    (running : s.mode.isHalt = false) (reached : r.decision.reached = true) (untaken : r.decisionTaken = false)
    (undecided : r.undecided l = true) (clear : SensesClear s) :
    ∃ map t, exec (.decisionPosition n [l]) s = .next t ∧
      Decided s l (s.purged r) (gateChecks (s.purged r) l (s.setMap map)) t := by
  have taken : exec (.decisionPosition n [l]) s = .next (finishDrive s (decisionEvent n [l] s)) := by
    show execDecisionPosition n [l] s = _
    rw [execDecisionPosition, found]
    exact congrArg Host.Outcome.next (if_pos (by simp [running, RepeatRecord.decisionDue, reached, untaken]))
  obtain ⟨map, tested⟩ : ∃ map, testPurge n s = s.setMap map := ⟨_, rfl⟩
  have found' : (s.setMap map).record n = some (s.purged r) := by
    rw [← tested, testPurge, record_updateRecord_same s (fun q => by split <;> rfl), found]
    exact congrArg some (purgeFlag_eq s r)
  have decides : decideLane n l (s.setMap map) = dispose (s.purged r) l (gateChecks (s.purged r) l (s.setMap map)).2
      (gateChecks (s.purged r) l (s.setMap map)).1 := by
    unfold decideLane
    simp only [found']
    exact if_pos undecided
  have event : decisionEvent n [l] s = markDecided n (decideLane n l (s.setMap map)) := by
    rw [decisionEvent, tested]
    rfl
  rw [decides, dispose_eq] at event
  refine ⟨map, _, taken, ?_⟩
  rw [clear.finishDrive_eq (by simp) (decisionEvent_internal n [l] s), event]
  obtain ⟨posMade, regMade, cutMade, -, profMade, -, cntMade, -, -⟩ := gateChecks_frame (s.purged r) l (s.setMap map)
  generalize gateChecks (s.purged r) l (s.setMap map) = made at *
  obtain ⟨log, links, cnt, pos, reg, cut, prof⟩ := intervalOf_frame (s.purged r) l made.2 made.1
  have counted {t : State} (same : t.cnt = s.cnt) :
      (t.countLanes (fun m c => if m = l then c.decided made.2 else c)).cnt =
        (s.countLanes (fun m c => if m = l then c.decided made.2 else c)).cnt := by
    unfold State.countLanes
    rw [same]
    rfl
  refine ⟨?_, ?_, ?_, ?_, ?_, ?_, ?_, ?_, fun m => ?_⟩
  · simp
  · simpa using log
  · simpa using links
  · simp only [refreshFilters_frame, markDecided_frame]
    exact counted (by simpa using cnt.trans cntMade)
  · simpa using pos.trans posMade
  · simpa using reg.trans regMade
  · simpa using cut.trans cutMade
  · simpa using prof.trans profMade
  · obtain ⟨hold, drive⟩ := refreshFilters_drive s (markDecided n (((intervalOf (s.purged r) l made.2 made.1).updateRecord
      (s.purged r).repeatNo (fun r => { r with dispositions := r.dispositions.set l.val made.2 })).countLanes
        (fun m c => if m = l then c.decided made.2 else c))) m
    exact ⟨hold, drive⟩

/-! ## A label of a lane in FAULT (R106, R139) -/

theorem recordCause_isSome (p : Profile) (r : RepeatRecord) (l : Lane) : (recordCause p r l).isSome =
    (r.purge || r.reg || r.uncut || r.splice || r.spacing || LaneSet.has r.lineLanes l || LaneSet.has r.vision l ||
      (r.inspection && r.verdict == .awaited && p.noVerdict == .reject)) := by
  unfold recordCause
  cases r.purge with
  | true => rfl
  | false =>
    have first : (r.firstCause l).isSome =
        (r.reg || r.uncut || r.splice || r.spacing || LaneSet.has r.lineLanes l) := by
      unfold RepeatRecord.firstCause
      cases r.reg <;> cases r.uncut <;> cases r.splice <;> cases r.spacing <;> cases LaneSet.has r.lineLanes l <;> rfl
    rw [Bool.false_or, ← first]
    cases r.firstCause l with
    | some c => rfl
    | none =>
      unfold noVerdictRejects
      cases LaneSet.has r.vision l <;>
        cases (r.inspection && r.verdict == .awaited && p.noVerdict == .reject) <;> rfl

theorem gateChecks_of_fault {s : State} {l : Lane} (fault : (s.lane l).state = .fault) (r : RepeatRecord) :
    gateChecks r l s = (quarantineLabel r l s, .quarantined) := by
  unfold gateChecks
  simp only [fault]

/-- Settles O34: the label joins the quarantine record of its lane. -/
theorem faultedLaneQuarantinesItsLabels : Obligations.FaultedLaneQuarantinesItsLabels := by
  intro n l s r found running reached untaken undecided clear fault q quarantine bad
  obtain ⟨map, t, taken, done⟩ := exec_decision found running reached untaken undecided clear
  rw [gateChecks_of_fault (s := s.setMap map) fault] at done
  obtain ⟨lanes, log, links, cnt, pos, reg, cut, prof, drive⟩ := done
  have number : r.repeatNo = n := repeatNo_of_record found
  have judged : shouldHaveBeenRejected s.profile (s.purged r) l = bad := recordCause_isSome s.profile (s.purged r) l
  refine ⟨t, taken, lanes.trans ?_, cnt, log, pos, reg, cut, prof, links, drive⟩
  have counted : (s.lane l).quarantine.map
      (fun q => q.countQuarantined (s.purged r) (shouldHaveBeenRejected s.profile (s.purged r) l)) =
      some (q.countQuarantined (s.purged r) bad) := by rw [quarantine, judged]; rfl
  change s.lanes.set l.val { s.lane l with
      quarantine := (s.lane l).quarantine.map
        (fun q => q.countQuarantined (s.purged r) (shouldHaveBeenRejected s.profile (s.purged r) l)) } = _
  rw [counted, StackRecord.countQuarantined, satInc_eq, ← number]
  rfl

end Sys2Proof.Machine


/-!
PROOFS. Labels stacked (07: R124 to R126): the count of the FORMING stack, and the close at its target.
-/

namespace Sys2Proof.Machine

section
variable {s : State} {l : Lane} {o : OpenStack} {q : StackRecord} (r : RepeatRecord)

/-- The lane that has closed its stack with a label of this record, its entry listed with the eject position ahead. -/
def LaneUnit.closedAt (u : LaneUnit) (p : Profile) (stamp : Pos) (o : OpenStack) (seq : Seq) : LaneUnit :=
  { u with
    openStack := none
    ejects := u.ejects ++ [newEject o.slot seq (ejectPosition p stamp) false]
    state := if o.final then .held else .changing
    gap := if o.final || o.nogap then 0 else p.changeGap }

variable (forming : s.formingStack l = some (o, q))
include forming

theorem stackLabel_of_room (room : q.count + 1 < q.target) : stackLabel r l s =
    ((s.setLane l { s.lane l with openStack := some { o with stamp := some r.stamp } }).setSlot o.slot
      (.held .forming (q.countLabel r)), .stacked q.seq) := by
  obtain ⟨opened, record⟩ := formingStack_eq forming
  have held := formingRecord_eq_some.mp record
  unfold stackLabel
  simp only [opened, record]
  rw [if_neg (Nat.not_le.mpr room), updateForming_of_forming _ (by rw [setLane_slot, held])]

theorem stackLabel_of_target (target : q.target ≤ q.count + 1)
    (ahead : (s.lane l).ejects ≠ [] ∨ atOrBeyond s.belt (ejectPosition s.profile r.stamp) = false) : stackLabel r l s =
    ((s.setLane l ((s.lane l).closedAt s.profile r.stamp o q.seq)).setSlot o.slot
      (.held .closed { q.countLabel r with closing := some .target }), .stacked q.seq) := by
  obtain ⟨opened, record⟩ := formingStack_eq forming
  have held := formingRecord_eq_some.mp record
  have unfolded : stackLabel r l s = (closeIntoEjects l { o with stamp := some r.stamp } q.seq .target
      (afterClose l o.nogap o.final (updateForming o.slot (fun q => q.countLabel r)
        (s.setLane l { s.lane l with openStack := some { o with stamp := some r.stamp } }))), .stacked q.seq) := by
    unfold stackLabel
    simp only [opened, record]
    exact if_pos target
  have counted : updateForming o.slot (fun q => q.countLabel r)
      (s.setLane l { s.lane l with openStack := some { o with stamp := some r.stamp } }) =
      (s.setLane l { s.lane l with openStack := some { o with stamp := some r.stamp } }).setSlot o.slot
        (.held .forming (q.countLabel r)) := updateForming_of_forming _ (by rw [setLane_slot, held])
  rw [unfolded, counted, afterClose_eq, setSlot_lane, setLane_lane_same, setSlot_setLane, setLane_setLane]
  have closes := closeIntoEjects_eq (l := l) (o := { o with stamp := some r.stamp }) (q := q.countLabel r) .target
    (s := (s.setLane l { s.lane l with
      openStack := some { o with stamp := some r.stamp }
      state := if o.final then .held else .changing
      gap := if o.final || o.nogap then 0 else s.profile.changeGap }).setSlot o.slot (.held .forming (q.countLabel r)))
    (setSlot_slot_same _ _ _)
  rw [setSlot_lane, setLane_lane_same, setSlot_setLane, setLane_setLane, setSlot_setSlot] at closes
  refine congrArg (fun t => (t, Disposition.stacked q.seq)) (closes.trans ?_)
  generalize content : ({ q.countLabel r with closing := some .target } : StackRecord) = c
  have lane {u : LaneUnit} : ((s.setLane l u).setSlot o.slot (.held .closed c)).lane l = u := setLane_lane_same _ _ _
  rw [joinEjects_of_wait (by rw [lane]; exact ahead.imp_right .inl), lane, setSlot_setLane, setLane_setLane]
  rfl

end

theorem tableDisposition_purged (s : State) (map : TransitMap) (r : RepeatRecord) (l : Lane) :
    (s.setMap map).tableDisposition (s.purged r) l = s.tableDisposition r l := rfl

/-- A lane in STACKING judges its label. -/
theorem gateChecks_of_stacking {s : State} {l : Lane} (stacking : (s.lane l).state = .stacking) (r : RepeatRecord) :
    gateChecks r l s = judge r l s := by
  unfold gateChecks
  simp only [stacking]

theorem judge_of_stacked {s : State} {l : Lane} {r : RepeatRecord} {seq : Seq} (stacked : (judge r l s).2 = .stacked seq) :
    judge r l s = stackLabel r l s := by
  unfold judge at stacked ⊢
  cases cause : labelCause s.profile r l (s.lane l).rejectEnd with
  | some c => rw [cause] at stacked; cases stacked
  | none => rfl

/-- Settles O32: the label is stacked, and at the target the stack is closed into the eject list. -/
theorem stackedLabelIsCountedAndClosesAtTheTarget : Obligations.StackedLabelIsCountedAndClosesAtTheTarget := by
  intro n l s r found running reached untaken undecided stacking clear o q forming table q' p position
  obtain ⟨map, t, taken, done⟩ := exec_decision found running reached untaken undecided clear
  have number : r.repeatNo = n := repeatNo_of_record found
  have counted : q.countLabel (s.purged r) = q' := by
    change { q with
      count := q.count + 1, first := some (q.first.getD r.repeatNo), last := some r.repeatNo, dry := q.dry || r.dry } = q'
    rw [number]
  have forming' : (s.setMap map).formingStack l = some (o, q) := forming
  have disposition : (gateChecks (s.purged r) l (s.setMap map)).2 = .stacked q.seq :=
    (gateChecks_table (s := s.setMap map) (r := s.purged r) rfl (fun _ => ⟨o, q, forming⟩)).trans ((tableDisposition_purged s map r l).trans table)
  have judged : gateChecks (s.purged r) l (s.setMap map) = stackLabel (s.purged r) l (s.setMap map) := by
    rw [gateChecks_of_stacking (s := s.setMap map) stacking] at disposition ⊢
    exact judge_of_stacked disposition
  refine ⟨t, taken, fun room => ?_, fun target ahead => ?_, fun simple => ?_⟩
  · rw [judged, stackLabel_of_room _ forming' room, counted] at done
    exact ⟨done.log, done.lanes⟩
  · rw [judged, stackLabel_of_target (s.purged r) forming' target ahead, counted] at done
    refine ⟨done.log, done.lanes.trans ?_⟩
    change s.lanes.set l.val ((s.lane l).closedAt s.profile r.stamp o q.seq) = _
    simp only [LaneUnit.closedAt, Bool.or_eq_true]
    rfl
  · have still : (stackLabel (s.purged r) l (s.setMap map)).1.act = s.act ∧
        (stackLabel (s.purged r) l (s.setMap map)).1.links = s.links := by
      by_cases room : q.count + 1 < q.target
      · rw [stackLabel_of_room _ forming' room]
        exact ⟨rfl, rfl⟩
      · rw [stackLabel_of_target (s.purged r) forming' (Nat.not_lt.mp room) (simple.resolve_left room)]
        exact ⟨rfl, rfl⟩
    have kind : (stackLabel (s.purged r) l (s.setMap map)).2 = .stacked q.seq := stackLabel_disposition _ forming'
    rw [judged] at done
    refine ⟨done.cnt.trans (by rw [kind]; rfl), done.pos, done.reg, done.cut, done.prof, done.links.trans still.2,
      fun m => ?_⟩
    have drive := done.drive m
    rw [kind] at drive
    change _ = ((stackLabel (s.purged r) l (s.setMap map)).1.act.gates[m]).hold ∧
      _ = ((stackLabel (s.purged r) l (s.setMap map)).1.act.pushers[m]).drive at drive
    rw [still.1] at drive
    exact drive

end Sys2Proof.Machine


/-!
PROOFS. Labels rejected (06: R113, R116, R167): the interval of the gate, the last reject-interval end, the counts.
-/

namespace Sys2Proof.Machine

/-! ## The work of a rejected label -/

theorem stackLabel_of_rejected {r : RepeatRecord} {l : Lane} {s : State} {c : Cause}
    (rejected : (stackLabel r l s).2 = .rejected c) : (stackLabel r l s).1 = s := by
  cases forming : s.formingStack l with
  | some x => rw [stackLabel_disposition r forming] at rejected; cases rejected
  | none =>
    unfold stackLabel
    split
    · rfl
    · next o opened =>
      have absent : s.formingRecord o = none := by simpa [State.formingStack, opened] using forming
      rw [absent]

theorem rejectInSpan_still (l : Lane) (s : State) : (rejectInSpan l s).act = s.act ∧ (rejectInSpan l s).lane l = s.lane l := by
  refine ⟨by simp, ?_⟩
  unfold rejectInSpan
  split
  · rfl
  · exact updateForming_lane _ _ s l

theorem judge_of_rejected {r : RepeatRecord} {l : Lane} {s : State} {c : Cause} (rejected : (judge r l s).2 = .rejected c) :
    (judge r l s).1.act = s.act ∧ (judge r l s).1.lane l = s.lane l := by
  unfold judge at rejected ⊢
  cases cause : labelCause s.profile r l (s.lane l).rejectEnd with
  | some c => exact rejectInSpan_still l s
  | none =>
    simp only [cause] at rejected
    simp only [stackLabel_of_rejected rejected, and_self]

theorem setLaneState_rejectEnd (s : State) (l : Lane) (st : LaneState) :
    ((s.setLaneState l st).lane l).rejectEnd = (s.lane l).rejectEnd := by
  rw [State.setLaneState, setLane_lane_same]

/-- A rejected label moves no output before its interval, and not the last reject-interval end. -/
theorem openAndJudge_of_rejected {r : RepeatRecord} {l : Lane} {s : State} {c : Cause}
    (rejected : (openAndJudge r l s).2 = .rejected c) :
    (openAndJudge r l s).1.act = s.act ∧ ((openAndJudge r l s).1.lane l).rejectEnd = (s.lane l).rejectEnd := by
  cases orders : (s.lane l).orders with
  | nil =>
    rw [openAndJudge_of_failed (tryOpen_of_noOrder orders)]
    exact ⟨rfl, setLaneState_rejectEnd s l _⟩
  | cons o rest =>
    cases found : s.freeSlot with
    | none =>
      rw [openAndJudge_of_failed (tryOpen_of_logFull orders found)]
      exact ⟨rfl, setLaneState_rejectEnd (raiseEvent .logFull s) l _⟩
    | some i =>
      by_cases busy : 4 ≤ (s.lane l).ejects.length
      · rw [openAndJudge_of_failed (tryOpen_of_ejectBusy orders found busy)]
        exact ⟨rfl, setLaneState_rejectEnd s l _⟩
      · obtain ⟨lane, -⟩ := openStack_forming (l := l) (freeSlot_eq_some found) o rest
        rw [openAndJudge_of_opened (tryOpen_of_room orders found (Nat.lt_of_not_le busy))] at rejected ⊢
        obtain ⟨act, same⟩ := judge_of_rejected rejected
        exact ⟨act.trans (by simp), by rw [same, lane]; rfl⟩

theorem gateChecks_of_rejected {r : RepeatRecord} {l : Lane} {s : State} {c : Cause}
    (rejected : (gateChecks r l s).2 = .rejected c) :
    (gateChecks r l s).1.act = s.act ∧ ((gateChecks r l s).1.lane l).rejectEnd = (s.lane l).rejectEnd := by
  cases opens : (s.lane l).opens with
  | true =>
    rw [gateChecks_of_opens opens] at rejected ⊢
    exact openAndJudge_of_rejected rejected
  | false =>
    cases state : (s.lane l).state with
    | blocked => simp [LaneUnit.opens, state] at opens
    | stacking =>
      rw [gateChecks_of_stacking state] at rejected ⊢
      obtain ⟨act, lane⟩ := judge_of_rejected rejected
      exact ⟨act, by rw [lane]⟩
    | changing =>
      have gap : (s.lane l).gap ≠ 0 := by
        intro gap
        simp [LaneUnit.opens, state, gap] at opens
      unfold gateChecks
      simp only [state, if_neg gap]
      exact ⟨rfl, by rw [setLane_lane_same]⟩
    | fault => rw [gateChecks_of_fault state] at rejected; cases rejected
    | off | held | idle =>
      unfold gateChecks
      simp only [state]
      exact ⟨trivial, trivial⟩

/-! ## The interval (R113, R167) -/

/-- The start and the end of the interval of a rejected label. -/
def intervalStart (p : Profile) (r : RepeatRecord) : Pos := r.stamp + BitVec.ofNat 32 p.gGate - BitVec.ofNat 32 p.gatePre

def intervalEnd (p : Profile) (r : RepeatRecord) : Pos :=
  r.stamp + BitVec.ofNat 32 (p.gGate + p.labelLength + p.gatePost)

theorem takeInterval_lanes (l : Lane) (a b : Pos) (s : State) : (takeInterval l a b s).lanes = s.lanes := by simp

theorem rejectInterval_lanes (r : RepeatRecord) (l : Lane) (s : State) : (rejectInterval r l s).lanes =
    s.lanes.set l.val { s.lane l with
      rejectEnd := some (nextRejectEnd s.belt (intervalEnd s.profile r) (s.lane l).rejectEnd) } := by
  unfold rejectInterval
  dsimp only
  change (takeInterval l _ _ s).lanes.set l.val { (takeInterval l _ _ s).lane l with
    rejectEnd := some (nextRejectEnd (takeInterval l _ _ s).belt _ ((takeInterval l _ _ s).lane l).rejectEnd) } = _
  have belt (a b : Pos) : (takeInterval l a b s).belt = s.belt := by simp [State.belt]
  rw [State.lane, takeInterval_lanes, belt]
  rfl

theorem rejectInterval_hold (r : RepeatRecord) (l m : Lane) (s : State) : ((rejectInterval r l s).gate m).hold =
    if m = l ∧ (s.gate l).latch = none then
      some (joinHold s.belt (intervalStart s.profile r) (intervalEnd s.profile r) (s.gate l).hold)
    else (s.gate m).hold := by
  change ((takeInterval l (intervalStart s.profile r) (intervalEnd s.profile r) s).gate m).hold = _
  unfold takeInterval
  cases latch : (s.gate l).latch with
  | some k => simp
  | none =>
    dsimp only
    rw [setGate_gate]
    by_cases here : m = l
    · simp [here]
    · simp [here]

/-- The hold that an interval leaves: the running one, when it meets the interval and reaches beyond its end. -/
theorem joinHold_eq (now a b : Pos) (hold : Option PosEvent) : some (joinHold now a b hold) = match hold with
    | none => some (PosEvent.arm now b)
    | some h => some (if atOrBeyond h.target a && (!atOrBeyond b h.target || b == h.target) then h
        else PosEvent.arm now b) := by
  cases hold with
  | none => rfl
  | some h =>
    unfold joinHold
    by_cases meets : atOrBeyond h.target a = true <;> by_cases beyond : atOrBeyond b h.target = true <;>
      by_cases same : b = h.target <;> simp [meets, beyond, same]

theorem nextRejectEnd_value (now b : Pos) (rejectEnd : Option Fading) : (nextRejectEnd now b rejectEnd).value =
    match rejectEnd with
    | none => b
    | some f => if atOrBeyond b f.value then b else f.value := by
  cases rejectEnd with
  | none => rfl
  | some f =>
    unfold nextRejectEnd
    by_cases beyond : atOrBeyond b f.value = true <;> by_cases same : b = f.value <;>
      simp [beyond, same, Fading.start]

/-- A reject counts in the span of the stack of its lane (R116). -/
theorem judge_span {r : RepeatRecord} {l : Lane} {s : State} {c : Cause} (rejected : (judge r l s).2 = .rejected c)
    {o : OpenStack} {q : StackRecord} (forming : s.formingStack l = some (o, q)) : (judge r l s).1 =
      s.setSlot o.slot (.held .forming { q with rejectsInSpan := satInc q.rejectsInSpan }) := by
  obtain ⟨opened, record⟩ := formingStack_eq forming
  unfold judge at rejected ⊢
  cases cause : labelCause s.profile r l (s.lane l).rejectEnd with
  | none =>
    simp only [cause] at rejected
    rw [stackLabel_disposition r forming] at rejected
    cases rejected
  | some c =>
    simp only [rejectInSpan, opened]
    exact updateForming_of_forming _ (formingRecord_eq_some.mp record)

theorem gateChecks_span {r : RepeatRecord} {l : Lane} {s : State} {c : Cause} (stacking : (s.lane l).state = .stacking)
    (rejected : (gateChecks r l s).2 = .rejected c) {o : OpenStack} {q : StackRecord}
    (forming : s.formingStack l = some (o, q)) : (gateChecks r l s).1 =
      s.setSlot o.slot (.held .forming { q with rejectsInSpan := satInc q.rejectsInSpan }) := by
  rw [gateChecks_of_stacking stacking] at rejected ⊢
  exact judge_span rejected forming

/-- Lanes and log in agreement leave a lane in STACKING with a stack that is FORMING. -/
theorem formingStack_of_stacking {s : State} {l : Lane} (means : LaneStatesMean s) (own : LanesOwnTheirSlots s)
    (stacking : (s.lane l).state = .stacking) : ∃ o q, s.formingStack l = some (o, q) := by
  obtain ⟨-, opened, -⟩ := means l
  obtain ⟨o, stack⟩ := Option.isSome_iff_exists.mp (opened.mp stacking)
  obtain ⟨q, content, forming, -⟩ := (own l).1 o stack
  exact ⟨o, q, formingStack_of stack (formingRecord_eq_some.mpr (Slot.eq_held_of_isIn content forming))⟩

/-- Settles O33: the label is rejected for its cause, with the interval of its gate. -/
theorem rejectDrivesTheGateAndIsCounted : Obligations.RejectDrivesTheGateAndIsCounted := by
  intro n l s r found running reached untaken undecided clear means own cause table p a b fresh
  obtain ⟨map, t, taken, done⟩ := exec_decision found running reached untaken undecided clear
  have disposition : (gateChecks (s.purged r) l (s.setMap map)).2 = .rejected cause :=
    (gateChecks_table (s := s.setMap map) (r := s.purged r) rfl
      (fun stacking => formingStack_of_stacking (s := s) means own stacking)).trans
        ((tableDisposition_purged s map r l).trans table)
  obtain ⟨act, rejectEnd⟩ := gateChecks_of_rejected disposition
  have others := (gateChecks_gated (s.purged r) l (s.setMap map)).others
  have belt : (gateChecks (s.purged r) l (s.setMap map)).1.belt = s.belt := by simp [State.belt]
  have prof : (gateChecks (s.purged r) l (s.setMap map)).1.profile = s.profile := by simp [State.profile]
  have span (stacking : (s.lane l).state = .stacking) (o : OpenStack) (q : StackRecord)
      (forming : s.formingStack l = some (o, q)) := gateChecks_span (s := s.setMap map) stacking disposition forming
  generalize gateChecks (s.purged r) l (s.setMap map) = made at *
  obtain ⟨lanes, log, links, cnt, pos, reg, cut, prof', drive⟩ := done
  rw [disposition] at lanes drive cnt
  have gate (m : Lane) : made.1.gate m = s.gate m := by rw [State.gate, act]; rfl
  change t.lanes = (rejectInterval (s.purged r) l made.1).lanes at lanes
  rw [rejectInterval_lanes, belt, prof, rejectEnd] at lanes
  have lane (m : Lane) : t.lane m = if m = l then { made.1.lane l with
      rejectEnd := some (nextRejectEnd s.belt (intervalEnd s.profile (s.purged r)) (s.lane l).rejectEnd) }
      else made.1.lane m := by
    rw [State.lane, lanes]
    exact set_getElem _ l m _
  have hold (m : Lane) : (t.gate m).hold = ((rejectInterval (s.purged r) l made.1).gate m).hold := (drive m).1
  simp only [rejectInterval_hold, belt, prof, gate] at hold
  refine ⟨t, taken, ?_, ?_, cnt, fun stacking o q forming => ?_, fun m other => ⟨?_, ?_⟩, pos, reg, cut, prof'⟩
  · rw [hold]
    cases latch : (s.gate l).latch with
    | some k => exact (if_neg (fun both => nomatch both.2)).trans (if_pos rfl).symm
    | none =>
      rw [if_pos ⟨rfl, rfl⟩, if_neg (by simp)]
      exact joinHold_eq _ _ _ _
  · rw [lane, if_pos rfl]
    exact congrArg some (nextRejectEnd_value _ _ _)
  · rw [log, span stacking o q forming, satInc_eq]
    rfl
  · rw [lane, if_neg other]
    exact others m other
  · rw [hold, if_neg (fun here => other here.1)]

end Sys2Proof.Machine


/-!
PROOFS. Work on one lane leaves the slots that the lane does not hold (R148): the slots of other lanes stand through it.
-/

namespace Sys2Proof.Machine

/-- The lane holds a slot neither for its open stack nor in its eject list. -/
def LaneUnit.Avoids (u : LaneUnit) (i : SlotIndex) : Prop :=
  (∀ o, u.openStack = some o → o.slot ≠ i) ∧ ∀ e ∈ u.ejects, e.slot ≠ i

/-- Work on a lane leaves an occupied slot that the lane does not hold, and the lane still does not hold it. -/
def Spares (m : Lane) (i : SlotIndex) (s t : State) : Prop :=
  (s.lane m).Avoids i → s.slot i ≠ .free → t.slot i = s.slot i ∧ (t.lane m).Avoids i

section
variable {m : Lane} {i : SlotIndex} {s t u : State}

theorem Spares.refl (m : Lane) (i : SlotIndex) (s : State) : Spares m i s s := fun avoids _ => ⟨rfl, avoids⟩

theorem Spares.trans (st : Spares m i s t) (tu : Spares m i t u) : Spares m i s u := by
  intro avoids occupied
  obtain ⟨slot, avoids'⟩ := st avoids occupied
  obtain ⟨slot', avoids''⟩ := tu avoids' (by rw [slot]; exact occupied)
  exact ⟨slot'.trans slot, avoids''⟩

theorem Spares.after (tu : Spares m i t u) (st : Spares m i s t) : Spares m i s u := st.trans tu

/-- Work that leaves the log, and gives the lane no slot. -/
theorem Spares.of_lane (log : t.log = s.log) (lane : (s.lane m).Avoids i → (t.lane m).Avoids i) : Spares m i s t :=
  fun avoids _ => ⟨by rw [State.slot, log]; rfl, lane avoids⟩

theorem setLane_spares {v : LaneUnit} (lane : (s.lane m).Avoids i → v.Avoids i) : Spares m i s (s.setLane m v) :=
  .of_lane rfl (by rw [setLane_lane_same]; exact lane)

/-- Work on the log that leaves the slot. -/
theorem Spares.of_slot (lanes : t.lanes = s.lanes) (slot : (s.lane m).Avoids i → s.slot i ≠ .free → t.slot i = s.slot i) :
    Spares m i s t :=
  fun avoids occupied => ⟨slot avoids occupied, by rw [State.lane, lanes]; exact avoids⟩

theorem makeReady_slot_other {i j : SlotIndex} (other : i ≠ j) (f : StackRecord → StackRecord) (s : State) :
    (makeReady j f s).slot i = s.slot i := by
  unfold makeReady
  split
  · exact setSlot_slot_other _ _ _ _ other
  · exact setSlot_slot_other _ _ _ _ other
  all_goals rfl

theorem updateForming_slot_other {i j : SlotIndex} (other : i ≠ j) (f : StackRecord → StackRecord) (s : State) :
    (updateForming j f s).slot i = s.slot i := by
  unfold updateForming
  split
  · exact setSlot_slot_other _ _ _ _ other
  all_goals rfl

theorem closeSlot_slot_other {i j : SlotIndex} (other : i ≠ j) (kind : ClosingKind) (s : State) :
    (closeSlot j kind s).slot i = s.slot i := by
  unfold closeSlot
  split
  · exact setSlot_slot_other _ _ _ _ other
  all_goals rfl

/-! ## Ejects -/

theorem armEjectHead_spares (m : Lane) (i : SlotIndex) (s : State) : Spares m i s (armEjectHead m s) := by
  unfold armEjectHead
  split
  · exact .refl m i s
  · next e rest ejects =>
    refine setLane_spares fun avoids => ⟨avoids.1, ?_⟩
    have kept := avoids.2
    rw [ejects, List.forall_mem_cons] at kept
    exact List.forall_mem_cons.mpr kept

theorem releaseHead_spares (m : Lane) (i : SlotIndex) (f : StackRecord → StackRecord) (s : State) :
    Spares m i s (releaseHead m f s) := by
  unfold releaseHead
  split
  · exact .refl m i s
  · next e rest ejects =>
    refine .after (armEjectHead_spares m i _) ?_
    intro avoids _
    have kept := avoids.2
    rw [ejects, List.forall_mem_cons] at kept
    refine ⟨(makeReady_slot_other (Ne.symm kept.1) _ _).trans (setLane_slot _ _ _ _), ?_⟩
    rw [makeReady_lane, setLane_lane_same]
    exact ⟨avoids.1, kept.2⟩

theorem ejectHead_spares (m : Lane) (i : SlotIndex) (s : State) : Spares m i s (ejectHead m s) := by
  unfold ejectHead
  split
  · exact .refl m i s
  · next e rest ejects =>
    have due (e' : Eject) (same : e'.slot = e.slot) :
        Spares m i s (s.setLane m { s.lane m with ejects := e' :: rest }) := by
      refine setLane_spares fun avoids => ⟨avoids.1, ?_⟩
      have kept := avoids.2
      rw [ejects, List.forall_mem_cons] at kept
      exact List.forall_mem_cons.mpr ⟨same ▸ kept.1, kept.2⟩
    split
    · exact releaseHead_spares m i _ s
    · split
      · refine .after (releaseHead_spares m i id _) ?_
        exact setLane_spares (s := startPusherPulse m s) id
      · exact releaseHead_spares m i _ s
      · exact due _ rfl
      · exact due _ rfl

theorem ejectReached_spares (m : Lane) (i : SlotIndex) (n : Nat) (s : State) : Spares m i s (ejectReached m n s) := by
  induction n generalizing s with
  | zero => exact .refl m i s
  | succ n ih =>
    unfold ejectReached
    split
    · exact (ejectHead_spares m i s).trans (ih _)
    · exact .refl m i s

theorem joinEjects_spares {j : SlotIndex} (other : j ≠ i) (seq : Seq) (target : Pos) (s : State) :
    Spares m i s (joinEjects m j seq target s) := by
  cases ejects : (s.lane m).ejects with
  | nil =>
    rw [joinEjects_of_first ejects]
    refine .after (ejectReached_spares m i _ _) (setLane_spares fun avoids => ⟨avoids.1, ?_⟩)
    simpa [newEject] using other
  | cons e rest =>
    rw [joinEjects_of_wait (.inl (by rw [ejects]; exact List.cons_ne_nil e rest))]
    refine setLane_spares fun avoids => ⟨avoids.1, ?_⟩
    rw [List.forall_mem_append]
    exact ⟨avoids.2, by simpa [newEject] using other⟩

/-! ## Stacks closed -/

theorem closeIntoEjects_spares {o : OpenStack} (opened : (s.lane m).openStack.map (fun o => o.slot) = some o.slot) (seq : Seq)
    (kind : ClosingKind) : Spares m i s (closeIntoEjects m o seq kind s) := by
  intro avoids occupied
  obtain ⟨o', opened', slot⟩ := Option.map_eq_some_iff.mp opened
  have other : o.slot ≠ i := slot ▸ avoids.1 o' opened'
  have unopened : Spares m i s (s.setLane m { s.lane m with openStack := none }) :=
    setLane_spares fun avoids => ⟨nofun, avoids.2⟩
  have closed := unopened.trans (.of_slot (t := closeSlot o.slot kind (s.setLane m { s.lane m with openStack := none }))
    (by simp) fun _ _ => closeSlot_slot_other (Ne.symm other) kind _)
  exact (closed.trans (joinEjects_spares other seq _ _)) avoids occupied

theorem shortClose_spares (m : Lane) (i : SlotIndex) (kind : ClosingKind) (s : State) :
    Spares m i s (shortClose m kind s) := by
  unfold shortClose
  split
  · exact .refl m i s
  · next o opened =>
    have unopened : Spares m i s (s.setLane m { s.lane m with openStack := none }) :=
      setLane_spares fun avoids => ⟨nofun, avoids.2⟩
    split
    · exact unopened
    · split
      · intro avoids occupied
        obtain ⟨slot, avoids'⟩ := unopened avoids occupied
        refine ⟨(makeReady_slot_other (Ne.symm (avoids.1 o opened)) _ _).trans slot, ?_⟩
        rw [makeReady_lane]
        exact avoids'
      · exact closeIntoEjects_spares (by rw [opened]; rfl) _ kind

/-! ## Decisions -/

theorem updateForming_spares {o : OpenStack} (opened : (s.lane m).openStack.map (fun o => o.slot) = some o.slot)
    (f : StackRecord → StackRecord) : Spares m i s (updateForming o.slot f s) := by
  refine .of_slot (by simp) fun avoids _ => ?_
  obtain ⟨o', opened', slot⟩ := Option.map_eq_some_iff.mp opened
  exact updateForming_slot_other (Ne.symm (slot ▸ avoids.1 o' opened')) f s

theorem rejectInSpan_spares (m : Lane) (i : SlotIndex) (s : State) : Spares m i s (rejectInSpan m s) := by
  unfold rejectInSpan
  split
  · exact .refl m i s
  · next o opened => exact updateForming_spares (by rw [opened]; rfl) _

theorem stackLabel_spares (r : RepeatRecord) (m : Lane) (i : SlotIndex) (s : State) :
    Spares m i s (stackLabel r m s).1 := by
  unfold stackLabel
  split
  · exact .refl m i s
  · next o opened =>
    split
    · exact .refl m i s
    · next q _ =>
      dsimp only
      have stamped : Spares m i s (s.setLane m { s.lane m with openStack := some { o with stamp := some r.stamp } }) := by
        refine setLane_spares fun avoids => ⟨fun o' same => ?_, avoids.2⟩
        cases same
        exact avoids.1 o opened
      have lane (f : StackRecord → StackRecord) : (updateForming o.slot f
          (s.setLane m { s.lane m with openStack := some { o with stamp := some r.stamp } })).lane m =
          { s.lane m with openStack := some { o with stamp := some r.stamp } } := by
        rw [updateForming_lane, setLane_lane_same]
      have counted : Spares m i s (updateForming o.slot (fun q => q.countLabel r)
          (s.setLane m { s.lane m with openStack := some { o with stamp := some r.stamp } })) :=
        stamped.trans (updateForming_spares (by rw [setLane_lane_same]; rfl) _)
      split
      · refine .trans (counted.trans ?_) (closeIntoEjects_spares ?_ _ _)
        · rw [afterClose_eq]
          exact setLane_spares id
        · rw [afterClose_eq, setLane_lane_same, lane]
          rfl
      · exact counted

theorem judge_spares (r : RepeatRecord) (m : Lane) (i : SlotIndex) (s : State) : Spares m i s (judge r m s).1 := by
  unfold judge
  split
  · exact rejectInSpan_spares m i s
  · exact stackLabel_spares r m i s

theorem openStack_spares {j : SlotIndex} (free : s.slot j = .free) (o : Order) (rest : List Order) :
    Spares m i s (openStack m j o rest s) := by
  intro avoids occupied
  have other : j ≠ i := fun here => occupied (here ▸ free)
  rw [openStack_eq free]
  refine ⟨setSlot_slot_other _ _ _ _ (Ne.symm other), ?_⟩
  rw [setLane_lane_same]
  refine ⟨fun o' same => ?_, avoids.2⟩
  cases same
  exact other

theorem setLaneState_spares (m : Lane) (i : SlotIndex) (s : State) (st : LaneState) : Spares m i s (s.setLaneState m st) :=
  setLane_spares id

theorem openAndJudge_spares (r : RepeatRecord) (m : Lane) (i : SlotIndex) (s : State) :
    Spares m i s (openAndJudge r m s).1 := by
  cases orders : (s.lane m).orders with
  | nil =>
    rw [openAndJudge_of_failed (tryOpen_of_noOrder orders)]
    exact setLaneState_spares m i s _
  | cons o rest =>
    cases found : s.freeSlot with
    | none =>
      rw [openAndJudge_of_failed (tryOpen_of_logFull orders found)]
      exact setLane_spares (s := raiseEvent .logFull s) id
    | some j =>
      by_cases busy : 4 ≤ (s.lane m).ejects.length
      · rw [openAndJudge_of_failed (tryOpen_of_ejectBusy orders found busy)]
        exact setLaneState_spares m i s _
      · rw [openAndJudge_of_opened (tryOpen_of_room orders found (Nat.lt_of_not_le busy))]
        exact (openStack_spares (freeSlot_eq_some found) o rest).trans (judge_spares r m i _)

theorem gateChecks_spares (r : RepeatRecord) (m : Lane) (i : SlotIndex) (s : State) :
    Spares m i s (gateChecks r m s).1 := by
  unfold gateChecks
  split
  case h_2 => exact setLane_spares id
  case h_5 => exact openAndJudge_spares r m i s
  case h_6 =>
    split
    · exact openAndJudge_spares r m i s
    · exact setLane_spares id
  case h_7 => exact judge_spares r m i s
  all_goals exact .refl m i s

theorem intervalOf_spares (r : RepeatRecord) (m : Lane) (i : SlotIndex) (d : Disposition) (s : State) :
    Spares m i s (intervalOf r m d s) := by
  cases d with
  | rejected c =>
    refine .of_lane (intervalOf_frame r m _ s).1 fun avoids => ?_
    have lane : (rejectInterval r m s).lane m = { s.lane m with
        rejectEnd := some (nextRejectEnd s.belt (intervalEnd s.profile r) (s.lane m).rejectEnd) } := by
      rw [State.lane, rejectInterval_lanes]
      exact (set_getElem _ m m _).trans (if_pos rfl)
    change ((rejectInterval r m s).lane m).Avoids i
    rw [lane]
    exact avoids
  | undecided | stacked _ | quarantined => exact .refl m i s

theorem decideLane_spares (n : RepeatNo) (m : Lane) (i : SlotIndex) (s : State) : Spares m i s (decideLane n m s) := by
  unfold decideLane
  split
  · exact .refl m i s
  · next r _ =>
    split
    · rw [dispose_eq]
      exact ((gateChecks_spares r m i s).trans (intervalOf_spares r m i _ _)).trans (.of_lane rfl id)
    · exact .refl m i s

end

end Sys2Proof.Machine


/-!
PROOFS. The gate decision by its table, for every lane of a row (R104 to R115), and its acts on the lane (R107, R108,
R122, R123, R151).
-/

namespace Sys2Proof.Machine

/-! ## Work on other lanes -/

/-- Work that leaves a lane, and every occupied slot that no other lane holds. -/
structure LeavesLane (l : Lane) (s t : State) : Prop where
  lane : t.lane l = s.lane l
  slots : ∀ i, s.slot i ≠ .free → (∀ m, m ≠ l → (s.lane m).Avoids i) →
    t.slot i = s.slot i ∧ ∀ m, m ≠ l → (t.lane m).Avoids i

section
variable {l m : Lane} {s t u : State}

theorem LeavesLane.refl (l : Lane) (s : State) : LeavesLane l s s := ⟨rfl, fun _ _ avoids => ⟨rfl, avoids⟩⟩

theorem LeavesLane.trans (st : LeavesLane l s t) (tu : LeavesLane l t u) : LeavesLane l s u := by
  refine ⟨tu.lane.trans st.lane, fun i occupied avoids => ?_⟩
  obtain ⟨slot, avoids'⟩ := st.slots i occupied avoids
  obtain ⟨slot', avoids''⟩ := tu.slots i (by rw [slot]; exact occupied) avoids'
  exact ⟨slot'.trans slot, avoids''⟩

/-- Work on another lane alone. -/
theorem LeavesLane.of_spares (other : m ≠ l) (others : ∀ k, k ≠ m → t.lane k = s.lane k) (spares : ∀ i, Spares m i s t) :
    LeavesLane l s t := by
  refine ⟨others l (Ne.symm other), fun i occupied avoids => ?_⟩
  obtain ⟨slot, avoids'⟩ := spares i (avoids m other) occupied
  refine ⟨slot, fun k apart => ?_⟩
  by_cases here : k = m
  · rw [here]
    exact avoids'
  · rw [others k here]
    exact avoids k apart

theorem LeavesLane.of_frame (l : Lane) (lanes : t.lanes = s.lanes) (log : t.log = s.log) : LeavesLane l s t := by
  have lane (k : Lane) : t.lane k = s.lane k := by rw [State.lane, lanes]; rfl
  refine ⟨lane l, fun i _ avoids => ⟨by rw [State.slot, log]; rfl, fun k apart => ?_⟩⟩
  rw [lane]
  exact avoids k apart

theorem LeavesLane.foldl {f : State → Lane → State} (each : ∀ s m, m ≠ l → LeavesLane l s (f s m)) (lanes : List Lane)
    (outside : l ∉ lanes) (s : State) : LeavesLane l s (lanes.foldl f s) := by
  induction lanes generalizing s with
  | nil => exact .refl l s
  | cons m lanes ih =>
    have other : m ≠ l := fun here => outside (here ▸ List.mem_cons_self)
    exact (each s m other).trans (ih (fun member => outside (List.mem_cons_of_mem m member)) _)

/-- The slot of a lane's open stack is held by no other lane. -/
theorem avoids_of_opened (own : LanesOwnTheirSlots s) {o : OpenStack} (opened : (s.lane l).openStack = some o) :
    s.slot o.slot ≠ .free ∧ ∀ m, m ≠ l → (s.lane m).Avoids o.slot := by
  obtain ⟨r, content, forming, lane⟩ := (own l).1 o opened
  have held := Slot.eq_held_of_isIn content forming
  refine ⟨by rw [held]; exact nofun, fun m other => ⟨fun o' opened' same => ?_, fun e listed same => ?_⟩⟩
  · obtain ⟨r', content', -, lane'⟩ := (own m).1 o' opened'
    rw [same, held] at content'
    cases content'
    exact other (lane'.symm.trans lane)
  · obtain ⟨r', content', closed, -⟩ := (own m).2.1 e listed
    rw [same, held] at closed
    cases closed

/-- The stack of a lane stands through work on other lanes. -/
theorem LeavesLane.formingStack (leaves : LeavesLane l s t) (own : LanesOwnTheirSlots s) :
    t.formingStack l = s.formingStack l := by
  unfold State.formingStack
  rw [leaves.lane]
  cases opened : (s.lane l).openStack with
  | none => rfl
  | some o =>
    obtain ⟨occupied, avoids⟩ := avoids_of_opened own opened
    have slot := (leaves.slots o.slot occupied avoids).1
    have record : t.formingRecord o = s.formingRecord o := by
      unfold State.formingRecord
      rw [slot]
    simp only [record]

end

/-! ## The lanes of a row, each by the table -/

/-- The rows of a label do not depend on the dispositions of its record. -/
theorem tableDisposition_of_leaves {s u : State} {l : Lane} {r : RepeatRecord} {ds : Vector Disposition 8}
    (closed : (s.lane l).opens = false) (leaves : LeavesLane l s u) (prof : u.prof = s.prof)
    (own : LanesOwnTheirSlots s) :
    u.tableDisposition { s.purged r with dispositions := ds } l = s.tableDisposition r l := by
  have purged : u.purged { s.purged r with dispositions := ds } = { s.purged r with dispositions := ds } := rfl
  have profile : u.profile = s.profile := by rw [State.profile, prof]; rfl
  have seq : u.stackingSeq l = s.stackingSeq l := by
    unfold State.stackingSeq
    rw [leaves.lane, leaves.formingStack own]
  rw [tableDisposition_eq, tableDisposition_eq, purged, profile, leaves.lane, seq, laneRows_of_closed closed,
    laneRows_of_closed closed]
  rfl

theorem decideLanes_prof (n : RepeatNo) (lanes : List Lane) (u : State) :
    (lanes.foldl (fun v m => decideLane n m v) u).prof = u.prof := by
  induction lanes generalizing u with
  | nil => rfl
  | cons m lanes ih => exact (ih _).trans (by simp)

theorem dispositions_of_replaced {n : RepeatNo} {l : Lane} {s u : State} {r : RepeatRecord} (held : Replaced n r s u)
    (undecided : r.undecided l = true) :
    Replaced n (r.dispose l (gateChecks r l u).2) s (decideLane n l u) := by
  obtain ⟨named, found, -⟩ := id held
  have decides : decideLane n l u = dispose r l (gateChecks r l u).2 (gateChecks r l u).1 := by
    unfold decideLane
    rw [found]
    exact if_pos undecided
  obtain ⟨map, -⟩ := dispose_map_counts r l (gateChecks r l u).2 (gateChecks r l u).1
  refine held.update (fun q => q.dispose l (gateChecks r l u).2) (fun _ => rfl) ?_
  rw [decides, map, State.updateRecord, State.updateRecord, named]
  simp

theorem exec_decisionPosition {n : RepeatNo} {s : State} {r : RepeatRecord} (found : s.record n = some r)
    (running : s.mode.isHalt = false) (reached : r.decision.reached = true) (untaken : r.decisionTaken = false)
    (lanes : List Lane) :
    exec (.decisionPosition n lanes) s = .next (finishDrive s (decisionEvent n lanes s)) := by
  show execDecisionPosition n lanes s = _
  rw [execDecisionPosition, found]
  exact congrArg Host.Outcome.next (if_pos (by simp [running, RepeatRecord.decisionDue, reached, untaken]))

theorem testPurge_replaced {n : RepeatNo} {s : State} {r : RepeatRecord} (found : s.record n = some r) :
    Replaced n (s.purged r) s (testPurge n s) := by
  rw [State.purged, ← purgeFlag_eq]
  exact .of_found found (fun q => if q.purgeTested then q else { q with purge := s.purgeInForce, purgeTested := true })
    (fun q => by split <;> rfl)

/-- Each lane of a row gives its label the disposition of the table, if it is the first to open a stack. -/
theorem decisionEvent_table {n : RepeatNo} {lanes : List Lane} {l : Lane} {s : State} {r : RepeatRecord}
    (found : s.record n = some r) (untaken : r.decisionTaken = false) (undecided : r.undecided l = true)
    (member : l ∈ lanes) (first : (s.lane l).opens = true → lanes.head? = some l) (means : LaneStatesMean s)
    (own : LanesOwnTheirSlots s) :
    ∃ r', Replaced n r' s (decisionEvent n lanes s) ∧ r'.dispositions[l] = s.tableDisposition r l := by
  obtain ⟨before, after, rfl, outside⟩ := List.eq_append_cons_of_mem member
  obtain ⟨ds, judged, -, kept⟩ := decideLanes_replaced before (testPurge_replaced found)
  have still : ds[l] = r.dispositions[l] := kept l (.inl outside)
  have open' : ({ s.purged r with dispositions := ds } : RepeatRecord).undecided l = true := by
    rw [RepeatRecord.undecided_dispositions, still]
    exact undecided
  have leaves : LeavesLane l s (before.foldl (fun v m => decideLane n m v) (testPurge n s)) :=
    (LeavesLane.of_frame (t := testPurge n s) l (by simp) (by simp)).trans
      (.foldl (fun v m other => .of_spares other (decideLane_gated n m v).others (fun i => decideLane_spares n m i v))
        before outside _)
  have prof : (before.foldl (fun v m => decideLane n m v) (testPurge n s)).prof = s.prof :=
    (decideLanes_prof n before _).trans (by simp)
  have table : (before.foldl (fun v m => decideLane n m v) (testPurge n s)).tableDisposition
      { s.purged r with dispositions := ds } l = s.tableDisposition r l := by
    cases opens : (s.lane l).opens with
    | false => exact tableDisposition_of_leaves opens leaves prof own
    | true =>
      have none : before = [] := by
        cases before with
        | nil => rfl
        | cons x xs =>
          have head := first opens
          cases head
          exact absurd List.mem_cons_self outside
      subst none
      rfl
  have stacking (state : (((before.foldl (fun v m => decideLane n m v) (testPurge n s)).lane l).state = .stacking)) :
      ∃ o q, (before.foldl (fun v m => decideLane n m v) (testPurge n s)).formingStack l = some (o, q) := by
    rw [leaves.lane] at state
    rw [leaves.formingStack own]
    exact formingStack_of_stacking means own state
  have decides := dispositions_of_replaced judged open'
  have made := (gateChecks_disposition { s.purged r with dispositions := ds } l
    (before.foldl (fun v m => decideLane n m v) (testPurge n s))).1
  rw [gateChecks_table rfl stacking, table] at decides made
  have entry : (ds.set l.val (s.tableDisposition r l))[l] = s.tableDisposition r l :=
    (set_getElem ds l l _).trans (if_pos rfl)
  have closed : (RepeatRecord.dispose { s.purged r with dispositions := ds } l (s.tableDisposition r l)).undecided l =
      false := by
    refine (RepeatRecord.undecided_dispositions _ _ l).trans ?_
    rw [entry]
    simp [made]
  obtain ⟨es, done, -, rest⟩ := decideLanes_replaced after decides
  have event : decisionEvent n (before ++ l :: after) s = markDecided n (after.foldl (fun v m => decideLane n m v)
      (decideLane n l (before.foldl (fun v m => decideLane n m v) (testPurge n s)))) := by
    rw [decisionEvent, List.foldl_append, List.foldl_cons]
  refine ⟨_, by rw [event]; exact done.markDecided untaken, ?_⟩
  exact (rest l (.inr closed)).trans entry

/-- A label of a row that decides its lane has the disposition of the table. -/
theorem exec_decision_table {n : RepeatNo} {lanes : List Lane} {l : Lane} {s : State} {r : RepeatRecord}
    (found : s.record n = some r) (running : s.mode.isHalt = false) (reached : r.decision.reached = true)
    (untaken : r.decisionTaken = false) (undecided : r.undecided l = true) (member : l ∈ lanes)
    (first : (s.lane l).opens = true → lanes.head? = some l) (means : LaneStatesMean s) (own : LanesOwnTheirSlots s) :
    ∃ t, exec (.decisionPosition n lanes) s = .next t ∧ ∃ r', t.record n = some r' ∧
      r'.dispositions[l] = s.tableDisposition r l := by
  obtain ⟨r', event, table⟩ := decisionEvent_table found untaken undecided member first means own
  obtain ⟨-, found', -⟩ := event.of_map (finishDrive_frame s (decisionEvent n lanes s)).1
  exact ⟨_, exec_decisionPosition found running reached untaken lanes, r', found', table⟩

end Sys2Proof.Machine


/-!
PROOFS. What a decision does to its lane (06 and 07: R107, R108, R122 to R126, R151): the change gap, openings and their
failures.
-/

namespace Sys2Proof.Machine

theorem allSlots_ordered : allSlots.Pairwise (fun i j => i < j) := by decide

/-- The lowest free slot (R151). -/
theorem freeSlot_of_lowest {s : State} {i : SlotIndex} (free : s.slot i = .free) (lower : ∀ j < i, s.slot j ≠ .free) :
    s.freeSlot = some i := by
  obtain ⟨before, after, split⟩ := List.append_of_mem (mem_allSlots i)
  have ordered := allSlots_ordered
  rw [split, List.pairwise_append] at ordered
  refine List.find?_eq_some_iff_append.mpr ⟨by simp [free], before, after, split, fun j member => ?_⟩
  simpa using lower j (ordered.2.2 j member i List.mem_cons_self)

theorem freeSlot_of_full {s : State} (full : ∀ i, s.slot i ≠ .free) : s.freeSlot = none :=
  (logFull_iff s).mp (by simpa [State.logFull] using fun i _ => full i)

/-- The lane after the row of its decision, from the lane that the checks leave. -/
theorem Decided.lane_of {s t : State} {l : Lane} {r : RepeatRecord} {made : State × Disposition} {v : LaneUnit}
    (done : Decided s l r made t) (lanes : made.1.lanes = s.lanes.set l.val v) :
    t.lanes = s.lanes.set l.val { v with rejectEnd := (t.lane l).rejectEnd } := by
  have lane : made.1.lane l = v := by
    rw [State.lane, lanes]
    exact (set_getElem s.lanes l l v).trans (if_pos rfl)
  have written (w : LaneUnit) (same : t.lanes = s.lanes.set l.val w) : t.lane l = w := by
    rw [State.lane, same]
    exact (set_getElem s.lanes l l w).trans (if_pos rfl)
  have after := done.lanes
  cases kind : made.2 with
  | rejected c =>
    rw [kind] at after
    change t.lanes = (rejectInterval r l made.1).lanes at after
    rw [rejectInterval_lanes, lane, lanes, Vector.set_set] at after
    rw [written _ after]
    exact after
  | undecided | stacked _ | quarantined =>
    rw [kind] at after
    have same : t.lanes = s.lanes.set l.val v := after.trans lanes
    rw [written v same]
    exact same

section
variable {s : State} {l : Lane} {i : SlotIndex} (free : s.slot i = .free) (o : Order) (rest : List Order)
include free

/-- The lane and the slot of an opening, written again. -/
theorem openStack_rewritten (v : LaneUnit) (y : Slot) :
    ((openStack l i o rest s).setLane l v).setSlot i y = (s.setSlot i y).setLane l v := by
  rw [openStack_eq free, setLane_setLane]
  change ((s.setSlot i _).setSlot i y).setLane l v = _
  rw [setSlot_setSlot]

theorem openStack_slot_rewritten (y : Slot) :
    (openStack l i o rest s).setSlot i y = (s.setSlot i y).setLane l ((s.lane l).withStack i o rest) := by
  rw [openStack_eq free]
  change ((s.setSlot i _).setSlot i y).setLane l _ = _
  rw [setSlot_setSlot]
  rfl

end

/-- A lane with a change gap left counts it down. -/
theorem gateChecks_of_gap {s : State} {l : Lane} (changing : (s.lane l).state = .changing) (gap : (s.lane l).gap ≠ 0)
    (r : RepeatRecord) :
    gateChecks r l s = (s.setLane l { s.lane l with gap := (s.lane l).gap - 1 }, .rejected .changeGap) := by
  unfold gateChecks
  simp only [changing, if_neg gap]

/-- Settles O31: the dispositions by the table, and the acts of checks 5 and 6 on the lane. -/
theorem gateDecisionFollowsTheTable : Obligations.GateDecisionFollowsTheTable := by
  refine ⟨fun n lanes l s r found running reached untaken undecided member first means own =>
    exec_decision_table found running reached untaken undecided member first means own,
    fun n l s r found running reached untaken undecided clear => ?_⟩
  intro u p
  obtain ⟨map, t, taken, done⟩ := exec_decision found running reached untaken undecided clear
  obtain rfl := repeatNo_of_record found
  refine ⟨t, taken, ?_⟩
  intro lane slot
  have opening (opens : u.opens = true) : gateChecks (s.purged r) l (s.setMap map) =
      openAndJudge (s.purged r) l (s.setMap map) := gateChecks_of_opens (s := s.setMap map) opens _
  refine ⟨fun changing gap => ?_, fun opens empty => ?_, fun opens queued full => ?_, fun opens queued room busy => ?_,
    fun opens room ord rest orders i free lowest => ?_⟩
  · rw [gateChecks_of_gap (s := s.setMap map) changing gap] at done
    exact ⟨done.lane_of rfl, done.log, done.links⟩
  · rw [opening opens, openAndJudge_of_failed (tryOpen_of_noOrder (s := s.setMap map) empty)] at done
    exact ⟨done.lane_of rfl, done.log, done.links⟩
  · obtain ⟨ord, rest, orders⟩ := List.exists_cons_of_ne_nil queued
    rw [opening opens, openAndJudge_of_failed (tryOpen_of_logFull (s := s.setMap map) orders
      (freeSlot_of_full (s := s.setMap map) full))] at done
    exact ⟨done.lane_of rfl, done.log, done.links⟩
  · obtain ⟨ord, rest, orders⟩ := List.exists_cons_of_ne_nil queued
    obtain ⟨i, found'⟩ : ∃ i, (s.setMap map).freeSlot = some i := by
      refine Option.ne_none_iff_exists'.mp fun none => ?_
      obtain ⟨i, free⟩ := room
      have all := (logFull_iff (s.setMap map)).mpr none
      simp only [State.logFull, List.all_eq_true, bne_iff_ne] at all
      exact all i (mem_allSlots i) free
    rw [opening opens, openAndJudge_of_failed (tryOpen_of_ejectBusy (s := s.setMap map) orders found' busy)] at done
    exact ⟨done.lane_of rfl, done.log, done.links⟩
  intro opened q q' position
  have lowest' : (s.setMap map).freeSlot = some i := freeSlot_of_lowest (s := s.setMap map) free lowest
  rw [opening opens, openAndJudge_of_opened (tryOpen_of_room (s := s.setMap map) orders lowest' room)] at done
  have disposition : (judge (s.purged r) l (openStack l i ord rest (s.setMap map))).2 = s.tableDisposition r l := by
    rw [← openAndJudge_of_opened (tryOpen_of_room (s := s.setMap map) orders lowest' room), ← opening opens]
    refine (gateChecks_table (s := s.setMap map) (r := s.purged r) rfl fun stacking => ?_).trans
      (tableDisposition_purged s map r l)
    have other : u.opens = false := by simp [LaneUnit.opens, show u.state = .stacking from stacking]
    rw [opens] at other
    cases other
  obtain ⟨lane', forming⟩ := openStack_forming (s := s.setMap map) (l := l) free ord rest
  have profile : (openStack l i ord rest (s.setMap map)).profile = s.profile := by simp [State.profile]
  have belt : (openStack l i ord rest (s.setMap map)).belt = s.belt := by simp [State.belt]
  have links : (openStack l i ord rest (s.setMap map)).links = s.links := by simp
  refine ⟨fun cause table => ?_, fun table => ?_⟩
  · have made := judge_span (disposition.trans table) forming
    rw [openStack_slot_rewritten (s := s.setMap map) free] at made
    have moved := done.log
    have raised := done.links
    rw [made] at moved raised
    exact ⟨done.lane_of (by rw [made]; rfl), moved, raised⟩
  · have judged := judge_of_stacked (disposition.trans table)
    rw [judged] at done
    refine ⟨fun more => ?_, fun last ahead => ?_⟩
    · rw [stackLabel_of_room (s.purged r) forming more, openStack_rewritten (s := s.setMap map) free, lane'] at done
      exact ⟨done.lane_of rfl, done.log, done.links⟩
    · rw [stackLabel_of_target (s.purged r) forming last (by rw [lane', belt, profile]; exact ahead),
        openStack_rewritten (s := s.setMap map) free, lane', profile] at done
      refine ⟨(done.lane_of rfl).trans ?_, done.log, done.links⟩
      simp only [LaneUnit.closedAt, Bool.or_eq_true]
      rfl

end Sys2Proof.Machine


/-!
PROOFS. Eject lists emptied at once, and the lane that enters FAULT (07: R136 to R140, R143, R145; R153).
-/

namespace Sys2Proof.Machine

theorem raiseEvent_raiseEvent (e : Event) (s : State) : raiseEvent e (raiseEvent e s) = raiseEvent e s := by
  have flagged (u : LinkUnit) : (u.withFlag e).withFlag e = u.withFlag e := by
    simp [LinkUnit.withFlag, BitVec.or_assoc]
  unfold raiseEvent
  simp only [State.setLinks]
  congr 2 <;> split <;> simp only [flagged]

/-- The content of a slot after the release of an eject list: its CLOSED stacks become READY. -/
def releasedSlot (es : List Eject) (f : StackRecord → StackRecord) (i : SlotIndex) : Slot → Slot
  | .held .closed r => if es.any (fun e => e.slot == i) then .held .ready (f r) else .held .closed r
  | .held .forming r => .held .forming r
  | .held .ready r => .held .ready r
  | .free => .free

/-- The log after the release of an eject list, its slots READY in the order of the list. -/
def StackLog.release (g : StackLog) (es : List Eject) (f : StackRecord → StackRecord) : StackLog :=
  { slots := Vector.ofFn (fun i => releasedSlot es f i g.slots[i]), ready := g.ready ++ es.map (fun e => e.slot) }

theorem StackLog.release_slot (g : StackLog) (es : List Eject) (f : StackRecord → StackRecord) (i : SlotIndex) :
    (g.release es f).slots[i] = releasedSlot es f i g.slots[i] := by
  simp [StackLog.release]

theorem StackLog.ext_slots {g h : StackLog} (slots : ∀ i : SlotIndex, g.slots[i] = h.slots[i]) (ready : g.ready = h.ready) :
    g = h := by
  have same : g.slots = h.slots := Vector.ext fun i bound => slots ⟨i, bound⟩
  cases g
  cases h
  cases same
  cases ready
  rfl

theorem StackLog.release_nil (g : StackLog) (f : StackRecord → StackRecord) : g.release [] f = g := by
  refine StackLog.ext_slots (fun i => ?_) (List.append_nil _)
  rw [StackLog.release_slot]
  unfold releasedSlot
  split
  · next r content => exact content.symm
  all_goals next content => exact content.symm

theorem StackLog.release_cons {g : StackLog} {e : Eject} {es : List Eject} {r : StackRecord}
    (f : StackRecord → StackRecord) (held : g.slots[e.slot] = .held .closed r) :
    StackLog.release ⟨g.slots.set e.slot.val (.held .ready (f r)), g.ready ++ [e.slot]⟩ es f = g.release (e :: es) f := by
  refine StackLog.ext_slots (fun i => ?_) (by simp [StackLog.release])
  rw [StackLog.release_slot, StackLog.release_slot]
  dsimp only
  rw [slots_set]
  by_cases here : i = e.slot
  · rw [if_pos here, here, held]
    simp [releasedSlot]
  · rw [if_neg here]
    cases content : g.slots[i] with
    | free => rfl
    | held st r' => cases st <;> simp [releasedSlot, Ne.symm here]

theorem readied_setLog (s : State) (i : SlotIndex) (r : StackRecord) (g : StackLog) :
    (s.readied i r).setLog g = raiseEvent .recordReady (s.setLog g) := rfl

/-- An eject list whose stacks stand CLOSED in slots of their own is released at once. -/
theorem releaseEjects_eq {l : Lane} {s : State} (f : StackRecord → StackRecord)
    (closed : ∀ e ∈ (s.lane l).ejects, ∃ r, s.slot e.slot = .held .closed r)
    (once : ((s.lane l).ejects.map (fun e => e.slot)).Nodup) :
    releaseEjects l f s = raiseIf (!(s.lane l).ejects.isEmpty) .recordReady
      ((s.setLane l { s.lane l with ejects := [] }).setLog (s.log.release (s.lane l).ejects f)) := by
  generalize listed : (s.lane l).ejects = es at *
  induction es generalizing s with
  | nil =>
    rw [releaseEjects_nil f listed, StackLog.release_nil]
    rfl
  | cons e rest ih =>
    obtain ⟨r, held⟩ := closed e List.mem_cons_self
    rw [List.map_cons, List.nodup_cons] at once
    have made : makeReady e.slot f (s.setLane l { s.lane l with ejects := rest }) =
        (s.setLane l { s.lane l with ejects := rest }).readied e.slot (f r) :=
      makeReady_of_closed f (by rw [setLane_slot, held])
    have lane : ((s.setLane l { s.lane l with ejects := rest }).readied e.slot (f r)).lane l =
        { s.lane l with ejects := rest } := setLane_lane_same _ _ _
    rw [releaseEjects_cons f listed, made]
    have others (e' : Eject) (member : e' ∈ rest) :
        ∃ r', ((s.setLane l { s.lane l with ejects := rest }).readied e.slot (f r)).slot e'.slot = .held .closed r' := by
      obtain ⟨r', held'⟩ := closed e' (List.mem_cons_of_mem e member)
      have apart : e'.slot ≠ e.slot := fun same => once.1 (List.mem_map.mpr ⟨e', member, same⟩)
      exact ⟨r', (setSlot_slot_other s e.slot e'.slot _ apart).trans held'⟩
    rw [ih (by rw [lane]) others once.2, lane, readied_setLane, setLane_setLane]
    have log : ((s.setLane l { s.lane l with ejects := rest }).readied e.slot (f r)).log.release rest f =
        s.log.release (e :: rest) f := StackLog.release_cons f held
    rw [log, readied_setLog, List.isEmpty_cons, Bool.not_false, raiseIf, raiseIf, if_pos rfl]
    split
    · exact raiseEvent_raiseEvent .recordReady _
    · rfl

/-! ## The lane that enters FAULT (R136, R137) -/

section
variable {l : Lane} {s : State}

theorem opened_of_owns (own : LanesOwnTheirSlots s) {o : OpenStack} (opened : (s.lane l).openStack = some o) :
    ∃ r, s.slot o.slot = .held .forming r ∧ r.lane = l := by
  obtain ⟨r, content, forming, lane⟩ := (own l).1 o opened
  exact ⟨r, Slot.eq_held_of_isIn content forming, lane⟩

theorem listed_of_owns (own : LanesOwnTheirSlots s) {e : Eject} (member : e ∈ (s.lane l).ejects) :
    ∃ r, s.slot e.slot = .held .closed r ∧ r.lane = l := by
  obtain ⟨r, content, closed, lane, -⟩ := (own l).2.1 e member
  exact ⟨r, Slot.eq_held_of_isIn content closed, lane⟩

theorem setLog_setLane (s : State) (g : StackLog) (l : Lane) (u : LaneUnit) :
    (s.setLog g).setLane l u = (s.setLane l u).setLog g := rfl

theorem setLog_setLog (s : State) (g h : StackLog) : (s.setLog g).setLog h = s.setLog h := rfl

theorem raiseEvent_setLane (e : Event) (s : State) (l : Lane) (u : LaneUnit) :
    (raiseEvent e s).setLane l u = raiseEvent e (s.setLane l u) := rfl

theorem raiseEvent_setLog (e : Event) (s : State) (g : StackLog) :
    (raiseEvent e s).setLog g = raiseEvent e (s.setLog g) := rfl

/-- The lane in FAULT, once its stack is in the quarantine record. -/
theorem faultLane_of_quarantine {v : LaneUnit} {g : StackLog} (on : ¬((s.lane l).state = .off ∨ (s.lane l).state = .fault))
    (moved : openStackToQuarantine l ((raiseEvent .laneFault s).setLane l { s.lane l with gap := 0 }) =
      ((raiseEvent .laneFault s).setLane l v).setLog g) (ejects : v.ejects = (s.lane l).ejects)
    (closed : ∀ e ∈ (s.lane l).ejects, ∃ r, g.slots[e.slot] = .held .closed r)
    (once : ((s.lane l).ejects.map (fun e => e.slot)).Nodup) :
    faultLane l s = raiseIf (!(s.lane l).ejects.isEmpty) .recordReady (raiseEvent .laneFault
      ((s.setLane l { v with ejects := [], state := .fault }).setLog
        (g.release (s.lane l).ejects StackRecord.withEjectFault))) := by
  have lane : (((raiseEvent .laneFault s).setLane l v).setLog g).lane l = v := setLane_lane_same _ _ _
  have stated (b : Bool) (t : State) : (raiseIf b .recordReady t).setLaneState l .fault =
      raiseIf b .recordReady (t.setLaneState l .fault) := by cases b <;> rfl
  have log : (((raiseEvent .laneFault s).setLane l v).setLog g).log = g := rfl
  have faulted (t : State) (u : LaneUnit) (h : StackLog) : ((t.setLane l u).setLog h).setLaneState l .fault =
      (t.setLane l { u with state := .fault }).setLog h := by
    rw [State.setLaneState, setLog_view_lane, setLane_lane_same, setLog_setLane, setLane_setLane]
  rw [faultLane_of_on on, enterFault, moved, releaseEjects_eq _ (by rw [lane, ejects]; exact closed)
    (by rw [lane, ejects]; exact once), stated, faulted, lane, log, ejects, setLog_setLane, setLane_setLane, setLog_setLog,
    raiseEvent_setLane, raiseEvent_setLog]

/-- What a fault makes of a slot (R137). -/
def faultedSlot (u : LaneUnit) (i : SlotIndex) : Slot → Slot
  | .held .forming r => if u.openStack.any (fun o => o.slot == i) then .free else .held .forming r
  | .held .closed r => if u.ejects.any (fun e => e.slot == i) then .held .ready { r with ejectFault := true }
      else .held .closed r
  | .held .ready r => .held .ready r
  | .free => .free

theorem laneFaulted_eq (on : ¬((s.lane l).state = .off ∨ (s.lane l).state = .fault)) :
    s.laneFaulted l = raiseIf (!(s.lane l).ejects.isEmpty) .recordReady (raiseEvent .laneFault
      ((s.setLane l { s.lane l with
        state := .fault, gap := 0, openStack := none, ejects := [], quarantine := some (s.firstQuarantine l)
        nextSeq := if (s.formingStack l).isSome then (s.lane l).nextSeq else (s.lane l).nextSeq + 1 }).setLog
      { slots := Vector.ofFn (fun i => faultedSlot (s.lane l) i (s.slot i))
        ready := s.log.ready ++ (s.lane l).ejects.map (fun e => e.slot) })) := by
  have slots : (fun i => faultedSlot (s.lane l) i (s.slot i)) = fun i => match s.slot i with
      | .held .forming r => if (s.lane l).openStack.any (fun o => o.slot == i) then .free else .held .forming r
      | .held .closed r =>
        if (s.lane l).ejects.any (fun e => e.slot == i) then .held .ready { r with ejectFault := true }
        else .held .closed r
      | .held .ready r => .held .ready r
      | .free => .free := by
    funext i
    cases content : s.slot i with
    | free => rfl
    | held st r => cases st <;> rfl
  rw [slots]
  exact if_neg on

theorem releasedSlot_of_bare {u : LaneUnit} (bare : u.openStack = none) (i : SlotIndex) (x : Slot) :
    releasedSlot u.ejects StackRecord.withEjectFault i x = faultedSlot u i x := by
  cases x with
  | free => rfl
  | held st r =>
    cases st with
    | forming => simp [releasedSlot, faultedSlot, bare]
    | closed | ready => rfl

theorem releasedSlot_of_opened {u : LaneUnit} {o : OpenStack} (opened : u.openStack = some o) {i : SlotIndex}
    (other : i ≠ o.slot) (x : Slot) :
    releasedSlot u.ejects StackRecord.withEjectFault i x = faultedSlot u i x := by
  cases x with
  | free => rfl
  | held st r =>
    cases st with
    | forming => simp [releasedSlot, faultedSlot, opened, Ne.symm other]
    | closed | ready => rfl

theorem ofFn_slot {α : Type} (f : SlotIndex → α) (i : SlotIndex) : (Vector.ofFn f)[i] = f i := by simp

/-- The log after a fault, once the open stack is out of its slot. -/
theorem faultedLog_of_opened {o : OpenStack} {q : StackRecord} (opened : (s.lane l).openStack = some o)
    (held : s.slot o.slot = .held .forming q) :
    StackLog.release { s.log with slots := s.log.slots.set o.slot.val .free } (s.lane l).ejects StackRecord.withEjectFault =
      { slots := Vector.ofFn (fun i => faultedSlot (s.lane l) i (s.slot i))
        ready := s.log.ready ++ (s.lane l).ejects.map (fun e => e.slot) } := by
  refine StackLog.ext_slots (fun i => ?_) rfl
  rw [StackLog.release_slot]
  dsimp only
  rw [slots_set, ofFn_slot]
  by_cases here : i = o.slot
  · rw [if_pos here, here, held]
    simp [releasedSlot, faultedSlot, opened]
  · rw [if_neg here]
    exact releasedSlot_of_opened opened here _

theorem faultedLog_of_bare (bare : (s.lane l).openStack = none) :
    s.log.release (s.lane l).ejects StackRecord.withEjectFault =
      { slots := Vector.ofFn (fun i => faultedSlot (s.lane l) i (s.slot i))
        ready := s.log.ready ++ (s.lane l).ejects.map (fun e => e.slot) } := by
  refine StackLog.ext_slots (fun i => ?_) rfl
  rw [StackLog.release_slot]
  dsimp only
  rw [ofFn_slot, releasedSlot_of_bare bare]
  rfl

/-- A lane without a stack starts an empty quarantine record. -/
theorem openStackToQuarantine_of_bare (bare : (s.lane l).openStack = none) :
    openStackToQuarantine l s = s.setLane l { s.lane l with
      quarantine := some (emptyQuarantine l (s.lane l).nextSeq s.mode.isDryKind)
      nextSeq := (s.lane l).nextSeq + 1 } := by
  unfold openStackToQuarantine
  split
  · rfl
  · next o opened => cases bare.symm.trans opened

/-- The open stack of a lane becomes its quarantine record. -/
theorem openStackToQuarantine_of_opened {o : OpenStack} {q : StackRecord} (opened : (s.lane l).openStack = some o)
    (held : s.slot o.slot = .held .forming q) :
    openStackToQuarantine l s =
      (s.setLane l { s.lane l with openStack := none, quarantine := some q.quarantined }).setSlot o.slot .free := by
  have record := formingRecord_eq_some.mpr held
  unfold openStackToQuarantine
  simp only [opened, record]
  unfold releaseSlot
  rw [setLane_slot, held]

/-- A lane enters FAULT as R136 and R137 say, when it holds its slots. -/
theorem faultLane_eq (own : LanesOwnTheirSlots s) (l : Lane) : faultLane l s = s.laneFaulted l := by
  by_cases off : (s.lane l).state = .off ∨ (s.lane l).state = .fault
  · rw [faultLane_of_off off]
    exact (if_pos off).symm
  have lane : ((raiseEvent .laneFault s).setLane l { s.lane l with gap := 0 }).lane l = { s.lane l with gap := 0 } :=
    setLane_lane_same _ _ _
  have once := (own l).2.2
  have closed (e : Eject) (member : e ∈ (s.lane l).ejects) : ∃ r, s.slot e.slot = .held .closed r :=
    (listed_of_owns own member).imp fun _ => And.left
  rw [laneFaulted_eq off]
  cases opened : (s.lane l).openStack with
  | none =>
    have bare : s.formingStack l = none := by simp [State.formingStack, opened]
    have first : s.firstQuarantine l = emptyQuarantine l (s.lane l).nextSeq s.mode.isDryKind := by
      unfold State.firstQuarantine
      rw [bare]
      rfl
    have moved := openStackToQuarantine_of_bare (s := (raiseEvent .laneFault s).setLane l { s.lane l with gap := 0 })
      (l := l) (by rw [lane]; exact opened)
    rw [lane, setLane_setLane] at moved
    rw [faultLane_of_quarantine (g := s.log) off moved rfl closed once, faultedLog_of_bare opened, bare, first, ← opened]
    rfl
  | some o =>
    obtain ⟨q, held, -⟩ := opened_of_owns own opened
    have forming : s.formingStack l = some (o, q) := formingStack_of opened (formingRecord_eq_some.mpr held)
    have first : s.firstQuarantine l = q.quarantined := by
      unfold State.firstQuarantine
      rw [forming]
      rfl
    have moved := openStackToQuarantine_of_opened (s := (raiseEvent .laneFault s).setLane l { s.lane l with gap := 0 })
      (l := l) (by rw [lane]; exact opened) held
    rw [lane, setLane_setLane] at moved
    have still (e : Eject) (member : e ∈ (s.lane l).ejects) :
        ∃ r, (s.log.slots.set o.slot.val Slot.free)[e.slot] = .held .closed r := by
      obtain ⟨r, content⟩ := closed e member
      have apart : e.slot ≠ o.slot := fun same => by rw [same, held] at content; cases content
      exact ⟨r, (slots_set _ _ _ _).trans ((if_neg apart).trans content)⟩
    rw [faultLane_of_quarantine (g := { s.log with slots := s.log.slots.set o.slot.val .free }) off moved rfl still once,
      faultedLog_of_opened opened held, forming, first]
    rfl

end

end Sys2Proof.Machine


/-!
PROOFS. Fault latches (09: R170 to R172; 07: R136 to R140): the latch of each output, and the filter times about it.
-/

namespace Sys2Proof.Machine

/-! ## Filter times restarted (R170) -/

/-- The outputs with the filter times of some of them restarted. -/
def Actuators.settle (p : Output → Bool) (a : Actuators) : Actuators :=
  { a with
    knife := if p .knife then { a.knife with filter := .settling } else a.knife
    gates := Vector.ofFn (fun l => if p (.gate l) then { a.gates[l] with filter := .settling } else a.gates[l])
    pushers := Vector.ofFn (fun l => if p (.pusher l) then { a.pushers[l] with filter := .settling } else a.pushers[l]) }

def State.settle (p : Output → Bool) (s : State) : State := s.setAct (Actuators.settle p s.act)

theorem Actuators.ext_outputs {a b : Actuators} (knife : a.knife = b.knife) (gates : ∀ l : Lane, a.gates[l] = b.gates[l])
    (pushers : ∀ l : Lane, a.pushers[l] = b.pushers[l]) (camera : a.camera = b.camera) (enabled : a.enabled = b.enabled) :
    a = b := by
  have sameGates : a.gates = b.gates := Vector.ext fun i bound => gates ⟨i, bound⟩
  have samePushers : a.pushers = b.pushers := Vector.ext fun i bound => pushers ⟨i, bound⟩
  cases a
  cases b
  simp_all

theorem settle_knife (p : Output → Bool) (a : Actuators) : (Actuators.settle p a).knife =
    if p .knife then { a.knife with filter := .settling } else a.knife := rfl

theorem settle_gate (p : Output → Bool) (a : Actuators) (l : Lane) : (Actuators.settle p a).gates[l] =
    if p (.gate l) then { a.gates[l] with filter := .settling } else a.gates[l] := ofFn_lane _ l

theorem settle_pusher (p : Output → Bool) (a : Actuators) (l : Lane) : (Actuators.settle p a).pushers[l] =
    if p (.pusher l) then { a.pushers[l] with filter := .settling } else a.pushers[l] := ofFn_lane _ l

theorem Knife.eq_of_unfiltered {x y : Knife} {f : Filter} (same : { x with filter := f } = { y with filter := f }) :
    x = { y with filter := x.filter } := by
  injection same with drive latch
  rw [← drive, ← latch]

theorem Gate.eq_of_unfiltered {x y : Gate} {f : Filter} (same : { x with filter := f } = { y with filter := f }) :
    x = { y with filter := x.filter } := by
  injection same with hold latch
  rw [← hold, ← latch]

theorem Pusher.eq_of_unfiltered {x y : Pusher} {f : Filter} (same : { x with filter := f } = { y with filter := f }) :
    x = { y with filter := x.filter } := by
  injection same with drive pending latch
  rw [← drive, ← pending, ← latch]

/-- The filter times of the driven outputs are restarted, and nothing else moves. -/
theorem refreshFilters_settle (before after : State) :
    refreshFilters before after = after.settle (fun o => before.driven o || after.driven o) := by
  obtain ⟨frame, act⟩ := refreshFilters_same before after
  have filters := refreshFilters_filterOf before after
  rw [frame]
  refine congrArg after.setAct ?_
  generalize refreshFilters before after = t at *
  have knife := congrArg Actuators.knife act
  have gate (l : Lane) := congrArg (fun a : Actuators => a.gates[l]) act
  have pusher (l : Lane) := congrArg (fun a : Actuators => a.pushers[l]) act
  simp only [Actuators.unfiltered, Fin.getElem_fin, Vector.getElem_map] at knife gate pusher
  have camera : t.act.unfiltered.camera = after.act.unfiltered.camera := congrArg _ act
  have enabled : t.act.unfiltered.enabled = after.act.unfiltered.enabled := congrArg _ act
  refine Actuators.ext_outputs ?_ (fun l => ?_) (fun l => ?_) camera enabled
  · have filter : t.act.knife.filter = _ := filters .knife
    have whole : t.act.knife = { after.act.knife with filter := t.act.knife.filter } := Knife.eq_of_unfiltered knife
    rw [settle_knife, whole, filter]
    simp only [Bool.or_eq_true, State.filterOf]
    split <;> rfl
  · have filter : (t.act.gates[l]).filter = _ := filters (.gate l)
    have whole : t.act.gates[l] = { after.act.gates[l] with filter := (t.act.gates[l]).filter } :=
      Gate.eq_of_unfiltered (gate l)
    rw [settle_gate, whole, filter]
    simp only [Bool.or_eq_true, State.filterOf, State.gate]
    split <;> rfl
  · have filter : (t.act.pushers[l]).filter = _ := filters (.pusher l)
    have whole : t.act.pushers[l] = { after.act.pushers[l] with filter := (t.act.pushers[l]).filter } :=
      Pusher.eq_of_unfiltered (pusher l)
    rw [settle_pusher, whole, filter]
    simp only [Bool.or_eq_true, State.filterOf, State.pusher]
    split <;> rfl

/-! ## What commutes with the restart of filter times -/

section
variable {s : State} {l : Lane} (p : Output → Bool)

theorem settle_driven (s : State) (o : Output) : (s.settle p).driven o = s.driven o := by
  cases o with
  | knife =>
    change (Actuators.settle p s.act).knife.drive.isPulse = _
    rw [settle_knife]
    split <;> rfl
  | gate l =>
    change ((Actuators.settle p s.act).gates[l].hold.isSome && (Actuators.settle p s.act).gates[l].latch.isNone && _) = _
    rw [settle_gate]
    split <;> rfl
  | pusher l =>
    change (Actuators.settle p s.act).pushers[l].drive.isPulse = _
    rw [settle_pusher]
    split <;> rfl

theorem settle_setKnife {f : Knife → Knife} (blind : ∀ k, f { k with filter := .settling } = { f k with filter := .settling }) :
    (s.settle p).setKnife (f (s.settle p).act.knife) = (s.setKnife (f s.act.knife)).settle p := by
  refine congrArg s.setAct (Actuators.ext_outputs ?_ (fun _ => rfl) (fun _ => rfl) rfl rfl)
  rw [settle_knife]
  change f (if p .knife then _ else _) = _
  split
  · exact blind _
  · rfl

theorem settle_setGate {f : Gate → Gate} (blind : ∀ g, f { g with filter := .settling } = { f g with filter := .settling }) :
    (s.settle p).setGate l (f ((s.settle p).gate l)) = (s.setGate l (f (s.gate l))).settle p := by
  refine congrArg s.setAct (Actuators.ext_outputs rfl (fun m => ?_) (fun _ => rfl) rfl rfl)
  rw [settle_gate]
  refine (set_getElem _ l m _).trans ?_
  have written : (s.setGate l (f (s.gate l))).act.gates[m] = if m = l then f (s.gate l) else s.gate m :=
    set_getElem _ l m _
  have read : (s.settle p).gate l = if p (.gate l) then { s.gate l with filter := .settling } else s.gate l :=
    settle_gate p s.act l
  rw [written, read]
  by_cases here : m = l
  · subst here
    rw [if_pos rfl, if_pos rfl]
    split
    · exact blind _
    · rfl
  · rw [if_neg here, if_neg here]
    exact settle_gate p s.act m

theorem settle_setPusher {f : Pusher → Pusher}
    (blind : ∀ q, f { q with filter := .settling } = { f q with filter := .settling }) :
    (s.settle p).setPusher l (f ((s.settle p).pusher l)) = (s.setPusher l (f (s.pusher l))).settle p := by
  refine congrArg s.setAct (Actuators.ext_outputs rfl (fun _ => rfl) (fun m => ?_) rfl rfl)
  rw [settle_pusher]
  refine (set_getElem _ l m _).trans ?_
  have written : (s.setPusher l (f (s.pusher l))).act.pushers[m] = if m = l then f (s.pusher l) else s.pusher m :=
    set_getElem _ l m _
  have read : (s.settle p).pusher l = if p (.pusher l) then { s.pusher l with filter := .settling } else s.pusher l :=
    settle_pusher p s.act l
  rw [written, read]
  by_cases here : m = l
  · subst here
    rw [if_pos rfl, if_pos rfl]
    split
    · exact blind _
    · rfl
  · rw [if_neg here, if_neg here]
    exact settle_pusher p s.act m

end

theorem raiseIf_setAct (b : Bool) (e : Event) (s : State) (a : Actuators) :
    (raiseIf b e s).setAct a = raiseIf b e (s.setAct a) := by
  cases b <;> rfl

/-- A fault of a lane reads and moves no output. -/
theorem laneFaulted_setAct (s : State) (a : Actuators) (l : Lane) :
    (s.setAct a).laneFaulted l = (s.laneFaulted l).setAct a ∧ (s.laneFaulted l).act = s.act := by
  by_cases off : (s.lane l).state = .off ∨ (s.lane l).state = .fault
  · have reports : s.laneFaulted l = raiseEvent .laneFault s := if_pos off
    have reports' : (s.setAct a).laneFaulted l = raiseEvent .laneFault (s.setAct a) := if_pos off
    rw [reports, reports']
    exact ⟨rfl, rfl⟩
  · rw [laneFaulted_eq off, laneFaulted_eq (s := s.setAct a) off, raiseIf_setAct]
    refine ⟨rfl, ?_⟩
    cases (s.lane l).ejects <;> rfl

theorem settle_laneFaulted (p : Output → Bool) (s : State) (l : Lane) :
    (s.settle p).laneFaulted l = (s.laneFaulted l).settle p := by
  obtain ⟨moved, act⟩ := laneFaulted_setAct s (Actuators.settle p s.act) l
  rw [State.settle, State.settle, moved, act]

end Sys2Proof.Machine


/-!
PROOFS. Fault latches (R170 to R172): the entry to HALT by the knife, and the latches told to the lanes.
-/

namespace Sys2Proof.Machine

/-! ## HALT and filter times -/

theorem settle_knifeStopped (p : Output → Bool) (s : State) : (s.settle p).knifeStopped = s.knifeStopped := by
  have drive : (s.settle p).act.knife.drive = s.act.knife.drive := by
    change (Actuators.settle p s.act).knife.drive = _
    rw [settle_knife]
    split <;> rfl
  unfold State.knifeStopped
  rw [drive]
  rfl

theorem settle_pusher_drive (p : Output → Bool) (s : State) (l : Lane) :
    ((s.settle p).pusher l).drive = (s.pusher l).drive := by
  change ((Actuators.settle p s.act).pushers[l]).drive = _
  rw [settle_pusher]
  split <;> rfl

/-- The outputs as HALT leaves them (R164, R165, R168). -/
def haltedOutputs (knife : Drive) (off : Nat) (a : Actuators) : Actuators :=
  { a with
    knife := { a.knife with drive := knife }
    gates := a.gates.map (fun g => { g with hold := none })
    pushers := a.pushers.map (fun q =>
      { q with
        pendingPulse := false
        drive := match q.drive with
          | .pulse _ => .offTime off
          | d => d }) }

theorem haltedOutputs_settle (p : Output → Bool) (knife : Drive) (off : Nat) (a : Actuators) :
    haltedOutputs knife off (Actuators.settle p a) = Actuators.settle p (haltedOutputs knife off a) := by
  refine Actuators.ext_outputs ?_ (fun l => ?_) (fun l => ?_) rfl rfl
  · rw [settle_knife]
    change { (Actuators.settle p a).knife with drive := knife } = _
    rw [settle_knife]
    split <;> rfl
  · rw [settle_gate]
    have mapped (b : Actuators) : (haltedOutputs knife off b).gates[l] = { b.gates[l] with hold := none } :=
      Vector.getElem_map _ l.isLt
    rw [mapped, mapped, settle_gate]
    split <;> rfl
  · rw [settle_pusher]
    have mapped (b : Actuators) : (haltedOutputs knife off b).pushers[l] = { b.pushers[l] with
        pendingPulse := false
        drive := match (b.pushers[l]).drive with
          | .pulse _ => .offTime off
          | d => d } := Vector.getElem_map _ l.isLt
    rw [mapped, mapped, settle_pusher]
    split <;> rfl

theorem settle_settle (p q : Output → Bool) (a : Actuators) :
    Actuators.settle p (Actuators.settle q a) = Actuators.settle q (Actuators.settle p a) := by
  refine Actuators.ext_outputs ?_ (fun l => ?_) (fun l => ?_) rfl rfl
  · rw [settle_knife, settle_knife, settle_knife, settle_knife]
    split <;> split <;> rfl
  · rw [settle_gate, settle_gate, settle_gate, settle_gate]
    split <;> split <;> rfl
  · rw [settle_pusher, settle_pusher, settle_pusher, settle_pusher]
    split <;> split <;> rfl

/-- The entry to HALT and a restart of filter times, in either order. -/
theorem settle_afterHalt (p : Output → Bool) (cause : HaltCause) (s : State) :
    (s.settle p).afterHalt cause = (s.afterHalt cause).settle p := by
  by_cases halted : s.mode.isHalt = true
  · have same : s.afterHalt cause = s := if_pos halted
    rw [same]
    exact if_pos halted
  · have enters (t : State) (runs : ¬t.mode.isHalt = true) : t.afterHalt cause = raiseEvent .haltEntered { t with
        prof := { t.prof with commit := none, mode := .halt cause }
        pos := t.levelled
        reg := t.idleReg
        cut := t.emptiedCut
        lanes := Vector.ofFn (fun l =>
          { t.lane l with pulseStack := if (t.pusher l).drive.isPulse then none else (t.lane l).pulseStack })
        act := haltedOutputs t.knifeStopped t.profile.pusherOff (refreshFilters t t).act } := if_neg runs
    have filters : (refreshFilters (s.settle p) (s.settle p)).act = Actuators.settle p (refreshFilters s s).act := by
      rw [refreshFilters_settle, refreshFilters_settle]
      have driven : (fun o => (s.settle p).driven o || (s.settle p).driven o) = fun o => s.driven o || s.driven o := by
        funext o
        rw [settle_driven]
      rw [driven]
      exact settle_settle (fun o => s.driven o || s.driven o) p s.act
    rw [enters s halted, enters (s.settle p) halted, filters, haltedOutputs_settle, settle_knifeStopped]
    simp only [settle_pusher_drive]
    rfl

/-! ## The latch of each output -/

/-- A latched gate tells its lane (R136, R138). -/
theorem latchGate_eq {l : Lane} {s : State} (own : LanesOwnTheirSlots s) (kind : Latch) :
    latchGate l kind s = (s.setGate l { s.gate l with hold := none, latch := some kind }).laneFaulted l :=
  faultLane_eq (s := s.setGate l { s.gate l with hold := none, latch := some kind }) own l

/-- A latched knife requests HALT (R172). -/
theorem latchKnife_eq (s : State) (kind : Latch) : latchKnife kind s =
    (s.setKnife { s.act.knife with drive := .latched, latch := some kind }).afterHalt .knifeFault := enterHalt_eq _ _

/-- The stack of a pulse that a fault ends is spoiled, if its record is still READY in its slot (R140, R157). -/
theorem spoilPulseStack_setAct (l : Lane) (s : State) (a : Actuators) :
    spoilPulseStack l (s.setAct a) = (spoilPulseStack l s).setAct a ∧ (spoilPulseStack l s).act = s.act := by
  have lane : (s.setAct a).lane l = s.lane l := rfl
  unfold spoilPulseStack
  rw [lane]
  cases (s.lane l).pulseStack with
  | none => exact ⟨rfl, rfl⟩
  | some x =>
    obtain ⟨i, seq⟩ := x
    have slot : (s.setAct a).slot i = s.slot i := rfl
    dsimp only
    unfold flagReadyEjectFault
    rw [slot]
    cases s.slot i with
    | free => exact ⟨rfl, rfl⟩
    | held st r =>
      cases st with
      | forming | closed => exact ⟨rfl, rfl⟩
      | ready =>
        dsimp only
        split <;> exact ⟨rfl, rfl⟩

/-- A spoiled stack is READY, so that every lane still holds its slots. -/
theorem spoilPulseStack_own {s : State} (own : LanesOwnTheirSlots s) (l : Lane) :
    LanesOwnTheirSlots (spoilPulseStack l s) := by
  have lanes (m : Lane) : ((spoilPulseStack l s).lane m).openStack = (s.lane m).openStack ∧
      ((spoilPulseStack l s).lane m).ejects = (s.lane m).ejects := by
    unfold spoilPulseStack
    split
    · exact ⟨rfl, rfl⟩
    · next i seq _ =>
      have still : (flagReadyEjectFault i l seq s).lane m = s.lane m := by
        rw [State.lane, (by simp : (flagReadyEjectFault i l seq s).lanes = s.lanes)]
        rfl
      rw [setLane_lane]
      split
      · next here => rw [here]; exact ⟨rfl, rfl⟩
      · rw [still]; exact ⟨rfl, rfl⟩
  have slots (j : SlotIndex) (taken : (s.slot j).isIn .ready = false) : (spoilPulseStack l s).slot j = s.slot j := by
    unfold spoilPulseStack
    split
    · rfl
    · next i seq _ =>
      rw [setLane_slot]
      unfold flagReadyEjectFault
      split
      · next r ready =>
        split
        · refine setSlot_slot_other _ _ _ _ fun here => ?_
          rw [here, ready] at taken
          cases taken
        · rfl
      all_goals rfl
  intro m
  obtain ⟨opened, listed, once⟩ := own m
  refine ⟨fun o member => ?_, fun e member => ?_, by rw [(lanes m).2]; exact once⟩
  · rw [(lanes m).1] at member
    obtain ⟨r, content, forming, lane⟩ := opened o member
    have held := Slot.eq_held_of_isIn content forming
    rw [slots o.slot (by rw [held]; rfl)]
    exact ⟨r, content, forming, lane⟩
  · rw [(lanes m).2] at member
    obtain ⟨r, content, closed, lane⟩ := listed e member
    have held := Slot.eq_held_of_isIn content closed
    rw [slots e.slot (by rw [held]; rfl)]
    exact ⟨r, content, closed, lane⟩

/-- The state whose pulse stack a latch of a pusher spoils. -/
def State.spoiled (s : State) (l : Lane) : State := if (s.pusher l).drive.isPulse then spoilPulseStack l s else s

/-- A pusher with its latch. -/
def Pusher.latched (q : Pusher) (kind : Latch) : Pusher :=
  { q with
    drive := .latched
    latch := some kind
    pendingPulse := match kind with
      | .overload => false
      | .opened => q.pendingPulse }

theorem spoiled_own {s : State} (own : LanesOwnTheirSlots s) (l : Lane) : LanesOwnTheirSlots (s.spoiled l) := by
  unfold State.spoiled
  split
  · exact spoilPulseStack_own own l
  · exact own

theorem spoiled_act (s : State) (l : Lane) : (s.spoiled l).act = s.act := by
  unfold State.spoiled
  split
  · exact (spoilPulseStack_setAct l s s.act).2
  · rfl

theorem spoiled_settle (p : Output → Bool) (s : State) (l : Lane) : (s.settle p).spoiled l = (s.spoiled l).settle p := by
  unfold State.spoiled
  rw [settle_pusher_drive]
  split
  · obtain ⟨moved, act⟩ := spoilPulseStack_setAct l s (Actuators.settle p s.act)
    rw [State.settle, State.settle, moved, act]
  · rfl

/-- A latched pusher spoils its pulse stack and tells its lane (R136, R138, R140). -/
theorem latchPusher_eq {l : Lane} {s : State} (own : LanesOwnTheirSlots s) (kind : Latch) :
    latchPusher l kind s = ((s.spoiled l).setPusher l (((s.spoiled l).pusher l).latched kind)).laneFaulted l :=
  faultLane_eq (s := (s.spoiled l).setPusher l (((s.spoiled l).pusher l).latched kind)) (spoiled_own own l) l

theorem latchOutput_settle (p : Output → Bool) {s : State} (own : LanesOwnTheirSlots s) (o : Output) (kind : Latch) :
    latchOutput o kind (s.settle p) = (latchOutput o kind s).settle p := by
  have own' : LanesOwnTheirSlots (s.settle p) := own
  cases o with
  | knife =>
    change latchKnife kind _ = (latchKnife kind s).settle p
    have written := settle_setKnife (s := s) p (f := fun k => { k with drive := .latched, latch := some kind }) fun _ => rfl
    rw [latchKnife_eq, latchKnife_eq, written, settle_afterHalt]
  | gate l =>
    change latchGate l kind _ = (latchGate l kind s).settle p
    have written := settle_setGate (s := s) (l := l) p (f := fun g => { g with hold := none, latch := some kind }) fun _ => rfl
    rw [latchGate_eq own', latchGate_eq own, written, settle_laneFaulted]
  | pusher l =>
    change latchPusher l kind _ = (latchPusher l kind s).settle p
    have written := settle_setPusher (s := s.spoiled l) (l := l) p (f := fun q => q.latched kind) fun _ => rfl
    rw [latchPusher_eq own', latchPusher_eq own, spoiled_settle, written, settle_laneFaulted]

end Sys2Proof.Machine


/-!
PROOFS. The open-load latch and the overload of an output (R170 to R172), and what they tell its owner (R136 to R140).
-/

namespace Sys2Proof.Machine

/-! ## What a latch leaves driven -/

theorem laneFaulted_prof (s : State) (l : Lane) : (s.laneFaulted l).prof = s.prof ∧ (s.laneFaulted l).pins = s.pins := by
  by_cases off : (s.lane l).state = .off ∨ (s.lane l).state = .fault
  · have reports : s.laneFaulted l = raiseEvent .laneFault s := if_pos off
    rw [reports]
    exact ⟨rfl, rfl⟩
  · rw [laneFaulted_eq off]
    cases (s.lane l).ejects <;> exact ⟨rfl, rfl⟩

theorem spoiled_prof (s : State) (l : Lane) : (s.spoiled l).prof = s.prof ∧ (s.spoiled l).pins = s.pins := by
  unfold State.spoiled
  split
  · simp
  · exact ⟨rfl, rfl⟩

theorem driven_gate (s : State) (l : Lane) :
    s.driven (.gate l) = ((s.gate l).hold.isSome && (s.gate l).latch.isNone && s.mode.drivesGates) := rfl

theorem driven_pusher (s : State) (l : Lane) : s.driven (.pusher l) = (s.pusher l).drive.isPulse := rfl

theorem laneFaulted_driven (s : State) (l : Lane) (q : Output) : (s.laneFaulted l).driven q = s.driven q := by
  have act : (s.laneFaulted l).act = s.act := (laneFaulted_setAct s s.act l).2
  have mode : (s.laneFaulted l).mode = s.mode := congrArg ProfileUnit.mode (laneFaulted_prof s l).1
  rw [State.driven, act, mode]
  rfl

/-- The latched output is not driven any more, and no other output becomes driven. -/
theorem latchOutput_driven {s : State} (own : LanesOwnTheirSlots s) {o q : Output} {kind : Latch}
    (driven : (latchOutput o kind s).driven q = true) : q ≠ o ∧ s.driven q = true := by
  cases o with
  | knife =>
    change (latchKnife kind s).driven q = true at driven
    rw [latchKnife_eq] at driven
    cases halted : s.mode.isHalt with
    | false =>
      have still := afterHalt_not_driven (s := s.setKnife { s.act.knife with drive := .latched, latch := some kind })
        .knifeFault halted q
      rw [still] at driven
      cases driven
    | true =>
      have same : (s.setKnife { s.act.knife with drive := .latched, latch := some kind }).afterHalt .knifeFault =
          s.setKnife { s.act.knife with drive := .latched, latch := some kind } := if_pos halted
      rw [same] at driven
      cases q with
      | knife => cases driven
      | gate m | pusher m => exact ⟨nofun, driven⟩
  | gate l =>
    change (latchGate l kind s).driven q = true at driven
    rw [latchGate_eq own, laneFaulted_driven] at driven
    cases q with
    | knife | pusher m => exact ⟨nofun, driven⟩
    | gate m =>
      rw [driven_gate, setGate_gate] at driven
      by_cases here : m = l
      · rw [if_pos here] at driven
        cases driven
      · rw [if_neg here] at driven
        exact ⟨fun same => here (Output.gate.inj same), driven⟩
  | pusher l =>
    change (latchPusher l kind s).driven q = true at driven
    rw [latchPusher_eq own, laneFaulted_driven] at driven
    have act := spoiled_act s l
    have mode : (s.spoiled l).mode = s.mode := congrArg ProfileUnit.mode (spoiled_prof s l).1
    have kept (q : Output) : (s.spoiled l).driven q = s.driven q := by
      rw [State.driven, act, mode]
      rfl
    cases q with
    | knife | gate m => exact ⟨nofun, (kept _).symm.trans driven⟩
    | pusher m =>
      rw [driven_pusher, setPusher_pusher] at driven
      by_cases here : m = l
      · rw [if_pos here] at driven
        cases driven
      · rw [if_neg here] at driven
        exact ⟨fun same => here (Output.pusher.inj same), (kept (.pusher m)).symm.trans driven⟩

/-- A latch leaves the sense lines and the diagnostic enable set. -/
theorem latchOutput_senses (o : Output) (kind : Latch) (s : State) :
    (latchOutput o kind s).pins = s.pins ∧ (latchOutput o kind s).act.enabled = s.act.enabled :=
  ⟨by simp, (latchOutput_internal o kind s).enabled⟩

/-- With no other fault present, a latched output leaves none overloaded. -/
theorem latchOutput_quiet {s : State} (own : LanesOwnTheirSlots s) {o : Output} {kind : Latch}
    (others : ∀ q, q ≠ o → s.faultPresent q = false) (q : Output) : (latchOutput o kind s).overloaded q = false := by
  rw [← Bool.not_eq_true, overloaded_iff]
  rintro ⟨enabled, -, driven, atFault⟩
  obtain ⟨pins, same⟩ := latchOutput_senses o kind s
  obtain ⟨other, -⟩ := latchOutput_driven own driven
  rw [State.enabled, same] at enabled
  rw [State.atFault, pins] at atFault
  have absent := others q other
  have present : s.faultPresent q = true := by
    change (s.act.enabled.has q && s.pins.atFault q) = true
    rw [enabled, atFault]
    rfl
  rw [present] at absent
  cases absent

/-! ## The overload of a driven output (R171, R172) -/

theorem allOutputs_filter (o : Output) {p : Output → Bool} (only : ∀ q, p q = decide (q = o)) :
    allOutputs.filter p = [o] := by
  have nodup : allOutputs.Nodup := by decide
  have same : p = fun q => decide (q = o) := funext only
  rw [same, List.filter_eq, List.count_eq_one_of_mem nodup (mem_allOutputs o)]
  rfl

/-- The one overloaded output latches, and then nothing else does. -/
theorem finishDrive_of_overload {s u : State} {o : Output} (own : LanesOwnTheirSlots u)
    (overloaded : ∀ q, u.overloaded q = decide (q = o)) (kept : ∀ q, u.driven q = s.driven q) :
    finishDrive s u = refreshFilters s (latchOutput o .overload u) := by
  have still (q : Output) : (refreshFilters s u).overloaded q = decide (q = o) :=
    ((refreshFilters_same s u).overloaded q).trans (overloaded q)
  have drawn : allOutputs.filter (fun q => (refreshFilters s u).overloaded q) = [o] := allOutputs_filter o still
  have latches : finishDrive s u = latchOutput o .overload (refreshFilters s u) := by
    have drawnOne : drawOrder outputKey [o] (refreshFilters s u) = ([o], refreshFilters s u) :=
      drawOrder_of_short _ _ _ (by simp)
    rw [finishDrive, drawn, drawnOne]
    exact if_pos ((still o).trans (decide_eq_true rfl))
  have same : (fun q => s.driven q || u.driven q) = fun q => s.driven q || (latchOutput o .overload u).driven q := by
    funext q
    rw [kept, Bool.or_self]
    cases driven : (latchOutput o .overload u).driven q with
    | false => exact (Bool.or_false _).symm
    | true => rw [← kept, (latchOutput_driven own driven).2, Bool.or_true]
  rw [latches, refreshFilters_settle, latchOutput_settle _ own, refreshFilters_settle, same]

/-- The open-load latch of an output, and its overload, as R170 to R172 and the rules of its owner say. -/
theorem latchOutput_pusher_overload {s : State} {l : Lane} (own : LanesOwnTheirSlots s)
    (driven : s.driven (.pusher l) = true) : latchOutput (.pusher l) .overload s =
      ((spoilPulseStack l s).setPusher l
        { s.pusher l with drive := .latched, latch := some .overload, pendingPulse := false }).laneFaulted l := by
  have spoils : s.spoiled l = spoilPulseStack l s := if_pos driven
  have pusher : (spoilPulseStack l s).pusher l = s.pusher l := by
    rw [State.pusher, (spoilPulseStack_setAct l s s.act).2]
    rfl
  refine (latchPusher_eq own .overload).trans ?_
  rw [spoils, pusher]
  rfl

theorem latchOutput_pusher_opened {s : State} {l : Lane} (own : LanesOwnTheirSlots s)
    (idle : s.driven (.pusher l) = false) : latchOutput (.pusher l) .opened s =
      (s.setPusher l { s.pusher l with drive := .latched, latch := some .opened }).laneFaulted l := by
  have same : s.spoiled l = s := if_neg (by rw [show (s.pusher l).drive.isPulse = false from idle]; exact nofun)
  refine (latchPusher_eq own .opened).trans ?_
  rw [same]
  rfl

/-- Settles O41: the latch of the one output at fault, and the filter times of what was driven. -/
theorem faultLatchesStopTheirOutputs : Obligations.FaultLatchesStopTheirOutputs := by
  intro o s own others measured u overloaded
  have sampledMeasured : (s.sampled o && s.filterOf o == .measuring) = true ↔ measured := by
    rw [Bool.and_eq_true, sampled_iff, beq_iff_eq, and_assoc, and_assoc]
  refine ⟨fun not => ?_, fun is => ?_, fun loaded => ?_⟩
  · exact congrArg Host.Outcome.next (if_neg (mt sampledMeasured.mp not))
  · have latches : exec (.openLoadLatch o) s = .next (finishDrive s (latchOutput o .opened s)) :=
      congrArg Host.Outcome.next (if_pos (sampledMeasured.mpr is))
    rw [latches, finishDrive_of_noOverload (latchOutput_quiet own others)]
    refine congrArg (fun t => Host.Outcome.next (refreshFilters s t)) ?_
    obtain ⟨-, -, idle, -⟩ := is
    cases o with
    | knife => exact latchKnife_eq s .opened
    | gate l => exact latchGate_eq own .opened
    | pusher l => exact latchOutput_pusher_opened own idle
  · obtain ⟨enabled, unlatched, driven⟩ := loaded
    have unsampled : s.sampled o = false := by
      rw [State.sampled, driven, Bool.not_true, Bool.and_false]
    have changed : senseChange o true s = u := by
      unfold senseChange
      rw [unsampled]
      rfl
    have row : exec (.senseLineChange o .low) s = .next (finishDrive s u) :=
      congrArg (fun t => Host.Outcome.next (finishDrive s t)) changed
    have overloaded (q : Output) : u.overloaded q = decide (q = o) := by
      by_cases here : q = o
      · subst here
        rw [decide_eq_true rfl, overloaded_iff]
        exact ⟨enabled, unlatched, driven, (setSense_atFault s.pins q q true).trans (if_pos rfl)⟩
      · rw [decide_eq_false here, ← Bool.not_eq_true, overloaded_iff]
        rintro ⟨enabled', -, -, atFault⟩
        have present : s.pins.atFault q = true := by
          rw [← atFault]
          exact ((setSense_atFault s.pins o q true).trans (if_neg here)).symm
        have absent : (s.enabled q && s.pins.atFault q) = false := others q here
        rw [show s.enabled q = true from enabled', present] at absent
        cases absent
    have ownU : LanesOwnTheirSlots u := own
    rw [row, finishDrive_of_overload (s := s) (u := u) ownU overloaded (fun _ => rfl)]
    refine congrArg (fun t => Host.Outcome.next (refreshFilters s t)) ?_
    cases o with
    | knife => exact latchKnife_eq u .overload
    | gate l => exact latchGate_eq ownU .overload
    | pusher l =>
      refine (latchOutput_pusher_overload ownU driven).trans ?_
      refine congrArg (fun t => State.laneFaulted (State.setPusher t l _) l) ?_
      unfold spoilPulseStack flagReadyEjectFault
      rw [show u.lane l = s.lane l from rfl]
      cases (s.lane l).pulseStack with
      | none => rfl
      | some x => rfl

end Sys2Proof.Machine


/-!
PROOFS. LANE_CLEAR: the quarantine record delivered, the latches cleared (R141, R173).
-/

namespace Sys2Proof.Machine

/-- The pusher after the pulse of a clear in RUN, SETUP and a RUN drain (R141, R165). -/
def Pusher.pulsed (p : Pusher) (width : Nat) : Pusher :=
  match p.drive with
  | .free => { p with drive := .pulse width }
  | .pulse _ | .offTime _ => { p with pendingPulse := true }
  | .latched => p

theorem setPusher_self (s : State) (l : Lane) : s.setPusher l (s.pusher l) = s := by
  unfold State.setPusher State.pusher
  simp [State.setAct]

theorem requestPusherPulse_eq (l : Lane) (s : State) :
    requestPusherPulse l s = s.setPusher l ((s.pusher l).pulsed s.profile.pusherPulse) := by
  unfold requestPusherPulse Pusher.pulsed
  cases drive : (s.pusher l).drive with
  | free => rfl
  | pulse n | offTime n =>
    dsimp only
    rw [← drive]
  | latched => exact (setPusher_self s l).symm

theorem clearingPulse_clearLatches (l : Lane) (s : State) :
    clearingPulse l (clearLatches l s) = (s.setGate l (s.gate l).cleared).setPusher l
      (if s.mode.isHalt = true ∨ s.mode.isDryKind = true then (s.pusher l).cleared
        else (s.pusher l).cleared.pulsed s.profile.pusherPulse) := by
  have pusher : (clearLatches l s).pusher l = (s.pusher l).cleared := (setPusher_pusher _ l l _).trans (if_pos rfl)
  by_cases quiet : s.mode.isHalt = true ∨ s.mode.isDryKind = true
  · rw [if_pos quiet]
    exact if_pos ((Bool.or_eq_true _ _).mpr quiet)
  · have pulses : clearingPulse l (clearLatches l s) = requestPusherPulse l (clearLatches l s) :=
      if_neg (mt (Bool.or_eq_true _ _).mp quiet)
    rw [if_neg quiet, pulses, requestPusherPulse_eq, pusher, clearLatches, setPusher_setPusher]
    rfl

theorem fillReadySlot_of_free {s : State} {i : SlotIndex} (free : s.slot i = .free) (r : StackRecord) :
    fillReadySlot i r s = joinReadyList i (s.setSlot i (.held .ready r)) := by
  unfold fillReadySlot
  rw [free]

/-- The clear of a lane whose record finds a free slot, as R141 says. -/
theorem clearLane_eq {s : State} {l : Lane} {q : StackRecord} {i : SlotIndex} (quarantine : (s.lane l).quarantine = some q)
    (free : s.slot i = .free) : clearLane l i s = raiseEvent .recordReady
      ((((s.setGate l (s.gate l).cleared).setPusher l
        (if s.mode.isHalt = true ∨ s.mode.isDryKind = true then (s.pusher l).cleared
          else (s.pusher l).cleared.pulsed s.profile.pusherPulse)).setLog
        { slots := s.log.slots.set i.val (.held .ready (q.delivered s.mode.isHalt))
          ready := s.log.ready ++ [i] }).setLane l { s.lane l with state := .held, quarantine := none }) := by
  have record : s.quarantineOf l = q := by rw [State.quarantineOf, quarantine]; rfl
  rw [clearLane, record, clearingPulse_clearLatches, fillReadySlot_of_free (by exact free)]
  rfl

theorem exec_laneClear {lane : Nat} {s : State} (frames : FramesWhole s) :
    exec (.laneClear .line lane) s = .next (match laneOf lane with
      | none => s.refuse .line .laneClear .range
      | some l => laneClear .line l s) :=
  taken_of_whole _ (frames.link .line) (by decide)

/-- Settles O38: the tests of LANE_CLEAR in order, then the record delivered and the lane HELD. -/
theorem clearedLanesDeliverTheirQuarantine : Obligations.ClearedLanesDeliverTheirQuarantine := by
  intro lane s frames answer
  have answered : answer = _ := exec_laneClear frames
  constructor
  · intro outside
    rw [answered, (laneOf_eq_none lane).mpr outside]
  · intro l number present full
    have named : answer = .next (laneClear .line l s) := by rw [answered, number, laneOf_succ]
    have presence : (s.faultPresent (.gate l) || s.faultPresent (.pusher l)) = true ↔ present := by simp [present]
    have passes (fault : (s.lane l).state = .fault) (absent : ¬present) : laneClear .line l s = match s.freeSlot with
        | none => s.refuse .line .laneClear .full
        | some i => (finishDrive s (clearLane l i s)).reply .line .laneClear .ok (.stackNamed i (s.quarantineOf l).seq) :=
      (if_neg (not_not_intro fault)).trans (if_neg (mt presence.mp absent))
    refine ⟨fun other => ?_, fun fault is => ?_, fun fault absent is => ?_, fun fault clear q quarantine i free lower => ?_⟩
    · exact named.trans (congrArg Host.Outcome.next (if_pos other))
    · exact named.trans (congrArg Host.Outcome.next
        ((if_neg (not_not_intro fault)).trans (if_pos (presence.mpr is))))
    · rw [named, passes fault absent, freeSlot_of_full is]
    · have absent : ¬present := by simp [present, clear _ (mem_allOutputs (.gate l)), clear _ (mem_allOutputs (.pusher l))]
      have record : s.quarantineOf l = q := by rw [State.quarantineOf, quarantine]; rfl
      have pins : (clearLane l i s).pins = s.pins := (clearLane_frame l i s).2.2.2.2.2.1
      rw [named, passes fault absent, freeSlot_of_lowest free lower, record]
      dsimp only
      rw [clear.finishDrive_eq pins (clearLane_internal l i s), clearLane_eq quarantine free]
      rfl

end Sys2Proof.Machine


/-!
PROOFS. RESET_TRACK: what it leaves of the lanes and the log (07 and 08: R145, R153, R159).
-/

namespace Sys2Proof.Machine

/-! ## The log of a lane that is reset -/

/-- What RESET_TRACK makes of a slot (R145). -/
def Slot.afterReset : Slot → Slot
  | .held .forming r => .held .ready r.aborted
  | .held .closed r => .held .ready r.withNotEjected
  | .held .ready r => .held .ready r
  | .free => .free

theorem Slot.afterReset_afterReset (x : Slot) : x.afterReset.afterReset = x.afterReset := by
  cases x with
  | free => rfl
  | held st r => cases st <;> rfl

/-- The slots of a lane in the order in which RESET_TRACK makes them READY: the closed stacks, then the open one. -/
def LaneUnit.stackSlots (u : LaneUnit) : List SlotIndex :=
  u.ejects.map (fun e => e.slot) ++ u.openStack.toList.map (fun o => o.slot)

/-- The log once RESET_TRACK has come to the slots of a list. -/
def StackLog.resetSlots (g : StackLog) (is : List SlotIndex) : StackLog :=
  { slots := Vector.ofFn (fun i => if i ∈ is then g.slots[i].afterReset else g.slots[i]), ready := g.ready ++ is }

theorem StackLog.resetSlots_slot (g : StackLog) (is : List SlotIndex) (i : SlotIndex) :
    (g.resetSlots is).slots[i] = if i ∈ is then g.slots[i].afterReset else g.slots[i] := ofFn_slot _ i

theorem StackLog.resetSlots_nil (g : StackLog) : g.resetSlots [] = g :=
  StackLog.ext_slots (fun i => (g.resetSlots_slot [] i).trans (if_neg List.not_mem_nil)) (List.append_nil _)

theorem StackLog.resetSlots_append (g : StackLog) (is js : List SlotIndex) :
    (g.resetSlots is).resetSlots js = g.resetSlots (is ++ js) := by
  refine StackLog.ext_slots (fun i => ?_) (List.append_assoc _ _ _)
  simp only [StackLog.resetSlots_slot, List.mem_append]
  by_cases first : i ∈ is <;> by_cases second : i ∈ js <;> simp [first, second, Slot.afterReset_afterReset]

/-- The release of closed stacks is their reset (R145). -/
theorem StackLog.release_eq_reset {g : StackLog} {es : List Eject}
    (closed : ∀ e ∈ es, ∃ r, g.slots[e.slot] = .held .closed r) :
    g.release es StackRecord.withNotEjected = g.resetSlots (es.map (fun e => e.slot)) := by
  refine StackLog.ext_slots (fun i => ?_) rfl
  rw [StackLog.release_slot, StackLog.resetSlots_slot]
  by_cases listed : i ∈ es.map (fun e => e.slot)
  · obtain ⟨e, member, rfl⟩ := List.mem_map.mp listed
    obtain ⟨r, held⟩ := closed e member
    rw [if_pos listed, held]
    exact if_pos (List.any_eq_true.mpr ⟨e, member, beq_self_eq_true e.slot⟩)
  · have absent : es.any (fun e => e.slot == i) = false := by
      rw [List.any_eq_false]
      exact fun e member same => listed (List.mem_map.mpr ⟨e, member, eq_of_beq same⟩)
    rw [if_neg listed]
    cases g.slots[i] with
    | free => rfl
    | held st r =>
      cases st with
      | forming | ready => rfl
      | closed => exact if_neg (by rw [absent]; exact nofun)

theorem StackLog.reset_one {g : StackLog} {i : SlotIndex} {r : StackRecord} (held : g.slots[i] = .held .forming r) :
    (⟨g.slots.set i.val (.held .ready r.aborted), g.ready ++ [i]⟩ : StackLog) = g.resetSlots [i] := by
  refine StackLog.ext_slots (fun j => ?_) rfl
  rw [StackLog.resetSlots_slot]
  dsimp only
  rw [slots_set]
  by_cases here : j = i
  · rw [if_pos here, if_pos (by simp [here]), here, held]
    rfl
  · rw [if_neg here, if_neg (by simp [here])]

/-! ## One lane -/

/-- A lane as RESET_TRACK leaves it (R145). -/
def LaneUnit.afterReset (u : LaneUnit) : LaneUnit :=
  { u with ejects := [], openStack := none, state := u.stateAfterReset, gap := 0, rejectEnd := none }

theorem raiseIf_setLane (b : Bool) (e : Event) (s : State) (l : Lane) (u : LaneUnit) :
    (raiseIf b e s).setLane l u = raiseIf b e (s.setLane l u) := by cases b <;> rfl

/-- The stacks of a lane are READY, the closed ones first (R145). -/
theorem abortOpenStack_releaseEjects {l : Lane} {s : State} (own : LanesOwnTheirSlots s) :
    abortOpenStack l (releaseEjects l StackRecord.withNotEjected s) =
      raiseIf (!(s.lane l).stackSlots.isEmpty) .recordReady
        ((s.setLane l { s.lane l with ejects := [], openStack := none }).setLog
          (s.log.resetSlots (s.lane l).stackSlots)) := by
  have closed (e : Eject) (member : e ∈ (s.lane l).ejects) : ∃ r, s.slot e.slot = .held .closed r :=
    (listed_of_owns own member).imp fun r listed => listed.1
  have releases := releaseEjects_eq StackRecord.withNotEjected closed (own l).2.2
  rw [StackLog.release_eq_reset closed] at releases
  have lane (b : Bool) (g : StackLog) : (raiseIf b .recordReady ((s.setLane l { s.lane l with ejects := [] }).setLog g)).lane l =
      { s.lane l with ejects := [] } := by
    cases b <;> exact setLane_lane_same _ _ _
  unfold abortOpenStack
  rw [releases, lane]
  cases opened : (s.lane l).openStack with
  | none =>
    have mine : (s.lane l).stackSlots = (s.lane l).ejects.map (fun e => e.slot) := by
      simp [LaneUnit.stackSlots, opened]
    have bare : { s.lane l with ejects := [], openStack := none } = { s.lane l with ejects := [] } := by rw [← opened]
    dsimp only
    rw [mine, List.isEmpty_map, bare]
  | some o =>
    obtain ⟨r, held, -⟩ := opened_of_owns own opened
    have mine : (s.lane l).stackSlots = (s.lane l).ejects.map (fun e => e.slot) ++ [o.slot] := by
      simp [LaneUnit.stackSlots, opened]
    have apart : o.slot ∉ (s.lane l).ejects.map (fun e => e.slot) := by
      intro listed
      obtain ⟨e, member, same⟩ := List.mem_map.mp listed
      obtain ⟨r', content⟩ := closed e member
      rw [same, held] at content
      cases content
    have still : (s.log.resetSlots ((s.lane l).ejects.map (fun e => e.slot))).slots[o.slot] = .held .forming r := by
      rw [StackLog.resetSlots_slot, if_neg apart]
      exact held
    have made (b : Bool) (t : State) (g : StackLog) (content : g.slots[o.slot] = .held .forming r) :
        makeReady o.slot StackRecord.aborted (raiseIf b .recordReady (t.setLog g)) =
          raiseEvent .recordReady (t.setLog (g.resetSlots [o.slot])) := by
      have slot : (raiseIf b .recordReady (t.setLog g)).slot o.slot = .held .forming r := by
        cases b <;> exact content
      rw [makeReady_of_forming _ slot, State.readied, ← StackLog.reset_one content]
      cases b with
      | false => rfl
      | true => exact raiseEvent_raiseEvent .recordReady (t.setLog _)
    have some : (s.lane l).stackSlots.isEmpty = false := by simp [mine]
    dsimp only
    rw [raiseIf_setLane, setLog_setLane, setLane_setLane, made _ _ _ still, StackLog.resetSlots_append, ← mine, some]
    rfl

theorem resetLane_eq {l : Lane} {s : State} (own : LanesOwnTheirSlots s) :
    resetLane l s = raiseIf (!(s.lane l).stackSlots.isEmpty) .recordReady
      ((s.setLane l (s.lane l).afterReset).setLog (s.log.resetSlots (s.lane l).stackSlots)) := by
  have lane (b : Bool) (g : StackLog) :
      (raiseIf b .recordReady ((s.setLane l { s.lane l with ejects := [], openStack := none }).setLog g)).lane l =
        { s.lane l with ejects := [], openStack := none } := by
    cases b <;> exact setLane_lane_same _ _ _
  unfold resetLane
  rw [abortOpenStack_releaseEjects own]
  dsimp only
  rw [lane, raiseIf_setLane, setLog_setLane, setLane_setLane]
  rfl

theorem resetLane_lane {l : Lane} {s : State} (own : LanesOwnTheirSlots s) (m : Lane) :
    (resetLane l s).lane m = if m = l then (s.lane l).afterReset else s.lane m := by
  have lanes : (resetLane l s).lanes = (s.setLane l (s.lane l).afterReset).lanes := by rw [resetLane_eq own]; simp
  rw [State.lane, lanes]
  exact setLane_lane s l m _

theorem resetLane_slot {l : Lane} {s : State} (own : LanesOwnTheirSlots s) (i : SlotIndex) :
    (resetLane l s).slot i = if i ∈ (s.lane l).stackSlots then (s.slot i).afterReset else s.slot i := by
  have log : (resetLane l s).log = s.log.resetSlots (s.lane l).stackSlots := by rw [resetLane_eq own]; simp
  rw [State.slot, log, StackLog.resetSlots_slot]
  rfl

/-- The slots of a lane are not those of another. -/
theorem stackSlots_apart {l m : Lane} {s : State} (own : LanesOwnTheirSlots s) (other : m ≠ l) {i : SlotIndex}
    {r : StackRecord} (held : r ∈ (s.slot i).record?) (lane : r.lane = m) : i ∉ (s.lane l).stackSlots := by
  intro member
  have mine : r.lane = l := by
    rcases List.mem_append.mp member with listed | opened
    · obtain ⟨e, among, rfl⟩ := List.mem_map.mp listed
      obtain ⟨r', content, -, lane', -⟩ := (own l).2.1 e among
      cases held.symm.trans content
      exact lane'
    · obtain ⟨o, stands, rfl⟩ := List.mem_map.mp opened
      obtain ⟨r', content, -, lane'⟩ := (own l).1 o (Option.mem_toList.mp stands)
      cases held.symm.trans content
      exact lane'
  exact other (lane.symm.trans mine)

theorem resetLane_owns {l : Lane} {s : State} (own : LanesOwnTheirSlots s) : LanesOwnTheirSlots (resetLane l s) := by
  intro m
  rw [resetLane_lane own]
  by_cases here : m = l
  · rw [if_pos here]
    exact ⟨nofun, nofun, List.nodup_nil⟩
  · rw [if_neg here]
    obtain ⟨opened, listed, once⟩ := own m
    refine ⟨fun o member => ?_, fun e member => ?_, once⟩
    · obtain ⟨r, content, forming, lane⟩ := opened o member
      rw [resetLane_slot own, if_neg (stackSlots_apart own here content lane)]
      exact ⟨r, content, forming, lane⟩
    · obtain ⟨r, content, closed, lane, seq⟩ := listed e member
      rw [resetLane_slot own, if_neg (stackSlots_apart own here content lane)]
      exact ⟨r, content, closed, lane, seq⟩

/-! ## The lanes in order (R145, R153) -/

theorem raiseEvent_links {s t : State} (e : Event) (same : s.links = t.links) :
    (raiseEvent e s).links = (raiseEvent e t).links := by
  unfold raiseEvent
  rw [same]
  rfl

theorem raiseIf_raiseIf_links (b c : Bool) (e : Event) {s t : State} (same : t.links = (raiseIf b e s).links) :
    (raiseIf c e t).links = (raiseIf (b || c) e s).links := by
  cases c with
  | false => rw [Bool.or_false]; exact same
  | true =>
    rw [Bool.or_true]
    refine (raiseEvent_links e same).trans ?_
    cases b with
    | false => rfl
    | true => exact congrArg State.links (raiseEvent_raiseEvent e s)

/-- RESET_TRACK on the lanes of a list, in its order. -/
theorem resetLanes_log {ls : List Lane} (nodup : ls.Nodup) {s : State} (own : LanesOwnTheirSlots s) :
    (ls.foldl (fun s l => resetLane l s) s).log = s.log.resetSlots (ls.flatMap fun l => (s.lane l).stackSlots) ∧
    (ls.foldl (fun s l => resetLane l s) s).links =
      (raiseIf (!(ls.flatMap fun l => (s.lane l).stackSlots).isEmpty) .recordReady s).links ∧
    ∀ m, (ls.foldl (fun s l => resetLane l s) s).lane m = if m ∈ ls then (s.lane m).afterReset else s.lane m := by
  induction ls generalizing s with
  | nil => exact ⟨(StackLog.resetSlots_nil _).symm, rfl, fun m => (if_neg List.not_mem_nil).symm⟩
  | cons l ls ih =>
    obtain ⟨fresh, nodup⟩ := List.nodup_cons.mp nodup
    obtain ⟨log, links, lanes⟩ := ih nodup (resetLane_owns (l := l) own)
    have same : (ls.flatMap fun m => ((resetLane l s).lane m).stackSlots) = ls.flatMap fun m => (s.lane m).stackSlots := by
      refine List.flatMap_congr fun m member => ?_
      rw [resetLane_lane own, if_neg (ne_of_mem_of_not_mem member fresh)]
    have first := resetLane_eq (l := l) own
    have log' : (resetLane l s).log = s.log.resetSlots (s.lane l).stackSlots := by rw [first]; simp
    have links' : (resetLane l s).links = (raiseIf (!(s.lane l).stackSlots.isEmpty) .recordReady s).links := by
      rw [first]
      cases (s.lane l).stackSlots.isEmpty <;> rfl
    rw [same] at log links
    rw [List.foldl_cons, List.flatMap_cons]
    refine ⟨?_, ?_, fun m => ?_⟩
    · rw [log, log', StackLog.resetSlots_append]
    · rw [links, raiseIf_raiseIf_links _ _ _ links']
      cases (s.lane l).stackSlots <;> rfl
    · rw [lanes, resetLane_lane own]
      by_cases here : m = l
      · subst here
        rw [if_neg fresh, if_pos rfl, if_pos List.mem_cons_self]
      · simp [here]

end Sys2Proof.Machine


/-!
PROOFS. RESET_TRACK, block by block (R88, R145, R168, R173, R189).
-/

namespace Sys2Proof.Machine

/-- The state of RESET_TRACK with every lane reset. -/
def resetLanes (s : State) : State := allLanes.foldl (fun s l => resetLane l s) (resetMap s)

theorem resetLanes_frame (s : State) : (resetLanes s).pos = s.pos ∧ (resetLanes s).reg = s.reg ∧ (resetLanes s).cut = s.cut ∧
    (resetLanes s).map = TransitMap.reset ∧ (resetLanes s).act = s.act ∧ (resetLanes s).prof = s.prof ∧
    (resetLanes s).pins = s.pins ∧ (resetLanes s).cnt = (resetMap s).cnt := by
  have kept {α : Type} (g : State → α) (same : ∀ s l, g (resetLane l s) = g s) : g (resetLanes s) = g (resetMap s) :=
    foldl_keep g (fun s l => resetLane l s) same allLanes _
  refine ⟨kept State.pos ?_, kept State.reg ?_, kept State.cut ?_, kept State.map ?_, kept State.act ?_, kept State.prof ?_,
    kept State.pins ?_, kept State.cnt ?_⟩
  all_goals simp

theorem resetTrack_eq (s : State) :
    resetTrack s = (removeHolds (clearKnifeLatch (emptyRange (resetLanes s)))).afterSetup :=
  enterSetup_eq _

/-- With no fault present the knife's latch goes (R173, R189). -/
theorem clearKnifeLatch_eq {s : State} (absent : s.faultPresent .knife = false) : clearKnifeLatch s =
    s.setKnife (if s.act.knife.latch ≠ none then { drive := .free, latch := none, filter := .settling } else s.act.knife) := by
  cases latch : s.act.knife.latch with
  | none =>
    have keeps : clearKnifeLatch s = s := if_neg (by simp [State.knifeLatched, latch])
    rw [keeps, if_neg (not_not_intro rfl)]
    rfl
  | some kind =>
    have clears : clearKnifeLatch s = s.setKnife { drive := .free, latch := none, filter := .settling } :=
      if_pos (by simp [State.knifeLatched, latch, absent])
    rw [clears, if_pos nofun]

/-- The actuators as RESET_TRACK leaves them, before the filter times. -/
def Actuators.trackReset (a : Actuators) : Actuators :=
  { a with
    knife := if a.knife.latch ≠ none then { drive := .free, latch := none, filter := .settling } else a.knife
    gates := a.gates.map (fun g => { g with hold := none }) }

theorem removeHolds_eq (s : State) : removeHolds s =
    s.setAct { s.act with gates := s.act.gates.map (fun g => { g with hold := none }) } := by
  rw [← removeHolds_act]
  rfl

theorem cleared_eq {s t : State} (clear : SensesClear s) (act : t.act = s.act) (pins : t.pins = s.pins) :
    removeHolds (clearKnifeLatch (emptyRange t)) = (emptyRange t).setAct s.act.trackReset := by
  have act' : (emptyRange t).act = s.act := act
  have absent : (emptyRange t).faultPresent .knife = false :=
    clear.of_senses (t := emptyRange t) pins (congrArg Actuators.enabled act) .knife (mem_allOutputs .knife)
  rw [clearKnifeLatch_eq absent, act', removeHolds_eq]
  have knife (k : Knife) : ((emptyRange t).setKnife k).act = { s.act with knife := k } := by
    rw [← act']
    rfl
  rw [knife]
  rfl

/-- RESET_TRACK, the lanes and the log apart, before the filter times. -/
theorem resetTrack_blocks {s : State} (clear : SensesClear s) :
    (resetTrack s).pos = s.levelled ∧ (resetTrack s).reg = s.idleReg ∧
    (resetTrack s).cut = { s.emptiedCut with range := ⟨0, 0, 0⟩ } ∧ (resetTrack s).map = TransitMap.reset ∧
    (resetTrack s).cnt = (resetMap s).cnt ∧ (resetTrack s).prof = { s.prof with mode := .setup } ∧
    (resetTrack s).pins = s.pins ∧ (resetTrack s).lanes = (resetLanes s).lanes ∧
    (resetTrack s).log = (resetLanes s).log ∧ (resetTrack s).links = (resetLanes s).links := by
  obtain ⟨pos, reg, cut, map, act, prof, pins, cnt⟩ := resetLanes_frame s
  rw [resetTrack_eq, cleared_eq clear act pins]
  generalize resetLanes s = t at *
  refine ⟨?_, ?_, ?_, map, cnt, ?_, pins, rfl, rfl, rfl⟩
  · change t.levelled = s.levelled
    rw [State.levelled, State.web, State.belt, pos]
    rfl
  · change t.idleReg = s.idleReg
    rw [State.idleReg, reg]
    rfl
  · change (emptyRange t).emptiedCut = _
    unfold State.emptiedCut emptyRange
    rw [cut]
    rfl
  · change { t.prof with mode := Mode.setup } = _
    rw [prof]

/-- The filter times restarted and the knife's drive state stopped: all that SETUP and the end of the row add (R164). -/
theorem resetTrack_act {s : State} (clear : SensesClear s) : ∃ p q drive,
    (refreshFilters s (resetTrack s)).act = Actuators.settle q { Actuators.settle p s.act.trackReset with
      knife := { (Actuators.settle p s.act.trackReset).knife with drive := drive } } ∧
    (s.act.knife.latch ≠ none → drive = .free) := by
  obtain ⟨-, -, -, -, act, -, pins, -⟩ := resetLanes_frame s
  have entered := resetTrack_eq s
  rw [cleared_eq clear act pins] at entered
  generalize resetLanes s = t at *
  rw [refreshFilters_settle, entered]
  generalize made : (emptyRange t).setAct s.act.trackReset = u
  have settled : (refreshFilters u u).act = Actuators.settle (fun o => u.driven o || u.driven o) s.act.trackReset := by
    rw [refreshFilters_settle, ← made]
    rfl
  refine ⟨fun o => u.driven o || u.driven o, fun o => s.driven o || u.afterSetup.driven o, u.knifeStopped, ?_, fun latched => ?_⟩
  · have after : u.afterSetup.act =
        { (refreshFilters u u).act with knife := { (refreshFilters u u).act.knife with drive := u.knifeStopped } } := rfl
    rw [State.settle, setAct_act, after, settled]
  · have knife : u.act.knife = { drive := .free, latch := none, filter := .settling } := by
      rw [← made]
      exact if_pos latched
    rw [State.knifeStopped, knife]

theorem trackReset_outputs (s : State) (p q : Output → Bool) (drive : Drive) (l : Lane) :
    let a := Actuators.settle q { Actuators.settle p s.act.trackReset with
      knife := { (Actuators.settle p s.act.trackReset).knife with drive := drive } }
    (a.gates[l]).hold = none ∧ (a.gates[l]).latch = (s.gate l).latch ∧
    (a.pushers[l]).drive = (s.pusher l).drive ∧ (a.pushers[l]).latch = (s.pusher l).latch := by
  intro a
  have gate : s.act.trackReset.gates[l] = { s.gate l with hold := none } := by
    simp [Actuators.trackReset, State.gate]
  have gates : a.gates[l] = _ := settle_gate q _ l
  have pushers : a.pushers[l] = _ := settle_pusher q _ l
  rw [gates, pushers]
  dsimp only
  rw [settle_gate, settle_pusher, gate]
  have pusher : s.act.trackReset.pushers[l] = s.pusher l := rfl
  rw [pusher]
  refine ⟨?_, ?_, ?_, ?_⟩ <;> (split <;> split <;> rfl)

theorem settle_latch_of_trackReset (s : State) (p q : Output → Bool) (drive : Drive) :
    (Actuators.settle q { Actuators.settle p s.act.trackReset with
      knife := { (Actuators.settle p s.act.trackReset).knife with drive := drive } }).knife.latch.isSome = false := by
  have latch : s.act.trackReset.knife.latch = none := by
    unfold Actuators.trackReset
    dsimp only
    split
    · rfl
    · next unlatched => exact Decidable.not_not.mp unlatched
  rw [settle_knife]
  have kept (k : Knife) (b : Bool) : (if b then { k with filter := Filter.settling } else k).latch = k.latch := by
    cases b <;> rfl
  rw [kept]
  dsimp only
  rw [settle_knife, kept, latch]
  rfl

theorem settle_knife_of_trackReset {s : State} (p q : Output → Bool) (latched : s.act.knife.latch ≠ none) :
    (Actuators.settle q { Actuators.settle p s.act.trackReset with
      knife := { (Actuators.settle p s.act.trackReset).knife with drive := .free } }).knife =
      { drive := .free, latch := none, filter := .settling } := by
  have knife : s.act.trackReset.knife = { drive := .free, latch := none, filter := .settling } := if_pos latched
  rw [settle_knife]
  dsimp only
  rw [settle_knife, knife]
  cases p .knife <;> cases q .knife <;> rfl

theorem stateAfterReset_eq (u : LaneUnit) : u.stateAfterReset = match u.state with
    | .off => .off
    | .held => .held
    | .fault => .fault
    | .idle | .blocked | .stacking | .changing => if u.orders = [] then .idle else .blocked := by
  have idle : u.idleState = if u.orders = [] then .idle else .blocked := by
    unfold LaneUnit.idleState
    simp only [List.isEmpty_iff]
  unfold LaneUnit.stateAfterReset
  rw [idle] <;> cases u.state <;> rfl

/-- Every slot that may change is a lane's (R153): at the end of RESET_TRACK each has been come to. -/
theorem resetSlots_all {s : State} (owned : SlotsHaveOwners s) (i : SlotIndex) :
    (s.log.resetSlots (allLanes.flatMap fun l => (s.lane l).stackSlots)).slots[i] = (s.slot i).afterReset := by
  rw [StackLog.resetSlots_slot]
  by_cases listed : i ∈ allLanes.flatMap fun l => (s.lane l).stackSlots
  · exact if_pos listed
  · rw [if_neg listed]
    have unowned (l : Lane) : i ∉ (s.lane l).stackSlots := fun mine =>
      listed (List.mem_flatMap.mpr ⟨l, mem_allLanes l, mine⟩)
    change s.slot i = _
    cases content : s.slot i with
    | free => rfl
    | held st r =>
      obtain ⟨opened, listed⟩ := owned i r (by rw [content]; rfl)
      rw [content] at opened listed
      cases st with
      | ready => rfl
      | forming =>
        obtain ⟨o, stands, at'⟩ := opened rfl
        exact absurd (List.mem_append_right _ (List.mem_map.mpr ⟨o, Option.mem_toList.mpr stands, at'⟩)) (unowned r.lane)
      | closed => exact absurd (List.mem_append_left _ (listed rfl)) (unowned r.lane)

theorem raiseIf_recordReady_link (b : Bool) (s : State) (k : StationLink) :
    ((raiseIf b .recordReady s).link k).mask = (s.link k).mask ∧
    ((raiseIf b .recordReady s).link k).flags =
      (s.link k).flags ||| (if k = .delivery ∧ b = true then 0x200000#32 else 0) := by
  cases b <;> cases k <;> simp [raiseIf, raiseEvent, State.link, State.setLinks, LinkUnit.withFlag, Event.carriedBy,
    Event.bit, Event.number]

theorem reply_maskFlags (s : State) (k : StationLink) (q : Request) (res : Result) (p : Payload) (j : StationLink) :
    ((s.reply k q res p).link j).mask = (s.link j).mask ∧ ((s.reply k q res p).link j).flags = (s.link j).flags := by
  cases k <;> cases j <;> exact ⟨rfl, rfl⟩

theorem exec_resetTrack {s : State} (frames : FramesWhole s) :
    exec (.resetTrack .line) s = .next (answerResetTrack .line s) :=
  taken_of_whole _ (frames.link .line) (by decide)

/-- Settles O46: the two refusals, then block by block what RESET_TRACK leaves. -/
theorem resetTrackEmptiesTheTrack : Obligations.ResetTrackEmptiesTheTrack := by
  intro s frames
  have answered := exec_resetTrack frames
  refine ⟨fun tracks => ?_, fun idle stop => ?_, fun idle stop clear own owned => ?_⟩
  · exact answered.trans (congrArg Host.Outcome.next (if_pos tracks))
  · exact answered.trans (congrArg Host.Outcome.next
      ((if_neg (by rw [idle]; exact nofun)).trans (if_pos stop)))
  · obtain ⟨pos, reg, cut, map, cnt, prof, pins, lanes, log, links⟩ := resetTrack_blocks clear
    obtain ⟨p, q, drive, act, freed⟩ := resetTrack_act clear
    have outputs := trackReset_outputs s p q drive
    have resetOwn : LanesOwnTheirSlots (resetMap s) := own
    obtain ⟨log', links', lanes'⟩ := resetLanes_log allLanes_nodup resetOwn
    obtain ⟨kept, -⟩ := resetTrack_kept s
    have quiet := finishDrive_of_noOverload (before := s)
      (clear.of_senses (t := resetTrack s) pins kept.enabled).not_overloaded
    have unlatched : (refreshFilters s (resetTrack s)).knifeLatched = false := by
      rw [State.knifeLatched, act]
      exact settle_latch_of_trackReset s p q drive
    have done : answerResetTrack .line s = (refreshFilters s (resetTrack s)).reply .line .resetTrack .ok
        (.trackReset s.undecidedLabels ((refreshFilters s (resetTrack s)).log.ready.length - s.log.ready.length) false) := by
      rw [← unlatched, ← quiet]
      exact (if_neg (by rw [idle]; exact nofun)).trans (if_neg (by rw [stop]; exact nofun))
    have lane (l : Lane) : (resetLanes s).lane l = (s.lane l).afterReset :=
      (lanes' l).trans (if_pos (mem_allLanes l))
    have ready : (resetLanes s).log.ready = s.log.ready ++ allLanes.flatMap fun l => (s.lane l).stackSlots :=
      congrArg StackLog.ready log'
    have slot (i : SlotIndex) : (resetLanes s).slot i = (s.slot i).afterReset :=
      (congrArg (fun g : StackLog => g.slots[i]) log').trans (resetSlots_all owned i)
    generalize filtered : refreshFilters s (resetTrack s) = u at done act
    have frame := refreshFilters_frame s (resetTrack s)
    rw [filtered] at frame
    obtain ⟨uPos, uReg, uCut, uMap, uLanes, uLog, uProf, uPins, uCnt, uLinks, -⟩ := frame
    rw [lanes] at uLanes
    rw [log] at uLog
    rw [links] at uLinks
    refine ⟨_, answered.trans (congrArg Host.Outcome.next done), ?_⟩
    obtain ⟨tPos, tReg, tCut, tMap, tLanes, tLog, tAct, tProf, tPins, tCnt, -⟩ := reply_frame u .line .resetTrack .ok
      (.trackReset s.undecidedLabels (u.log.ready.length - s.log.ready.length) false)
    have grows : (!(allLanes.flatMap fun l => (s.lane l).stackSlots).isEmpty) = true ↔ u.log.ready ≠ s.log.ready := by
      rw [uLog, ready, Bool.not_eq_true', List.isEmpty_eq_false_iff, ne_eq, ne_eq, List.append_right_eq_self]
    refine ⟨?_, ?_, ?_, ?_, ?_, ?_, ?_, ?_, ?_, ?_, ?_, ?_, ?_, ?_, ?_, ?_, ?_⟩
    · rw [State.mode, tProf, uProf, prof]
    · exact tProf.trans (uProf.trans prof)
    · exact tPos.trans (uPos.trans pos)
    · exact tReg.trans (uReg.trans reg)
    · exact tCut.trans (uCut.trans cut)
    · exact tMap.trans (uMap.trans map)
    · exact tCnt.trans (uCnt.trans cnt)
    · intro l
      have same : (u.reply .line .resetTrack .ok
          (.trackReset s.undecidedLabels (u.log.ready.length - s.log.ready.length) false)).lane l = (s.lane l).afterReset := by
        rw [State.lane, tLanes, uLanes]
        exact lane l
      rw [same, LaneUnit.afterReset, stateAfterReset_eq] <;> rfl
    · intro i
      rw [State.slot, tLog, uLog]
      refine (slot i).trans ?_
      cases s.slot i with
      | free => rfl
      | held st r => cases st <;> rfl
    · rw [tLog, uLog, ready]
      rfl
    · intro l
      rw [State.gate, State.pusher, tAct, act]
      exact outputs l
    · intro latched
      rw [tAct, act, freed latched]
      exact settle_knife_of_trackReset p q latched
    · rw [tAct, act]
      rfl
    · rw [tAct, act]
      rfl
    · exact tPins.trans (uPins.trans pins)
    · rw [reply_slot, tLog]
      rfl
    · intro k
      obtain ⟨mask, flags⟩ := reply_maskFlags u .line .resetTrack .ok
        (.trackReset s.undecidedLabels (u.log.ready.length - s.log.ready.length) false) k
      have link : u.link k = (raiseIf (!(allLanes.flatMap fun l => (s.lane l).stackSlots).isEmpty) .recordReady
          (resetMap s)).link k := by
        have same := uLinks.trans links'
        cases k with
        | line => exact congrArg Links.line same
        | inspection => exact congrArg Links.inspection same
        | delivery => exact congrArg Links.delivery same
      obtain ⟨mask', flags'⟩ := raiseIf_recordReady_link
        (!(allLanes.flatMap fun l => (s.lane l).stackSlots).isEmpty) (resetMap s) k
      rw [mask, flags, tLog, link, mask', flags']
      exact ⟨rfl, congrArg _ (if_congr (and_congr_right fun _ => grows) rfl rfl)⟩

end Sys2Proof.Machine


/-!
PROOFS. Lanes that leave and join the active lane mask (R142, R143): each lane's part stands beside those of the others.
-/

namespace Sys2Proof.Machine

/-! ## What the change of one lane leaves of another -/

section
variable {l m : Lane} {i : SlotIndex} {s t u : State}

theorem releaseEjects_spares (m : Lane) (i : SlotIndex) (f : StackRecord → StackRecord) (s : State) :
    Spares m i s (releaseEjects m f s) := by
  generalize listed : (s.lane m).ejects = es
  induction es generalizing s with
  | nil =>
    rw [releaseEjects_nil f listed]
    exact setLane_spares fun avoids => ⟨avoids.1, nofun⟩
  | cons e rest ih =>
    rw [releaseEjects_cons f listed]
    refine .trans (fun avoids _ => ?_) (ih _ (by rw [makeReady_lane, setLane_lane_same]))
    have kept := avoids.2
    rw [listed, List.forall_mem_cons] at kept
    refine ⟨(makeReady_slot_other (Ne.symm kept.1) _ _).trans (setLane_slot _ _ _ _), ?_⟩
    rw [makeReady_lane, setLane_lane_same]
    exact ⟨avoids.1, kept.2⟩

theorem leaveMask_spares (m : Lane) (i : SlotIndex) (s : State) : Spares m i s (leaveMask m s) := by
  unfold leaveMask
  split
  · exact (shortClose_spares m i _ s).trans (setLaneState_spares m i _ _)
  all_goals exact setLane_spares id

theorem joinMask_spares (m : Lane) (i : SlotIndex) (s : State) : Spares m i s (joinMask m s) := by
  unfold joinMask
  split
  · refine .trans ?_ ((releaseEjects_spares m i _ _).trans (setLaneState_spares m i _ _))
    split
    · exact .refl m i s
    · exact setLane_spares id
  · exact setLaneState_spares m i s _

theorem changeMask_spares (old new : LaneSet) (m : Lane) (i : SlotIndex) (s : State) :
    Spares m i s (changeMask old new m s) := by
  unfold changeMask
  split
  · exact leaveMask_spares m i s
  · exact joinMask_spares m i s
  all_goals exact .refl m i s

/-- A stack closed short may start the pusher of its own lane, and of no other. -/
theorem shortClose_pusher (other : m ≠ l) (kind : ClosingKind) (s : State) :
    (shortClose m kind s).pusher l = s.pusher l := by
  cases forming : s.formingStack m with
  | some stack =>
    obtain ⟨o, q⟩ := stack
    rw [shortClose_eq kind forming]
    have pulsed (v : State) : (v.pulsedFor m o.slot q.seq).pusher l = v.pusher l :=
      (setPusher_pusher v m l _).trans (if_neg (Ne.symm other))
    unfold State.shortEnded
    dsimp only
    split
    · unfold State.shortClosed
      dsimp only
      split <;> rfl
    · split
      · rfl
      · split
        · exact pulsed _
        all_goals rfl
  | none =>
    unfold shortClose
    split
    · rfl
    · next o opened =>
      have record : s.formingRecord o = none := by
        rw [State.formingStack, opened] at forming
        exact Option.map_eq_none_iff.mp forming
      rw [record]
      rfl

theorem changeMask_pusher (old new : LaneSet) (other : m ≠ l) (s : State) :
    (changeMask old new m s).pusher l = s.pusher l := by
  have leaves : (leaveMask m s).pusher l = s.pusher l := by
    unfold leaveMask
    split
    · exact shortClose_pusher other _ s
    all_goals rfl
  have joins : (joinMask m s).act = s.act := by
    unfold joinMask
    split
    · have started : (if (s.lane m).quarantine.isSome then s else startEmptyQuarantine m s).act = s.act := by split <;> rfl
      refine Eq.trans ?_ started
      exact (releaseEjects_frame m _ _).2.2.2.2.1
    · rfl
  unfold changeMask
  split
  · exact leaves
  · rw [State.pusher, joins]
    rfl
  all_goals rfl

/-- Work that leaves a lane, its slots, its pusher and its latches, and the profiles and positions. -/
structure Beside (l : Lane) (s t : State) : Prop extends LeavesLane l s t where
  prof : t.prof = s.prof
  pos : t.pos = s.pos
  pusher : t.pusher l = s.pusher l
  latched : t.laneLatched l = s.laneLatched l

theorem Beside.refl (l : Lane) (s : State) : Beside l s s := ⟨.refl l s, rfl, rfl, rfl, rfl⟩

theorem Beside.trans (st : Beside l s t) (tu : Beside l t u) : Beside l s u :=
  ⟨st.toLeavesLane.trans tu.toLeavesLane, tu.prof.trans st.prof, tu.pos.trans st.pos, tu.pusher.trans st.pusher,
    tu.latched.trans st.latched⟩

theorem Beside.of_frame (lanes : t.lanes = s.lanes) (log : t.log = s.log) (act : t.act = s.act) (prof : t.prof = s.prof)
    (pos : t.pos = s.pos) : Beside l s t :=
  ⟨.of_frame l lanes log, prof, pos, by rw [State.pusher, act]; rfl, laneLatched_of_act act l⟩

theorem changeMask_beside (old new : LaneSet) (other : m ≠ l) (s : State) : Beside l s (changeMask old new m s) := by
  obtain ⟨move, -⟩ := changeMask_remasked old new m s
  exact ⟨.of_spares other move.others fun i => changeMask_spares old new m i s, move.prof,
    (changeMask_frame old new m s).1, changeMask_pusher old new other s, move.latched l⟩

theorem changeMask_foldl_beside (old new : LaneSet) {ls : List Lane} (outside : l ∉ ls) (s : State) :
    Beside l s (ls.foldl (fun s m => changeMask old new m s) s) := by
  induction ls generalizing s with
  | nil => exact .refl l s
  | cons m ls ih =>
    rw [List.mem_cons, not_or] at outside
    exact (changeMask_beside old new (Ne.symm outside.1) s).trans (ih outside.2 _)

/-- In a list of changes, a lane's own stands between work beside it. -/
theorem changeMask_foldl_at (old new : LaneSet) {ls : List Lane} (nodup : ls.Nodup) (member : l ∈ ls) (s : State) :
    ∃ a, Beside l s a ∧ Beside l (changeMask old new l a) (ls.foldl (fun s m => changeMask old new m s) s) := by
  obtain ⟨before, after, rfl⟩ := List.append_of_mem member
  rw [List.nodup_append, List.nodup_cons] at nodup
  obtain ⟨-, ⟨fresh, -⟩, apart⟩ := nodup
  refine ⟨_, changeMask_foldl_beside old new (fun early => apart l early l List.mem_cons_self rfl) s, ?_⟩
  rw [List.foldl_append, List.foldl_cons]
  exact changeMask_foldl_beside old new fresh _

/-- A change of the mask does each lane's part between work beside it. -/
theorem changeMasks_at (old new : LaneSet) (l : Lane) (s : State) :
    ∃ a, Beside l s a ∧ Beside l (changeMask old new l a) (changeMasks old new s) := by
  have drawn (t : State) : Beside l t (drawOrder (fun l : Lane => l.val)
      (allLanes.filter (fun l => s.contends old new l)) t).2 := by
    obtain ⟨pos, -, -, -, lanes, log, act, prof, -⟩ := drawOrder_frame (fun l : Lane => l.val)
      (allLanes.filter (fun l => s.contends old new l)) t
    exact .of_frame lanes log act prof pos
  have perm (t : State) := drawOrder_perm (fun l : Lane => l.val) (allLanes.filter (fun l => s.contends old new l)) t
  unfold changeMasks
  dsimp only
  cases contends : s.contends old new l with
  | false =>
    obtain ⟨a, before, after⟩ := changeMask_foldl_at (l := l) old new
      (allLanes_nodup.filter (fun l => !s.contends old new l)) (by simp [mem_allLanes, contends]) s
    refine ⟨a, before, (after.trans (drawn _)).trans (changeMask_foldl_beside old new ?_ _)⟩
    rw [(perm _).mem_iff]
    simp [contends]
  | true =>
    have early := (changeMask_foldl_beside (l := l) old new
      (ls := allLanes.filter (fun l => !s.contends old new l)) (by simp [contends]) s).trans (drawn _)
    obtain ⟨a, before, after⟩ := changeMask_foldl_at (l := l) old new
      ((perm _).nodup_iff.mpr (allLanes_nodup.filter _)) ((perm _).mem_iff.mpr (by simp [mem_allLanes, contends])) _
    exact ⟨a, early.trans before, after⟩

end

end Sys2Proof.Machine


/-!
PROOFS. What a commit makes of a lane that leaves or joins the mask (R142, R143), whichever row applies it (R183).
-/

namespace Sys2Proof.Machine

section
variable {l : Lane} {s t u : State}

/-! ## The lane's own part (R142, R143) -/

theorem leaveMask_of_bare (bare : (s.lane l).state ≠ .stacking) :
    leaveMask l s = s.setLane l { s.lane l with state := .off, gap := 0 } := by
  unfold leaveMask
  cases state : (s.lane l).state with
  | stacking => exact absurd state bare
  | off | idle | held | blocked | changing | fault => rfl

theorem leaveMask_of_stacking {o : OpenStack} {q : StackRecord} (state : (s.lane l).state = .stacking)
    (forming : s.formingStack l = some (o, q)) :
    leaveMask l s = (s.shortEnded l o q .shortLaneRemoved).setLaneState l .off := by
  unfold leaveMask
  rw [state, shortClose_eq _ forming]

theorem joinMask_of_unlatched (unlatched : s.laneLatched l = false) :
    joinMask l s = s.setLaneState l (s.lane l).idleState :=
  if_neg (by rw [unlatched]; exact nofun)

theorem setLane_self (s : State) (l : Lane) : s.setLane l (s.lane l) = s := by
  unfold State.setLane State.lane
  simp [State.setLanes]

/-- The lane with its quarantine record, whether it stood or starts now (R143). -/
def LaneUnit.quarantining (u : LaneUnit) (l : Lane) (dry : Bool) : LaneUnit :=
  { u with
    quarantine := some (u.quarantine.getD (emptyQuarantine l u.nextSeq dry))
    nextSeq := if u.quarantine.isSome then u.nextSeq else u.nextSeq + 1 }

theorem startQuarantine_eq (l : Lane) (s : State) :
    (if (s.lane l).quarantine.isSome then s else startEmptyQuarantine l s) =
      s.setLane l ((s.lane l).quarantining l s.mode.isDryKind) := by
  cases quarantine : (s.lane l).quarantine with
  | none =>
    unfold LaneUnit.quarantining
    rw [quarantine]
    rfl
  | some q =>
    have same : (s.lane l).quarantining l s.mode.isDryKind = s.lane l := by
      unfold LaneUnit.quarantining
      rw [quarantine]
      exact congrArg _ quarantine.symm
    rw [same, setLane_self]
    rfl

/-- A lane that joins with a latch: FAULT, with its quarantine record, its closed stacks READY flagged EJECT_FAULT. -/
theorem joinMask_of_latched (latched : s.laneLatched l = true)
    (closed : ∀ e ∈ (s.lane l).ejects, ∃ r, s.slot e.slot = .held .closed r)
    (once : ((s.lane l).ejects.map (fun e => e.slot)).Nodup) :
    joinMask l s = raiseIf (!(s.lane l).ejects.isEmpty) .recordReady
      ((s.setLane l { (s.lane l).quarantining l s.mode.isDryKind with ejects := [], state := .fault }).setLog
        (s.log.release (s.lane l).ejects StackRecord.withEjectFault)) := by
  have joins : joinMask l s = (releaseEjects l StackRecord.withEjectFault
      (if (s.lane l).quarantine.isSome then s else startEmptyQuarantine l s)).setLaneState l .fault := if_pos latched
  have lane : (s.setLane l ((s.lane l).quarantining l s.mode.isDryKind)).lane l =
      (s.lane l).quarantining l s.mode.isDryKind := setLane_lane_same _ _ _
  have released := releaseEjects_eq (l := l) (s := s.setLane l ((s.lane l).quarantining l s.mode.isDryKind))
    StackRecord.withEjectFault (by rw [lane]; exact closed) (by rw [lane]; exact once)
  have listed : ((s.lane l).quarantining l s.mode.isDryKind).ejects = (s.lane l).ejects := rfl
  rw [lane, setLane_setLane, listed] at released
  have stated (b : Bool) (v : LaneUnit) (g : StackLog) :
      (raiseIf b .recordReady ((s.setLane l v).setLog g)).setLaneState l .fault =
        raiseIf b .recordReady ((s.setLane l { v with state := .fault }).setLog g) := by
    have lane : (raiseIf b .recordReady ((s.setLane l v).setLog g)).lane l = v := by
      cases b <;> exact setLane_lane_same _ _ _
    rw [State.setLaneState, lane, raiseIf_setLane, setLog_setLane, setLane_setLane]
  rw [joins, startQuarantine_eq, released, stated]
  rfl

/-- What a stack closed short makes of its lane and of its slot. -/
def Ends (t : State) (l : Lane) (i : SlotIndex) (u : LaneUnit) (st : StackState) (r : StackRecord) : Prop :=
  t.lane l = u ∧ t.slot i = .held st r

theorem Ends.of_written (t : State) (l : Lane) (i : SlotIndex) (u : LaneUnit) (st : StackState) (r : StackRecord)
    (ready : List SlotIndex) :
    Ends ((t.setLane l u).setLog { slots := t.log.slots.set i.val (.held st r), ready := ready }) l i u st r :=
  ⟨setLane_lane_same t l u, setSlot_slot_same t i _⟩

theorem Ends.headReady (t : State) (l : Lane) (i : SlotIndex) (r : StackRecord) :
    Ends (t.headReady l i r) l i { t.lane l with
      ejects := match (t.lane l).ejects.tail with
        | [] => []
        | e :: rest => { e with position := { e.position with reached := false } } :: rest } .ready r :=
  Ends.of_written t l i _ .ready r _

theorem Ends.pulsedFor {i : SlotIndex} {v : LaneUnit} {st : StackState} {r : StackRecord} (ends : Ends t l i v st r)
    (seq : Seq) : Ends (t.pulsedFor l i seq) l i { v with pulseStack := some (i, seq) } st r := by
  refine ⟨(setLane_lane_same _ l _).trans ?_, ends.2⟩
  rw [ends.1]

/-- The stack closed short depends on its lane, its pusher, the profile, the mode and the belt. -/
theorem shortEnded_ends {o : OpenStack} {q : StackRecord} (kind : ClosingKind) (lane : t.lane l = s.lane l)
    (pusher : t.pusher l = s.pusher l) (profile : t.profile = s.profile) (mode : t.mode = s.mode) (belt : t.belt = s.belt) :
    ∃ u st r, Ends (t.shortEnded l o q kind) l o.slot u st r ∧ Ends (s.shortEnded l o q kind) l o.slot u st r := by
  have at' : t.ejectAt o = s.ejectAt o := by rw [State.ejectAt, profile]; rfl
  have waits : EjectWaits t l o q ↔ EjectWaits s l o q := by rw [EjectWaits, EjectWaits, lane, belt, at', mode]
  have record (r : StackRecord) : t.ejectedRecord l r = s.ejectedRecord l r := by
    rw [State.ejectedRecord, pusher]
    rfl
  have ready (v : LaneUnit) (r : StackRecord) (w : State) := Ends.headReady (w.setLane l v) l o.slot r
  simp only [setLane_lane_same] at ready
  unfold State.shortEnded
  dsimp only
  rw [if_congr waits rfl rfl, lane, at', record, mode, pusher]
  by_cases wait : EjectWaits s l o q
  · rw [if_pos wait, if_pos wait, State.shortClosed, State.shortClosed, lane, at']
    by_cases empty : q.count = 0
    · rw [if_pos empty, if_pos empty]
      exact ⟨_, _, _, .of_written t l o.slot _ _ _ _, .of_written s l o.slot _ _ _ _⟩
    · rw [if_neg empty, if_neg empty]
      exact ⟨_, _, _, .of_written t l o.slot _ _ _ _, .of_written s l o.slot _ _ _ _⟩
  · rw [if_neg wait, if_neg wait]
    by_cases dry : s.mode.isDryKind = true
    · rw [if_pos dry, if_pos dry]
      exact ⟨_, _, _, ready _ _ t, ready _ _ s⟩
    · rw [if_neg dry, if_neg dry]
      cases (s.pusher l).drive with
      | free => exact ⟨_, _, _, (ready _ _ t).pulsedFor _, (ready _ _ s).pulsedFor _⟩
      | latched => exact ⟨_, _, _, ready _ _ t, ready _ _ s⟩
      | pulse w | offTime w =>
        exact ⟨_, _, _, .of_written t l o.slot _ _ _ _, .of_written s l o.slot _ _ _ _⟩

end

end Sys2Proof.Machine


/-!
PROOFS. Every row that applies a commit changes the mask once, and does nothing else to lanes and log (R183).
-/

namespace Sys2Proof.Machine

/-! ## What leaves the lanes as they are -/

/-- The lanes, the log, the profile unit and the positions stand. -/
structure LanesStand (s t : State) : Prop where
  lanes : t.lanes = s.lanes
  log : t.log = s.log
  prof : t.prof = s.prof
  pos : t.pos = s.pos

section
variable {s t u : State}

theorem LanesStand.refl (s : State) : LanesStand s s := ⟨rfl, rfl, rfl, rfl⟩

theorem LanesStand.trans (st : LanesStand s t) (tu : LanesStand t u) : LanesStand s u :=
  ⟨tu.lanes.trans st.lanes, tu.log.trans st.log, tu.prof.trans st.prof, tu.pos.trans st.pos⟩

theorem receiveMark_stands (m : MarkRecord) (s : State) : LanesStand s (receiveMark m s) := by
  obtain ⟨pos, -, lanes, log, prof, -⟩ := receiveMark_frame m s
  exact ⟨lanes, log, prof, pos⟩

/-- The work that follows the numbering of a mark event. -/
theorem recorded_stands (m : MarkEvent) (n : RepeatNo) (s : State) :
    LanesStand s (recordMark m n (armNext m.position (filterStage m s))) := by
  rw [recorded_eq]
  cases s.clampsAt m <;> exact ⟨rfl, rfl, rfl, rfl⟩

theorem classifyAndNumber_stands (m : MarkEvent) (s : State) : LanesStand s (classifyAndNumber m s) :=
  ⟨by simp, by simp, by simp, by simp⟩

theorem takeMark_stands (m : MarkEvent) (noCommit : s.prof.commit = none) : LanesStand s (takeMark m s) := by
  have notDue := commitDue_of_none noCommit s.reg.number
  rw [takeMark_eq, if_neg (by simp [notDue])]
  refine .trans ?_ (receiveMark_stands _ _)
  rw [markedFor, classified, if_neg (by simp [notDue])]
  exact (classifyAndNumber_stands m s).trans (recorded_stands _ _ _)

theorem expireNow_stands (w : MarkWindow) (noCommit : s.prof.commit = none) : LanesStand s (expireNow w s) := by
  have taken := takeMark_stands (s := s.setReg { s.reg with windowCounter := 0 }) (expiryEvent s w.expected) noCommit
  exact ⟨taken.lanes, taken.log, taken.prof, taken.pos⟩

theorem nextReached_stands {take : State → State} (next : nextReached s = some take) (noCommit : s.prof.commit = none) :
    LanesStand s (take s) := by
  rcases nextReached_cases next with ⟨e, -, rfl⟩ | ⟨w, -, rfl | rfl⟩
  · exact takeMark_stands _ noCommit
  · exact ⟨rfl, rfl, rfl, rfl⟩
  · unfold takeExpiry
    split
    · exact ⟨rfl, rfl, rfl, rfl⟩
    · exact expireNow_stands w noCommit

theorem takePassed_stands (k : Nat) (noCommit : s.prof.commit = none) : LanesStand s (takePassed k s) := by
  induction k generalizing s with
  | zero => exact .refl s
  | succ k ih =>
    unfold takePassed
    split
    · split
      · next take next =>
        have stands := nextReached_stands next noCommit
        exact stands.trans (ih (by rw [stands.prof]; exact noCommit))
      · exact .refl s
    · exact .refl s

theorem immediateRegistration_stands (old : Profile) (noCommit : s.prof.commit = none) :
    LanesStand s (immediateRegistration old s) := by
  unfold immediateRegistration
  split
  · split
    · exact ⟨rfl, rfl, rfl, rfl⟩
    · unfold expireAtCommit
      split
      · exact .refl s
      · next w _ =>
        split
        · have expires := expireNow_stands w noCommit
          exact expires.trans (takePassed_stands _ (by rw [expires.prof]; exact noCommit))
        · exact .refl s
  · exact .refl s

/-! ## The commit and its deficits -/

/-- The state in which a commit changes the mask: of the blocks that lanes touch, only the profiles are new. -/
structure Opens (s x : State) : Prop where
  lanes : x.lanes = s.lanes
  log : x.log = s.log
  act : x.act = s.act
  pos : x.pos = s.pos
  prof : x.prof = { s.prof with active := s.prof.pending, commit := none }

theorem applyCommit_opens (s : State) :
    ∃ x, Opens s x ∧ applyCommit s = changeMasks s.prof.active.laneMask s.prof.pending.laneMask x := by
  let x := applyToCandidate s.profile (applyToRepeatLength s.profile
    (raiseEvent .commitApplied (s.setProf { s.prof with active := s.prof.pending, commit := none })))
  have opens : Opens s x := ⟨by simp [x], by simp [x], by simp [x], by simp [x], by simp [x]⟩
  refine ⟨x, opens, ?_⟩
  have profile : x.profile = s.prof.pending := congrArg ProfileUnit.active opens.prof
  rw [← profile]
  rfl

/-- The row's lanes and log are those of one change of the mask. -/
def ChangesMaskOnce (s t : State) : Prop :=
  ∃ x, Opens s x ∧ t.lanes = (changeMasks s.prof.active.laneMask s.prof.pending.laneMask x).lanes ∧
    t.log = (changeMasks s.prof.active.laneMask s.prof.pending.laneMask x).log ∧ t.profile = s.prof.pending ∧
    t.mode = s.mode ∧ t.pos = s.pos ∧ t.prof.commit = none

theorem applyCommit_changes (s : State) : ChangesMaskOnce s (applyCommit s) := by
  obtain ⟨x, opens, same⟩ := applyCommit_opens s
  obtain ⟨mode, profile, pos, commit, -⟩ := applyCommit_views s
  exact ⟨x, opens, by rw [same], by rw [same], profile, mode, pos, commit⟩

theorem ChangesMaskOnce.stands (changes : ChangesMaskOnce s t) (stands : LanesStand t u) : ChangesMaskOnce s u := by
  obtain ⟨x, opens, lanes, log, profile, mode, pos, commit⟩ := changes
  exact ⟨x, opens, stands.lanes.trans lanes, stands.log.trans log,
    (congrArg ProfileUnit.active stands.prof).trans profile, (congrArg ProfileUnit.mode stands.prof).trans mode,
    stands.pos.trans pos, (congrArg ProfileUnit.commit stands.prof).trans commit⟩

/-- Deficits within the new limit halt nothing (R12). -/
theorem ChangesMaskOnce.testDeficits (changes : ChangesMaskOnce s t)
    (within : s.mode ≠ .setup → DeficitsWithin s s.prof.pending.reverseLimit) :
    ChangesMaskOnce s (Machine.testDeficits t) := by
  have same : Machine.testDeficits t = t := by
    obtain ⟨-, -, -, -, profile, mode, pos, -⟩ := changes
    unfold Machine.testDeficits
    rw [mode, profile, pos]
    by_cases tracks : s.mode.tracks = true
    · have running : s.mode ≠ .setup := fun setup => by
        rw [setup] at tracks
        cases tracks
      obtain ⟨web, belt⟩ := within running
      exact (if_pos tracks).trans ((if_neg (Nat.not_lt.mpr web)).trans (if_neg (Nat.not_lt.mpr belt)))
    · exact if_neg tracks
  rw [same]
  exact changes

/-- The same for a state that the row hands on. -/
theorem ChangesMaskOnce.of_opened {y : State} (changes : ChangesMaskOnce y t) (stands : LanesStand s y) (act : y.act = s.act) :
    ChangesMaskOnce s t := by
  obtain ⟨x, opens, lanes, log, profile, mode, pos, commit⟩ := changes
  rw [stands.prof] at lanes log profile
  refine ⟨x, ⟨opens.lanes.trans stands.lanes, opens.log.trans stands.log, opens.act.trans act,
    opens.pos.trans stands.pos, ?_⟩, lanes, log, profile, mode.trans (congrArg ProfileUnit.mode stands.prof),
    pos.trans stands.pos, commit⟩
  rw [← stands.prof]
  exact opens.prof

/-! ## The rows (R183) -/

/-- A mark event at the commit's point. -/
theorem takeMark_changes (m : MarkEvent) (due : s.commitDue s.reg.number = true)
    (within : s.mode ≠ .setup → DeficitsWithin s s.prof.pending.reverseLimit) : ChangesMaskOnce s (takeMark m s) := by
  have numbered : ChangesMaskOnce s (applyCommit (classifyAndNumber m s)) :=
    (applyCommit_changes _).of_opened (classifyAndNumber_stands m s) (by simp)
  have committed : LanesStand (applyCommit (classifyAndNumber m s)) (commitAtMark (classifyAndNumber m s)) := by
    unfold commitAtMark
    dsimp only
    split
    · exact ⟨rfl, rfl, rfl, rfl⟩
    · exact .refl _
  have classifies : classified m s = commitAtMark (classifyAndNumber m s) := if_pos due
  rw [takeMark_eq, if_pos due, markedFor, classifies]
  exact ((numbered.stands committed).stands
    ((recorded_stands m s.reg.number _).trans (receiveMark_stands _ _))).testDeficits within

theorem commitNow_changes (within : s.mode ≠ .setup → DeficitsWithin s s.prof.pending.reverseLimit) :
    ChangesMaskOnce s (commitNow s) := by
  have applied := applyCommit_changes s
  have noCommit : (applyCommit s).prof.commit = none := (applyCommit_views s).2.2.2.1
  exact (applied.stands (immediateRegistration_stands s.profile noCommit)).testDeficits within

theorem refreshFilters_stands (before after : State) : LanesStand after (refreshFilters before after) :=
  ⟨by simp, by simp, by simp, by simp⟩

theorem reply_stands (s : State) (k : StationLink) (q : Request) (res : Result) (p : Payload) :
    LanesStand s (s.reply k q res p) := by
  obtain ⟨pos, -, -, -, lanes, log, -, prof, -⟩ := reply_frame s k q res p
  exact ⟨lanes, log, prof, pos⟩

/-- A row that brings a mark event at the commit's point. -/
theorem marksAt_changes {c : Instr} (row : s.marksAt c = true) (due : s.commitDue s.reg.number = true)
    (clear : SensesClear s) (within : s.mode ≠ .setup → DeficitsWithin s s.prof.pending.reverseLimit) :
    ∃ t, exec c s = .next t ∧ ChangesMaskOnce s t := by
  obtain ⟨m, u, before, answered, hands⟩ := marksAt_brings row
  have stands : LanesStand s u := ⟨hands.lanes, hands.log, hands.prof, hands.pos⟩
  have dueU : u.commitDue u.reg.number = true := by rw [hands.number, State.commitDue, hands.prof]; exact due
  have withinU : u.mode ≠ .setup → DeficitsWithin u u.prof.pending.reverseLimit := by
    rw [State.mode, DeficitsWithin, State.webDeficit, State.beltDeficit, State.web, State.belt, hands.prof, hands.pos]
    exact within
  have taken := takeMark_changes m dueU withinU
  have noCommit : (takeMark m u).prof.commit = none := taken.choose_spec.2.2.2.2.2.2
  have quiet : SensesClear (afterMark (takeMark m u)) := (hands.senses clear).of_senses
    ((afterMark_frame _).1.trans (takeMark_frame m u).1)
    ((afterMark_internal _).enabled.trans (takeMark_internal m u).enabled)
  refine ⟨_, answered, ?_⟩
  rw [finishDrive_of_noOverload quiet.not_overloaded]
  exact ((taken.of_opened stands hands.act).stands (takePassed_stands _ noCommit)).stands (refreshFilters_stands _ _)

/-- A COMMIT_PROFILE that is applied at the request. -/
theorem commitProfile_changes {n : RepeatNo} (row : s.commitsAt (.commitProfile .line 0 n) = true) (frames : FramesWhole s)
    (clear : SensesClear s) (within : s.mode ≠ .setup → DeficitsWithin s s.prof.pending.reverseLimit) :
    ∃ t, exec (.commitProfile .line 0 n) s = .next t ∧ ChangesMaskOnce s t := by
  simp only [State.commitsAt, Bool.and_eq_true, Option.isNone_iff_eq_none, Bool.not_eq_true', Bool.and_eq_false_iff,
    Bool.not_eq_false'] at row
  obtain ⟨⟨⟨noCommit, running⟩, valid⟩, free⟩ := row
  have passed : commitRefusal (operandOf 0 n) s = none := by
    rw [commitRefusal_eq (Nat.zero_le 3), if_neg (not_not_intro noCommit), if_neg (by simp [running]), if_neg ?_,
      if_neg (by simp), valid]
    · rfl
    · rintro ⟨-, tracks, held⟩
      rcases free with idle | ⟨⟨schedule, queue⟩, records⟩
      · rw [tracks] at idle
        cases idle
      · simp only [List.isEmpty_iff] at schedule queue records
        simp [schedule, queue, records] at held
  have answered := exec_commitProfile frames 0 n
  have accepted : acceptCommit .line (operandOf 0 n) s =
      (finishDrive s (commitNow s)).reply .line .commitProfile .ok (.commitAccepted true) := rfl
  rw [commitProfile_of_accepted (Nat.zero_le 3) passed, accepted] at answered
  have quiet : SensesClear (commitNow s) := clear.of_senses (commitNow_frame s).1 (commitNow_internal s).enabled
  have finished := (commitNow_changes within).stands (refreshFilters_stands s _)
  rw [← finishDrive_of_noOverload (before := s) quiet.not_overloaded] at finished
  exact ⟨_, answered, finished.stands (reply_stands _ _ _ _ _)⟩

/-- Every row that applies a commit changes the mask once. -/
theorem commitsAt_changes {c : Instr} (row : s.commitsAt c = true) (frames : FramesWhole s) (clear : SensesClear s)
    (within : s.mode ≠ .setup → DeficitsWithin s s.prof.pending.reverseLimit) :
    ∃ t, exec c s = .next t ∧ ChangesMaskOnce s t := by
  by_cases request : ∃ n, c = .commitProfile .line 0 n
  · obtain ⟨n, rfl⟩ := request
    exact commitProfile_changes row frames clear within
  · unfold State.commitsAt at row
    split at row
    · next n => exact absurd ⟨n, rfl⟩ request
    · rw [Bool.and_eq_true] at row
      exact marksAt_changes row.1 row.2 clear within

end

end Sys2Proof.Machine


/-!
PROOFS. The lanes of a commit that changes the mask (R142, R143), each by itself.
-/

namespace Sys2Proof.Machine

section
variable {l : Lane} {s t x a y : State}

/-- The slots of a lane's closed stacks are held by no other lane. -/
theorem avoids_of_listed (own : LanesOwnTheirSlots s) {e : Eject} (listed : e ∈ (s.lane l).ejects) :
    s.slot e.slot ≠ .free ∧ ∀ m, m ≠ l → (s.lane m).Avoids e.slot := by
  obtain ⟨r, content, closed, lane, -⟩ := (own l).2.1 e listed
  have held := Slot.eq_held_of_isIn content closed
  refine ⟨by rw [held]; exact nofun, fun m other => ⟨fun o opened same => ?_, fun e' listed' same => ?_⟩⟩
  · obtain ⟨r', content', forming, -⟩ := (own m).1 o opened
    rw [same, held] at forming
    cases forming
  · obtain ⟨r', content', -, lane', -⟩ := (own m).2.1 e' listed'
    rw [same, held] at content'
    cases content'
    exact other (lane'.symm.trans lane)

/-- A slot of the lane stands until the lane's own change, and what that makes of it stands after. -/
theorem slot_between {old new : LaneSet} (before : Beside l x a) (after : Beside l (changeMask old new l a) y)
    {i : SlotIndex} (mine : x.slot i ≠ .free ∧ ∀ m, m ≠ l → (x.lane m).Avoids i) :
    a.slot i = x.slot i ∧ ((changeMask old new l a).slot i ≠ .free → y.slot i = (changeMask old new l a).slot i) := by
  obtain ⟨slot, avoids⟩ := before.slots i mine.1 mine.2
  obtain ⟨move, -⟩ := changeMask_remasked old new l a
  refine ⟨slot, fun occupied => (after.slots i occupied fun m other => ?_).1⟩
  rw [move.others m other]
  exact avoids m other

theorem changeMask_of_leaves {old new : LaneSet} (was : LaneSet.has old l = true) (is : LaneSet.has new l = false) :
    changeMask old new l s = leaveMask l s := by
  unfold changeMask
  rw [was, is]

theorem changeMask_of_joins {old new : LaneSet} (was : LaneSet.has old l = false) (is : LaneSet.has new l = true) :
    changeMask old new l s = joinMask l s := by
  unfold changeMask
  rw [was, is]

theorem changeMask_of_stays {old new : LaneSet} (same : LaneSet.has old l = LaneSet.has new l) :
    changeMask old new l s = s := by
  unfold changeMask
  rw [same]
  cases LaneSet.has new l <;> rfl

theorem laneLatched_iff (s : State) (l : Lane) :
    s.laneLatched l = true ↔ (s.gate l).latch ≠ none ∨ (s.pusher l).latch ≠ none := by
  rw [State.laneLatched, Bool.or_eq_true, Option.isSome_iff_ne_none, Option.isSome_iff_ne_none]

/-- A lane that leaves while it stacks. -/
theorem leaveMask_ends {o : OpenStack} {q : StackRecord} {u : State} (state : (a.lane l).state = .stacking)
    (forming : a.formingStack l = some (o, q)) (lane : a.lane l = u.lane l) (pusher : a.pusher l = u.pusher l)
    (profile : a.profile = u.profile) (mode : a.mode = u.mode) (belt : a.belt = u.belt) :
    (leaveMask l a).lane l = { (u.shortEnded l o q .shortLaneRemoved).lane l with state := .off } ∧
    (leaveMask l a).slot o.slot = (u.shortEnded l o q .shortLaneRemoved).slot o.slot ∧
    (leaveMask l a).slot o.slot ≠ .free := by
  obtain ⟨v, st, r, ⟨laneA, slotA⟩, laneU, slotU⟩ :=
    shortEnded_ends (o := o) (q := q) .shortLaneRemoved lane pusher profile mode belt
  have slot : (leaveMask l a).slot o.slot = .held st r := by
    rw [leaveMask_of_stacking state forming]
    exact slotA
  refine ⟨?_, slot.trans slotU.symm, by rw [slot]; exact nofun⟩
  rw [leaveMask_of_stacking state forming, State.setLaneState, setLane_lane_same, laneA, laneU]

/-- A lane that joins with a latch. -/
theorem joinMask_faults (latched : a.laneLatched l = true) (own : LanesOwnTheirSlots x) (lane : a.lane l = x.lane l)
    (slots : ∀ e ∈ (x.lane l).ejects, a.slot e.slot = x.slot e.slot) :
    (joinMask l a).lane l = { (x.lane l).quarantining l a.mode.isDryKind with ejects := [], state := .fault } ∧
    ∀ e ∈ (x.lane l).ejects, ∃ r ∈ (x.slot e.slot).record?,
      (joinMask l a).slot e.slot = .held .ready r.withEjectFault := by
  have closed (e : Eject) (member : e ∈ (a.lane l).ejects) : ∃ r, a.slot e.slot = .held .closed r := by
    rw [lane] at member
    obtain ⟨r, held, -⟩ := listed_of_owns own member
    exact ⟨r, (slots e member).trans held⟩
  have joins := joinMask_of_latched latched closed (by rw [lane]; exact (own l).2.2)
  have lanes : (joinMask l a).lanes = (a.setLane l { (a.lane l).quarantining l a.mode.isDryKind with
      ejects := [], state := .fault }).lanes := by rw [joins]; simp
  have log : (joinMask l a).log = a.log.release (a.lane l).ejects StackRecord.withEjectFault := by rw [joins]; simp
  refine ⟨?_, fun e member => ?_⟩
  · rw [State.lane, lanes]
    refine (setLane_lane_same a l _).trans ?_
    rw [lane]
  · obtain ⟨r, held, -⟩ := listed_of_owns own member
    refine ⟨r, by rw [held]; rfl, ?_⟩
    rw [State.slot, log, StackLog.release_slot, lane]
    have content : a.log.slots[e.slot] = .held .closed r := (slots e member).trans held
    rw [content]
    exact if_pos (List.any_eq_true.mpr ⟨e, member, beq_self_eq_true e.slot⟩)

end

/-- Settles O53: the lane that stays, leaves or joins, between the changes of the others. -/
theorem maskChangesActOnTheirLanes : Obligations.MaskChangesActOnTheirLanes := by
  intro c l s row frames clear own within u was is latched
  obtain ⟨t, answered, x, opens, lanes, log, profile, -⟩ := commitsAt_changes row frames clear within
  obtain ⟨a, before, after⟩ := changeMasks_at s.prof.active.laneMask s.prof.pending.laneMask l x
  generalize changeMasks s.prof.active.laneMask s.prof.pending.laneMask x = y at lanes log after
  have xLane (m : Lane) : x.lane m = s.lane m := by rw [State.lane, opens.lanes]; rfl
  have xSlot (i : SlotIndex) : x.slot i = s.slot i := by rw [State.slot, opens.log]; rfl
  have xForming : x.formingStack l = s.formingStack l := by
    unfold State.formingStack State.formingRecord
    simp only [xLane, xSlot]
  have xOwn : LanesOwnTheirSlots x := by
    intro m
    rw [xLane]
    simp only [xSlot]
    exact own m
  have lane : a.lane l = s.lane l := before.lane.trans (xLane l)
  have aProf := before.prof.trans opens.prof
  have aMode : a.mode = s.mode := (congrArg ProfileUnit.mode aProf).trans rfl
  have aProfile : a.profile = u.profile := (congrArg ProfileUnit.active aProf).trans rfl
  have own' (c : State → State) (change : changeMask s.prof.active.laneMask s.prof.pending.laneMask l a = c a) :
      t.lane l = (c a).lane l := by
    rw [State.lane, lanes, ← change]
    exact after.lane
  have latches : a.laneLatched l = true ↔ latched := by
    rw [before.latched, laneLatched_of_act opens.act]
    exact laneLatched_iff s l
  have slot (i : SlotIndex) (mine : x.slot i ≠ .free ∧ ∀ m, m ≠ l → (x.lane m).Avoids i) := slot_between before after mine
  have tSlot (i : SlotIndex) : t.slot i = y.slot i := by rw [State.slot, log]; rfl
  refine ⟨t, answered, profile, fun stays => ?_, fun wasIn isOut bare => ?_, fun wasIn isOut state o q forming => ?_,
    fun wasOut isIn unlatched => ?_, fun wasOut isIn faults => ?_⟩
  · exact (own' id (changeMask_of_stays stays)).trans lane
  · rw [own' (leaveMask l) (changeMask_of_leaves wasIn isOut), leaveMask_of_bare (by rw [lane]; exact bare),
      setLane_lane_same, lane]
  · have aForming : a.formingStack l = some (o, q) := by
      rw [before.toLeavesLane.formingStack xOwn, xForming, forming]
    obtain ⟨opened, -⟩ := formingStack_eq forming
    obtain ⟨laneEnds, slotEnds, occupied⟩ := leaveMask_ends (u := u) (by rw [lane]; exact state) aForming lane
      (by rw [before.pusher, State.pusher, opens.act]; rfl) aProfile aMode
      (by rw [State.belt, before.pos, opens.pos]; rfl)
    have change := changeMask_of_leaves (s := a) wasIn isOut
    have stands := (slot o.slot (avoids_of_opened xOwn (by rw [xLane]; exact opened))).2
    rw [change] at stands
    refine ⟨(own' (leaveMask l) change).trans laneEnds, ?_⟩
    rw [tSlot, stands occupied, slotEnds]
  · have unlatched' : a.laneLatched l = false := by rw [← Bool.not_eq_true, latches]; exact unlatched
    rw [own' (joinMask l) (changeMask_of_joins wasOut isIn), joinMask_of_unlatched unlatched', State.setLaneState,
      setLane_lane_same, lane, LaneUnit.idleState]
    simp only [List.isEmpty_iff]
  · have slots (e : Eject) (listed : e ∈ (x.lane l).ejects) := slot e.slot (avoids_of_listed xOwn listed)
    obtain ⟨laneEnds, readied⟩ := joinMask_faults (latches.mpr faults) xOwn before.lane fun e listed => (slots e listed).1
    have change := changeMask_of_joins (s := a) wasOut isIn
    refine ⟨?_, fun e listed => ?_⟩
    · rw [own' (joinMask l) change, laneEnds, xLane, aMode]
      rfl
    · rw [← xLane] at listed
      obtain ⟨r, content, ready⟩ := readied e listed
      have stands := (slots e listed).2
      rw [change] at stands
      rw [xSlot] at content
      refine ⟨r, content, ?_⟩
      rw [tSlot, stands (by rw [ready]; exact nofun), ready]
      rfl

end Sys2Proof.Machine
